-- ==== Sys2Proof/Word.lean ====
section
/-! DEFINITION. The plainest words of the model: bytes, 32-bit words, live counters, times. -/

namespace Sys2Proof

/-- One byte of a frame on any of the part's lines. -/
abbrev Byte := BitVec 8

/-- A 32-bit word: unit identifiers, keys and masks (R5, R12, R122, R170). -/
abbrev Word32 := BitVec 32

/-- A live counter: 32 bits, wrapping from its largest value to 0 (R1). -/
abbrev Counter := BitVec 32

/-- The beams of one head, beam n in bit n - 1, a set bit being a blocked beam (R106, R171, R200). -/
abbrev Beams := BitVec 16

/-- The moment at which a command's event falls, in microseconds of the part's timebase. -/
abbrev Micros := Nat

/-- A time of the part's millisecond timebase (00, "Time"). -/
abbrev Millis := Nat

end Sys2Proof
end

