-- ==== Sys2Proof/Config.lean ====
section
/-! DEFINITION. What the spec leaves open and the model leaves free: constants without a body. Nothing in Lean can
evaluate one, so a statement about one holds whatever it is. -/

namespace Sys2Proof.Config

/-- The part code of the device record (R186). The spec gives no value (notes/assumptions/13.md). -/
opaque partCode : BitVec 16

/-- The revision of the device record (R186). The spec gives no value (notes/assumptions/13.md). -/
opaque revision : BitVec 16

/-- Which of two periodic proof telegrams formed together is sent first: "Two periodic telegrams formed together may leave
in either order" (R191). Applied to the number of free values drawn so far; true means face A's
(notes/assumptions/11.md). -/
opaque periodicTie : Nat → Bool

/-- Whether a counter clear in progress has already reached a counter when it is read (R193). Applied to the number of free
values drawn so far and to the counter's place in the reply (notes/assumptions/12.md). -/
opaque clearReached : Nat → Nat → Bool

end Sys2Proof.Config
end

