-- ==== Sys2Proof/Syntax.lean ====
section
/-! DEFINITION. The commands of the block: one constructor of `Instr` for each row of spec/opcode_table.json. -/

namespace Sys2Proof

/-- The two track faces (00, "Faces"). -/
inductive Face where
  | A
  | B
  deriving DecidableEq, Repr

/-- The level of an evacuation input (R131, R201). -/
inductive Level where
  | asserted
  | deasserted
  deriving DecidableEq, Repr

/-- One value for each face. -/
structure PerFace (α : Type) where
  a : α
  b : α
  deriving DecidableEq, Repr

/-- A request frame as the intake queue holds it: class code, face code, tag and payload (R184, R196). -/
structure Request where
  cls : Byte
  face : Byte
  tag : Byte
  payload : List Byte
  deriving DecidableEq, Repr

/-- The commands. Every command carries `t`, the time at which its event falls (notes/assumptions/1.md). The commands of
the requests have no other operand: their operands are the fields of the request at the head of the intake queue
(R184, notes/assumptions/5.md). -/
inductive Instr where
  /-- POWER_ON: the supply has settled; `evac` gives the evacuation inputs as the part finds them (R201, R150). -/
  | powerOn (t : Micros) (evac : PerFace Level)
  /-- RESET_PIN_ASSERT (R201). -/
  | resetPinAssert (t : Micros)
  /-- RESET_PIN_RELEASE, with the evacuation inputs as the part finds them (R201, R150). -/
  | resetPinRelease (t : Micros) (evac : PerFace Level)
  /-- EVAC_INPUT_CHANGE: the input of `face` has held `level` for 10 ms (R137, R201). -/
  | evacInputChange (t : Micros) (face : Face) (level : Level)
  /-- INBOUND_FRAME_DAMAGED (R181). -/
  | inboundFrameDamaged (t : Micros)
  /-- TRAIN_FRAME_DISCARDED: an intact TRAIN frame with face none or an undefined kind (R182). -/
  | trainFrameDiscarded (t : Micros)
  /-- ARRIVAL, with the payload bytes after the kind byte (R11, R196). -/
  | arrival (t : Micros) (face : Face) (body : List Byte)
  /-- POSITION, with the payload bytes after the kind byte (R15, R196). -/
  | position (t : Micros) (face : Face) (body : List Byte)
  /-- DEPARTURE, with the payload bytes after the kind byte (R13, R196). -/
  | departure (t : Micros) (face : Face) (body : List Byte)
  /-- CLEARED, with the payload bytes after the kind byte (R14, R196). -/
  | cleared (t : Micros) (face : Face) (body : List Byte)
  /-- REQUEST_FRAME_RECEIVED (R182, R184). -/
  | requestFrameReceived (t : Micros) (request : Request)
  /-- REQUEST_UNDEFINED_KIND (R182). -/
  | requestUndefinedKind (t : Micros)
  /-- OPEN_FACE (R54). -/
  | openFace (t : Micros)
  /-- CLOSE_FACE (R55, R126). -/
  | closeFace (t : Micros)
  /-- REOPEN_DOOR (R56). -/
  | reopenDoor (t : Micros)
  /-- CLOSE_DOOR (R57). -/
  | closeDoor (t : Micros)
  /-- ISOLATE_DOOR (R58). -/
  | isolateDoor (t : Micros)
  /-- RETURN_DOOR (R59). -/
  | returnDoor (t : Micros)
  /-- HOLD_ADD (R123). -/
  | holdAdd (t : Micros)
  /-- HOLD_CANCEL (R124). -/
  | holdCancel (t : Micros)
  /-- RESTORE (R142). -/
  | restore (t : Micros)
  /-- EVACUATE (R138). -/
  | evacuate (t : Micros)
  /-- TUNNEL (R96). -/
  | tunnel (t : Micros)
  /-- WRITE_ENTRY (R172). -/
  | writeEntry (t : Micros)
  /-- READ_ENTRY (R173). -/
  | readEntry (t : Micros)
  /-- ACTIVATE (R174). -/
  | activate (t : Micros)
  /-- READ_STATUS (R187). -/
  | readStatus (t : Micros)
  /-- READ_DOOR (R187). -/
  | readDoor (t : Micros)
  /-- SET_DEVICE (R186). -/
  | setDevice (t : Micros)
  /-- READ_EVENTS (R189). -/
  | readEvents (t : Micros)
  /-- SNAPSHOT_COUNTERS (R192). -/
  | snapshotCounters (t : Micros)
  /-- READ_COUNTERS (R192). -/
  | readCounters (t : Micros)
  /-- CLEAR_COUNTERS (R193). -/
  | clearCounters (t : Micros)
  /-- SOFT_RESET, with the evacuation inputs as the part finds them (R194, R151, R201). -/
  | softReset (t : Micros) (evac : PerFace Level)
  /-- TRANSMIT_FRAME_END (R191). -/
  | transmitFrameEnd (t : Micros)
  /-- UPLINK_SILENCE_EXPIRY (R183). -/
  | uplinkSilenceExpiry (t : Micros)
  /-- SUPERVISION_EXPIRY (R22). -/
  | supervisionExpiry (t : Micros) (face : Face)
  /-- ALIGNMENT_COMPLETE (R30). -/
  | alignmentComplete (t : Micros)
  /-- OPEN_TIMEOUT_EXPIRY of one door (R66). -/
  | openTimeoutExpiry (t : Micros) (face : Face) (door : Nat)
  /-- CLOSE_TIMEOUT_EXPIRY of one door (R66). -/
  | closeTimeoutExpiry (t : Micros) (face : Face) (door : Nat)
  /-- RECYCLE_DWELL_EXPIRY of one door (R67). -/
  | recycleDwellExpiry (t : Micros) (face : Face) (door : Nat)
  /-- OBSTRUCTION_REPORT: the report for one door is taken (R115). -/
  | obstructionReport (t : Micros) (face : Face) (door : Nat)
  /-- HOLD_MAXIMUM_EXPIRY (R128). -/
  | holdMaximumExpiry (t : Micros) (face : Face)
  /-- PARTNER_DWELL_EXPIRY (R127). -/
  | partnerDwellExpiry (t : Micros) (face : Face)
  /-- TURN_ANSWER: the bytes that arrive on the face's line, and whether every character's parity checked (R87, R199). -/
  | turnAnswer (t : Micros) (face : Face) (bytes : List Byte) (parityOk : Bool)
  /-- ANSWER_WINDOW_EXPIRY (R81). -/
  | answerWindowExpiry (t : Micros) (face : Face)
  /-- LATE_FRAME_DISCARDED (R81). -/
  | lateFrameDiscarded (t : Micros) (face : Face)
  /-- TUNNEL_TIMEOUT (R99). -/
  | tunnelTimeout (t : Micros) (face : Face)
  /-- SCAN_FRAME_ARRIVAL: `t` is when the first byte arrives, `bytes` is what the frame brings before the cycle end or
  before the next frame (R105, R200). -/
  | scanFrameArrival (t : Micros) (bytes : List Byte) (parityOk : Bool)
  /-- SENSOR_CYCLE_END (R114). -/
  | sensorCycleEnd (t : Micros)
  /-- PERIODIC_PROOF_EXPIRY (R162). -/
  | periodicProofExpiry (t : Micros) (face : Face)
  /-- VALIDATION_COMPLETE (R176). -/
  | validationComplete (t : Micros)
  /-- COPY_COMPLETE (R179). -/
  | copyComplete (t : Micros)
  /-- SNAPSHOT_READY (R192). -/
  | snapshotReady (t : Micros)
  /-- COUNTER_CLEAR_COMPLETE (R193). -/
  | counterClearComplete (t : Micros)
  /-- POWER_LOSS (R201). -/
  | powerLoss (t : Micros)
  deriving DecidableEq, Repr

end Sys2Proof
end

