-- ==== Sys2Proof/Machine/State.lean ====
section
/-! DEFINITION. The state of the part as plain data, and the state right after power-on. Every field's docstring names the
rule of spec/ that gives it; INVENTORY.md lists them all with their reset values. -/

namespace Sys2Proof.Machine

/-! ## Reason codes and events -/

/-- The reason codes of a REFUSED result, in the order that codes them 1 to 17 (00, R196). -/
inductive Reason where
  | badArgument | badState | busy | notConfigured | berthOccupied | notEnabled | evacuating | holdClosedActive | full
  | notNow | protect | inputActive | releaseActive | tableLocked | tableInvalid | tableConflict | timeout
  deriving DecidableEq, Repr

/-- The result of a request that is answered (R3). -/
inductive Result where
  | done
  | deferred
  | refused (reason : Reason)
  deriving DecidableEq, Repr

/-- The 23 event kinds, in the order that codes them 1 to 23 (R188, R196): 18 of a face, then 5 of the device. -/
inductive EventKind where
  | manualRelease | evacuationStart | restored | restoreRefused | doorStalled | doorHeld | doorLost | doorReturned
  | movementUnproven | departureUnproven | positionStale | noProfile | misaligned | partialAlign | gapAfterClose
  | headSilent | holdEnded | bankAdopted
  | reset | uplinkDegraded | intakeOverrun | copyDone | countersCleared
  deriving DecidableEq, Repr

/-- The scope of a flag set and of a notice (R188, R190). -/
inductive Scope where
  | device
  | face (f : Face)
  deriving DecidableEq, Repr

/-- One value for each scope. -/
structure PerScope (α : Type) where
  device : α
  a : α
  b : α
  deriving DecidableEq, Repr

/-! ## Berth Tracker -/

/-- The berth states, in the order that codes them 0 to 5 (R5, R196). -/
inductive BerthState where
  | vacant | approaching | aligning | stopped | dwelling | departing
  deriving DecidableEq, Repr

/-- A train's direction (00). -/
inductive Direction where
  | up | down
  deriving DecidableEq, Repr

/-- Which end of a unit leads (00). -/
inductive Orientation where
  | end1Leading | end2Leading
  deriving DecidableEq, Repr

/-- One unit of a train record (R5). -/
structure TrainUnit where
  ident : Word32
  orientation : Orientation
  profile : Option Nat
  deriving DecidableEq, Repr

/-- An entry of the sample ring (R16). -/
structure Sample where
  position : Nat
  speed : Nat
  clamped : Bool
  deriving DecidableEq, Repr

/-- The train record with what is present from ARRIVAL on: the sample ring, oldest first, and the profile gap mark (R5). -/
structure Train where
  direction : Direction
  units : List TrainUnit
  ring : List Sample
  gapMark : Bool
  deriving DecidableEq, Repr

/-- The pairing entry of one enabled platform door (R40). -/
structure Pairing where
  door : Nat
  unitNo : Nat
  trainDoor : Nat
  overlap : Nat
  deriving DecidableEq, Repr

/-- The kinds of TRAIN telegram, in the order that codes them 1 to 4 (R6, R196). -/
inductive TelegramKind where
  | arrival | position | departure | cleared
  deriving DecidableEq, Repr

/-- The berth record (R5) and the face state that outlives a train (R6). -/
structure Berth where
  state : BerthState
  train : Option Train
  stop : Option Nat
  stopError : Option Int
  enable : List Nat
  pairing : List Pairing
  ticket : BitVec 8
  dwellStart : Option Millis
  supervision : Option Millis
  lastSample : Option Millis
  lastRefusal : Option (TelegramKind × Reason)
  policed : Counter
  clampedSamples : Counter
  telegramsRefused : Counter
  deriving DecidableEq, Repr

/-! ## Tables -/

/-- The action of a condition (R168). -/
inductive Action where
  | report | withhold | holdClosed
  deriving DecidableEq, Repr

/-- The six condition kinds (R157). -/
inductive Condition where
  | positionStale | uplinkDegraded | headSilent | doorStalled | doorHeld | noProfile
  deriving DecidableEq, Repr

/-- One value for each condition kind. -/
structure PerCondition (α : Type) where
  positionStale : α
  uplinkDegraded : α
  headSilent : α
  doorStalled : α
  doorHeld : α
  noProfile : α
  deriving DecidableEq, Repr

/-- A set of conditions. -/
abbrev ConditionSet := PerCondition Bool

/-- A Face Parameter Record (R168). -/
structure FaceParams where
  extentLow : Nat
  extentHigh : Nat
  target : Nat
  creep : Nat
  supervision : Nat
  openTimeout : Nat
  closeTimeout : Nat
  recycleDwell : Nat
  maxRecycles : Nat
  badFrameLimit : Nat
  actions : PerCondition Action
  deriving DecidableEq, Repr

/-- An entry of a Platform Door Table (R169). -/
structure DoorEntry where
  drop : Nat
  centre : Nat
  halfWidth : Nat
  minClear : Nat
  deriving DecidableEq, Repr

/-- One door of a profile (R170). -/
structure ProfileDoor where
  offset : Nat
  halfWidth : Nat
  deriving DecidableEq, Repr

/-- An entry of the Consist Profile Table (R170). -/
structure Profile where
  length : Nat
  coupling : Nat
  doors : List ProfileDoor
  deriving DecidableEq, Repr

/-- An entry of the Consist Match Table (R170). -/
structure MatchEntry where
  valid : Bool
  key : Word32
  mask : Word32
  profile : Nat
  deriving DecidableEq, Repr

/-- The policy of a zone (R171). -/
inductive Policy where
  | recycle | proofOnly
  deriving DecidableEq, Repr

/-- An entry of the Zone Table (R171). -/
structure ZoneEntry where
  face : Face
  door : Nat
  head : Nat
  beams : Beams
  kOn : Nat
  kOff : Nat
  policy : Policy
  deriving DecidableEq, Repr

/-- The five tables of a bank (R168 to R171). -/
structure Tables where
  params : PerFace (Option FaceParams)
  doors : PerFace (Vector (Option DoorEntry) 32)
  profiles : Vector (Option Profile) 16
  consist : Vector MatchEntry 32
  zones : Vector (Option ZoneEntry) 64
  deriving DecidableEq, Repr

/-- The bank states (R167). -/
inductive BankState where
  | empty | edit | staged | active | copying
  deriving DecidableEq, Repr

/-- A bank: its state and its tables (R166). -/
structure Bank where
  state : BankState
  tables : Tables
  deriving DecidableEq, Repr

/-- The two banks (R166). -/
inductive BankId where
  | b0 | b1
  deriving DecidableEq, Repr

/-- The validation record (R166, R174). -/
structure Validation where
  tag : Byte
  bank : BankId
  takenAt : Millis
  deriving DecidableEq, Repr

/-- The copy record (R166, R179). -/
structure CopyRecord where
  written : BankId
  source : BankId
  beganAt : Millis
  deriving DecidableEq, Repr

/-- The Table Store (R166). -/
structure TableStore where
  bank0 : Bank
  bank1 : Bank
  active : PerFace (Option BankId)
  edit : Option BankId
  staged : Option BankId
  validation : Option Validation
  copy : Option CopyRecord
  deriving DecidableEq, Repr

/-! ## Alignment Engine -/

/-- The inputs of a computation (R32). A unit is its orientation and its profile, absent where its index is. -/
structure AlignInput where
  stop : Nat
  direction : Direction
  units : List (Orientation × Option Profile)
  doors : List (Nat × DoorEntry)
  extentLow : Nat
  extentHigh : Nat
  deriving DecidableEq, Repr

/-- The in-flight record (R26). -/
structure InFlight where
  face : Face
  ticket : BitVec 8
  input : AlignInput
  deriving DecidableEq, Repr

/-- A waiting request (R26). -/
structure Waiting where
  ticket : BitVec 8
  placedAt : Millis
  deriving DecidableEq, Repr

/-- The Alignment Engine: IDLE exactly when the in-flight record is absent (R26). -/
structure Engine where
  inflight : Option InFlight
  waiting : PerFace (Option Waiting)
  computations : PerFace Counter
  withdrawn : PerFace Counter
  deriving DecidableEq, Repr

/-! ## Door Sequencer and Door Line Controller -/

/-- The eleven door states (R47). -/
inductive DoorState where
  | unknown | closed | opening | opened | closing | recycling | held | stalled | released | isolated | lost
  deriving DecidableEq, Repr

/-- A door's isolation (R47). -/
inductive Isolation where
  | none | lockedOut | localSwitch
  deriving DecidableEq, Repr

/-- The door positions of a status frame, in the order that codes them 0 to 5 (R198, section 11.3). -/
inductive Position where
  | closedLocked | closedUnlocked | opening | opened | closing | stoppedMid
  deriving DecidableEq, Repr

/-- The status of a good frame as the door record keeps it (R47). -/
structure Status where
  position : Position
  obstruction : Bool
  releaseActuated : Bool
  localIsolation : Bool
  driveFault : Bool
  echo : BitVec 4
  deriving DecidableEq, Repr

/-- The commands of a command slot (R50). -/
inductive DoorCommand where
  | openCmd | closeCmd | haltCmd
  deriving DecidableEq, Repr

/-- The class of a command (R50). -/
inductive Urgency where
  | urgent | routine
  deriving DecidableEq, Repr

/-- A command in its slot: the sequence number is absent until its first send (R83). -/
structure SlotCommand where
  command : DoorCommand
  urgency : Urgency
  seq : Option (BitVec 4)
  left : Nat
  deriving DecidableEq, Repr

/-- The kinds of door timer (R49). -/
inductive TimerKind where
  | openTimeout | closeTimeout | recycleDwell
  deriving DecidableEq, Repr

/-- A running door timer (R49). -/
structure DoorTimer where
  kind : TimerKind
  expiry : Millis
  deriving DecidableEq, Repr

/-- The unit link record with the command slot (R83). -/
structure UnitLink where
  badCount : Nat
  lost : Bool
  base : Option (BitVec 4)
  lastIssued : Option (BitVec 4)
  badFrames : Counter
  slot : Option SlotCommand
  deriving DecidableEq, Repr

/-- A door record (R47) with the link record of its unit (R83): each entry of the active Platform Door Table has one of each. -/
structure Door where
  number : Nat
  drop : Nat
  state : DoorState
  enabled : Bool
  recycleCount : Nat
  latched : Bool
  evacOpened : Bool
  isolation : Isolation
  lastStatus : Option Status
  timer : Option DoorTimer
  openCycles : Counter
  recycles : Counter
  obstructions : Counter
  superseded : Counter
  link : UnitLink
  deriving DecidableEq, Repr

/-- A hold entry (R122). -/
structure HoldEntry where
  face : Face
  key : Word32
  mask : Word32
  minDwell : Nat
  maxHold : Nat
  deriving DecidableEq, Repr

/-- The hold used by a deferral: the slot it came from and its fields (R125). -/
structure HoldUsed where
  slot : Nat
  entry : HoldEntry
  deriving DecidableEq, Repr

/-- The causes of HOLD_ENDED (R127 to R129). -/
inductive EndCause where
  | partnerDwell | partnerLeft | maximum | cancelled
  deriving DecidableEq, Repr

/-- The partner view (R125). -/
inductive PartnerView where
  | notDwelling
  | dwelling (start : Millis)
  deriving DecidableEq, Repr

/-- The close-deferral record: IN_PROGRESS exactly when the hold used is present (R125). -/
structure Deferral where
  used : Option HoldUsed
  start : Option Millis
  maximum : Option Millis
  partnerSeen : Bool
  partnerTimer : Option Millis
  partnerView : PartnerView
  lastEnd : Option (EndCause × Millis)
  count : Counter
  deriving DecidableEq, Repr

/-- An obstruction report on its way to the Door Sequencer (R115). -/
structure ObstructionReport where
  door : Nat
  zones : List Nat
  deriving DecidableEq, Repr

/-- The kinds of turn (R82). -/
inductive TurnKind where
  | urgent | tunnel | poll
  deriving DecidableEq, Repr

/-- What a drop frame carries (R86): NONE, a command, or a tunnel payload, each with a sequence number. -/
inductive Carried where
  | nothing (seq : BitVec 4)
  | command (command : DoorCommand) (seq : BitVec 4)
  | tunnel (payload : List Byte) (seq : BitVec 4)
  deriving DecidableEq, Repr

/-- The turn in progress (R82); `orphan` is set when its drop address has left the table (R102). -/
structure Turn where
  drop : Nat
  kind : TurnKind
  carried : Carried
  windowEnd : Micros
  orphan : Bool
  deriving DecidableEq, Repr

/-- The tunnel record: WAITING while `sent` is false, SENT while it is true (R97). -/
structure Tunnel where
  tag : Byte
  drop : Nat
  payload : List Byte
  forwardedAt : Millis
  sent : Bool
  deriving DecidableEq, Repr

/-- A door line (R82): RUNNING or IDLE, turn in progress, rotation position, tunnel record. -/
structure DoorLine where
  running : Bool
  turn : Option Turn
  rotation : Option Nat
  tunnel : Option Tunnel
  deriving DecidableEq, Repr

/-! ## Release Supervisor -/

/-- The release states, in the order that codes them 0 to 3 (R131, R196). -/
inductive ReleaseState where
  | normal | released | evacuating | restoring
  deriving DecidableEq, Repr

/-- A member of the release set with its marks (R131). -/
structure ReleaseMember where
  door : Nat
  latched : Bool
  evacOpened : Bool
  deriving DecidableEq, Repr

/-- The release record (R131); the release set is kept in increasing door number. -/
structure Release where
  state : ReleaseState
  seq : BitVec 8
  latch : Bool
  input : Level
  set : List ReleaseMember
  lastRestore : Option (BitVec 8 × Millis)
  refused : Counter
  deriving DecidableEq, Repr

/-! ## Proof Unit -/

/-- The blockers set (R153, R154). -/
structure Blockers where
  unconfigured : Bool
  doors : Bool
  zones : Bool
  release : Bool
  forcing : Bool
  deriving DecidableEq, Repr

/-- The kinds of proof telegram (R161). -/
inductive ProofKind where
  | changed | periodic
  deriving DecidableEq, Repr

/-- A proof telegram with the values of the step that formed it (R161); `formedAt` is that step's time (R191). -/
structure ProofTelegram where
  face : Face
  kind : ProofKind
  held : Bool
  blockers : Blockers
  berth : BerthState
  enableSize : Nat
  release : ReleaseState
  releaseSeq : BitVec 8
  stopError : Option Int
  formedAt : Micros
  deriving DecidableEq, Repr

/-- The proof record (R153) with the counts of doors in STALLED and in HELD (R157). -/
structure ProofRecord where
  held : Bool
  blockers : Blockers
  active : ConditionSet
  withhold : ConditionSet
  holdClosed : ConditionSet
  stalledCount : Nat
  heldCount : Nat
  loopClosed : Bool
  alertDriven : Bool
  periodicAt : Millis
  pending : Option ProofTelegram
  losses : Counter
  deriving DecidableEq, Repr

/-! ## Gap Monitor -/

/-- The states of a head (R107). -/
inductive HeadState where
  | unused | unknown | live | silent
  deriving DecidableEq, Repr

/-- What a head's answer slot has gathered in the cycle in progress (R105). -/
inductive SlotScan where
  | empty
  | one (bytes : List Byte) (parityOk : Bool)
  | many
  deriving DecidableEq, Repr

/-- A head record (R107) with its answer slot's gathering (R105). -/
structure Head where
  slot : Nat
  serves : PerFace Bool
  state : HeadState
  window : List Beams
  missingStreak : Nat
  goodStreak : Nat
  missingScans : Counter
  scan : SlotScan
  deriving DecidableEq, Repr

/-- The states of a zone (R111). -/
inductive ZoneState where
  | unknown | clear | occupied
  deriving DecidableEq, Repr

/-- A zone record (R111). -/
structure Zone where
  id : Nat
  door : Nat
  head : Nat
  beams : Beams
  kOn : Nat
  kOff : Nat
  policy : Policy
  state : ZoneState
  metric : Option Nat
  entries : Counter
  deriving DecidableEq, Repr

/-- The Gap Monitor: sensor line cycle (R104), heads (R107), zones in force (R111), adoptions noted (R120). -/
structure GapMonitor where
  cycle : BitVec 8
  cycleStart : Micros
  heads : List Head
  zones : PerFace (List Zone)
  adopted : PerFace Bool
  deriving DecidableEq, Repr

/-! ## Link Interface -/

/-- The route of an event kind (R186). -/
structure Route where
  notice : Bool
  alert : Bool
  deriving DecidableEq, Repr

/-- The causes of the last reset (R186). -/
inductive ResetCause where
  | powerOn | pin | soft
  deriving DecidableEq, Repr

/-- A reply of the reply list (R185); `nextPart` is the number of the part that is sent next (R197). -/
structure Reply where
  kind : Byte
  tag : Byte
  result : Result
  data : List Byte
  nextPart : Nat
  deriving DecidableEq, Repr

/-- An outbound frame without its start byte, length and CRC (R196). -/
structure OutFrame where
  cls : Byte
  face : Byte
  tag : Byte
  payload : List Byte
  deriving DecidableEq, Repr

/-- What the frame being sent is; a reply part that a soft reset abandoned is only finished (R194, R197). -/
inductive SendItem where
  | changed
  | reply (last : Bool)
  | notice
  | periodic
  | abandoned
  deriving DecidableEq, Repr

/-- The frame being sent (R191). -/
structure Sending where
  item : SendItem
  frame : OutFrame
  deriving DecidableEq, Repr

/-- A counter snapshot (R192): the counters of each page, absent where the door, unit or zone did not exist. -/
structure Snapshot where
  takenAt : Millis
  device : List Counter
  doors : PerFace (List (Option (List Counter)))
  heads : List Counter
  zones : PerFace (List (Option Counter))
  deriving DecidableEq, Repr

/-- The preparation copy of a snapshot with the tag of its request (R192). -/
structure Preparing where
  tag : Byte
  snapshot : Snapshot
  deriving DecidableEq, Repr

/-- A counter clear in progress (R193); a soft reset takes its tag away (R194). -/
structure Clearing where
  tag : Option Byte
  takenAt : Millis
  deriving DecidableEq, Repr

/-- The Link Interface (R183 to R195). -/
structure LinkInterface where
  intake : List Request
  replies : List Reply
  changed : List ProofTelegram
  sending : Option Sending
  notices : PerScope (Option (List EventKind))
  flags : PerScope (List EventKind)
  lastNotice : Scope
  badCount : Nat
  goodStreak : Nat
  silence : Option Millis
  degraded : Bool
  resetCause : ResetCause
  errorLimit : Nat
  afterReset : Bool
  routes : Vector Route 23
  uplinkErrors : Counter
  framesDiscarded : Counter
  requestsDropped : Counter
  snapshot : Option Snapshot
  preparing : Option Preparing
  clearing : Option Clearing
  deriving DecidableEq, Repr

/-! ## The part -/

/-- What exists once for each face. -/
structure FaceState where
  berth : Berth
  doors : List Door
  deferral : Deferral
  reports : List ObstructionReport
  line : DoorLine
  release : Release
  proof : ProofRecord
  deriving DecidableEq, Repr

/-- The state of the part, with the queue of commands that wait. -/
structure State where
  powered : Bool
  resetPin : Bool
  now : Micros
  freeCount : Nat
  faces : PerFace FaceState
  holds : Vector (Option HoldEntry) 8
  aln : Engine
  gap : GapMonitor
  tbs : TableStore
  lif : LinkInterface
  pending : List Instr
  deriving DecidableEq, Repr

/-- Why a step faults: never. The manual describes no event that stops the part, so no meaning raises a fault (safe: the
type has no value, and no step is cut short). -/
inductive Fault where
  deriving DecidableEq, Repr

/-- Why a step is refused. -/
inductive Refusal where
  /-- A command without a meaning; raised by `exec` only, for an arm that has none (safe: the step stops). No arm of this
  model raises it. -/
  | notModelled (mnemonic : String)
  deriving DecidableEq, Repr

/-! ## The state right after power-on -/

/-- No condition. -/
def noConditions : ConditionSet := ⟨false, false, false, false, false, false⟩

/-- The berth record at power-on and the reset pin (R23). -/
def Berth.initial : Berth :=
  { state := .vacant, train := none, stop := none, stopError := none, enable := [], pairing := [], ticket := 0,
    dwellStart := none, supervision := none, lastSample := none, lastRefusal := none, policed := 0,
    clampedSamples := 0, telegramsRefused := 0 }

/-- The close-deferral record at power-on and the reset pin (R125). -/
def Deferral.initial : Deferral :=
  { used := none, start := none, maximum := none, partnerSeen := false, partnerTimer := none,
    partnerView := .notDwelling, lastEnd := none, count := 0 }

/-- A door line at power-on and the reset pin (R100). -/
def DoorLine.initial : DoorLine := { running := false, turn := none, rotation := none, tunnel := none }

/-- The release record at power-on and the reset pin, with the input level as the part finds it (R150). -/
def Release.initial (input : Level) : Release :=
  { state := .normal, seq := 0, latch := false, input := input, set := [], lastRestore := none, refused := 0 }

/-- The proof record at power-on and the reset pin, its periodic timer first expiring at `periodicAt` (R164). -/
def ProofRecord.initial (periodicAt : Millis) : ProofRecord :=
  { held := false, blockers := ⟨true, false, false, false, false⟩, active := noConditions, withhold := noConditions,
    holdClosed := noConditions, stalledCount := 0, heldCount := 0, loopClosed := false, alertDriven := false,
    periodicAt := periodicAt, pending := none, losses := 0 }

/-- A face at power-on and the reset pin (R23, R77, R100, R150, R164). -/
def FaceState.initial (input : Level) (periodicAt : Millis) : FaceState :=
  { berth := Berth.initial, doors := [], deferral := Deferral.initial, reports := [], line := DoorLine.initial,
    release := Release.initial input, proof := ProofRecord.initial periodicAt }

/-- The engine at power-on and the reset pin (R31). -/
def Engine.initial : Engine :=
  { inflight := none, waiting := ⟨none, none⟩, computations := ⟨0, 0⟩, withdrawn := ⟨0, 0⟩ }

/-- The record of a head at power-on and the reset pin (R118). -/
def Head.initial (slot : Nat) : Head :=
  { slot := slot, serves := ⟨false, false⟩, state := .unused, window := [], missingStreak := 0, goodStreak := 0,
    missingScans := 0, scan := .empty }

/-- The Gap Monitor at power-on and the reset pin: its first cycle begins at `cycleStart` (R104, R118). -/
def GapMonitor.initial (cycleStart : Micros) : GapMonitor :=
  { cycle := 0, cycleStart := cycleStart, heads := (List.range 16).map Head.initial, zones := ⟨[], []⟩,
    adopted := ⟨false, false⟩ }

/-- A match entry made absent: the valid mark clear and every other field 0 (R170). -/
def MatchEntry.absent : MatchEntry := { valid := false, key := 0, mask := 0, profile := 0 }

/-- Tables with every entry absent (R166). -/
def Tables.empty : Tables :=
  { params := ⟨none, none⟩, doors := ⟨Vector.replicate 32 none, Vector.replicate 32 none⟩,
    profiles := Vector.replicate 16 none, consist := Vector.replicate 32 MatchEntry.absent,
    zones := Vector.replicate 64 none }

/-- The Table Store at power-on and the reset pin (R166, R180). -/
def TableStore.initial : TableStore :=
  { bank0 := ⟨.empty, Tables.empty⟩, bank1 := ⟨.empty, Tables.empty⟩, active := ⟨none, none⟩, edit := some .b0,
    staged := none, validation := none, copy := none }

/-- The default routes: every kind has its notice route on, and six kinds their alert route (R186). In code order. -/
def defaultRoutes : Vector Route 23 :=
  #v[⟨true, true⟩, ⟨true, true⟩, ⟨true, false⟩, ⟨true, false⟩, ⟨true, false⟩, ⟨true, true⟩, ⟨true, false⟩, ⟨true, false⟩,
     ⟨true, true⟩, ⟨true, true⟩, ⟨true, false⟩, ⟨true, false⟩, ⟨true, false⟩, ⟨true, false⟩, ⟨true, true⟩, ⟨true, false⟩,
     ⟨true, false⟩, ⟨true, false⟩, ⟨true, false⟩, ⟨true, false⟩, ⟨true, false⟩, ⟨true, false⟩, ⟨true, false⟩]

/-- The Link Interface at power-on and the reset pin: RESET is set in the device flag set and forms a notice, the silence
timer runs to `silence` (R183, R191, R195). -/
def LinkInterface.initial (cause : ResetCause) (silence : Millis) : LinkInterface :=
  { intake := [], replies := [], changed := [], sending := none, notices := ⟨some [.reset], none, none⟩,
    flags := ⟨[.reset], [], []⟩, lastNotice := .face .B, badCount := 0, goodStreak := 0, silence := some silence,
    degraded := false, resetCause := cause, errorLimit := 4, afterReset := true, routes := defaultRoutes,
    uplinkErrors := 0, framesDiscarded := 0, requestsDropped := 0, snapshot := none, preparing := none,
    clearing := none }

/-- The part right after POWER_ON at time 0 with both evacuation inputs found DEASSERTED (R201 and the reset rules of each
chapter; notes/assumptions/9.md). -/
def State.reset : State :=
  { powered := true, resetPin := false, now := 0, freeCount := 0,
    faces := ⟨FaceState.initial .deasserted 200, FaceState.initial .deasserted 200⟩,
    holds := Vector.replicate 8 none, aln := Engine.initial, gap := GapMonitor.initial 0, tbs := TableStore.initial,
    lif := LinkInterface.initial .powerOn 2000, pending := [] }

end Sys2Proof.Machine
end

