-- ==== Sys2Proof/Machine/Ops.lean ====
section
/-! DEFINITION. The named operations over State that every block uses: reaching a face, the clock, the running part, the
tables of a face, live counters. -/

namespace Sys2Proof

/-- The partner of a face (00, "Faces"). -/
def Face.partner : Face → Face
  | .A => .B
  | .B => .A

/-- The code of a face in a frame (R196). -/
def Face.code : Face → Byte
  | .A => 1
  | .B => 2

/-- The value of one face. -/
def PerFace.get {α : Type} (p : PerFace α) : Face → α
  | .A => p.a
  | .B => p.b

/-- The pair with one face's value replaced. -/
def PerFace.set {α : Type} (p : PerFace α) (f : Face) (x : α) : PerFace α :=
  match f with
  | .A => { p with a := x }
  | .B => { p with b := x }

/-- The pair with one face's value changed. -/
def PerFace.modify {α : Type} (p : PerFace α) (f : Face) (g : α → α) : PerFace α := p.set f (g (p.get f))

/-- Both faces' values changed. -/
def PerFace.map {α β : Type} (p : PerFace α) (g : α → β) : PerFace β := ⟨g p.a, g p.b⟩

namespace Machine

/-- The value of one scope. -/
def PerScope.get {α : Type} (p : PerScope α) : Scope → α
  | .device => p.device
  | .face .A => p.a
  | .face .B => p.b

/-- The triple with one scope's value replaced. -/
def PerScope.set {α : Type} (p : PerScope α) (c : Scope) (x : α) : PerScope α :=
  match c with
  | .device => { p with device := x }
  | .face .A => { p with a := x }
  | .face .B => { p with b := x }

/-- The value of one condition kind. -/
def PerCondition.get {α : Type} (p : PerCondition α) : Condition → α
  | .positionStale => p.positionStale
  | .uplinkDegraded => p.uplinkDegraded
  | .headSilent => p.headSilent
  | .doorStalled => p.doorStalled
  | .doorHeld => p.doorHeld
  | .noProfile => p.noProfile

/-- The six values with one condition's replaced. -/
def PerCondition.set {α : Type} (p : PerCondition α) (c : Condition) (x : α) : PerCondition α :=
  match c with
  | .positionStale => { p with positionStale := x }
  | .uplinkDegraded => { p with uplinkDegraded := x }
  | .headSilent => { p with headSilent := x }
  | .doorStalled => { p with doorStalled := x }
  | .doorHeld => { p with doorHeld := x }
  | .noProfile => { p with noProfile := x }

/-- The six condition kinds, in the order of R168. -/
def Condition.all : List Condition :=
  [.positionStale, .uplinkDegraded, .headSilent, .doorStalled, .doorHeld, .noProfile]

/-- Whether a set of conditions has a member. -/
def ConditionSet.nonempty (c : ConditionSet) : Bool :=
  c.positionStale || c.uplinkDegraded || c.headSilent || c.doorStalled || c.doorHeld || c.noProfile

/-- The bank of a number. -/
def TableStore.bank (t : TableStore) : BankId → Bank
  | .b0 => t.bank0
  | .b1 => t.bank1

/-- The store with one bank replaced. -/
def TableStore.setBank (t : TableStore) (b : BankId) (x : Bank) : TableStore :=
  match b with
  | .b0 => { t with bank0 := x }
  | .b1 => { t with bank1 := x }

/-- The other bank. -/
def BankId.other : BankId → BankId
  | .b0 => .b1
  | .b1 => .b0

/-- The code of a bank in a frame. -/
def BankId.code : BankId → Byte
  | .b0 => 0
  | .b1 => 1

namespace State

/-- What exists once for each face, of one face. -/
def face (s : State) (f : Face) : FaceState := s.faces.get f

/-- One face's state replaced. -/
def setFace (s : State) (f : Face) (x : FaceState) : State := { s with faces := s.faces.set f x }

/-- One face's berth record changed. -/
def modBerth (s : State) (f : Face) (g : Berth → Berth) : State :=
  s.setFace f { s.face f with berth := g (s.face f).berth }

/-- One face's door records changed. -/
def modDoors (s : State) (f : Face) (g : List Door → List Door) : State :=
  s.setFace f { s.face f with doors := g (s.face f).doors }

/-- One face's close-deferral record changed. -/
def modDeferral (s : State) (f : Face) (g : Deferral → Deferral) : State :=
  s.setFace f { s.face f with deferral := g (s.face f).deferral }

/-- One face's obstruction reports changed. -/
def modReports (s : State) (f : Face) (g : List ObstructionReport → List ObstructionReport) : State :=
  s.setFace f { s.face f with reports := g (s.face f).reports }

/-- One face's door line changed. -/
def modLine (s : State) (f : Face) (g : DoorLine → DoorLine) : State :=
  s.setFace f { s.face f with line := g (s.face f).line }

/-- One face's release record changed. -/
def modRelease (s : State) (f : Face) (g : Release → Release) : State :=
  s.setFace f { s.face f with release := g (s.face f).release }

/-- One face's proof record changed. -/
def modProof (s : State) (f : Face) (g : ProofRecord → ProofRecord) : State :=
  s.setFace f { s.face f with proof := g (s.face f).proof }

/-- The Link Interface changed. -/
def modLif (s : State) (g : LinkInterface → LinkInterface) : State := { s with lif := g s.lif }

/-- The Table Store changed. -/
def modTbs (s : State) (g : TableStore → TableStore) : State := { s with tbs := g s.tbs }

/-- The Gap Monitor changed. -/
def modGap (s : State) (g : GapMonitor → GapMonitor) : State := { s with gap := g s.gap }

/-- The Alignment Engine changed. -/
def modAln (s : State) (g : Engine → Engine) : State := { s with aln := g s.aln }

/-- The time of the millisecond timebase (00, "Time"). -/
def ms (s : State) : Millis := s.now / 1000

/-- The clock brought to the time of a command's event; it never runs backwards (notes/assumptions/1.md). -/
def advance (s : State) (t : Micros) : State := { s with now := max s.now t }

/-- The part is powered and not held in reset (R201). -/
def running (s : State) : Bool := s.powered && !s.resetPin

/-- Whether a timer that runs toward `expiry` is due (notes/assumptions/3.md). -/
def due (s : State) (expiry : Option Millis) : Bool :=
  match expiry with
  | none => false
  | some e => e ≤ s.ms

/-- The tables of a face's active bank, where it has one (R166). -/
def tables? (s : State) (f : Face) : Option Tables :=
  (s.tbs.active.get f).map fun b => (s.tbs.bank b).tables

/-- The Face Parameter Record of a face's active bank (R168). -/
def params? (s : State) (f : Face) : Option FaceParams := (s.tables? f).bind fun t => t.params.get f

/-- A face is configured when its active bank holds a Face Parameter Record for it (R166, R168). -/
def configured (s : State) (f : Face) : Bool := (s.params? f).isSome

/-- The next value of a live counter: one more, wrapping, and unchanged while a counter clear runs (R1, R193). -/
def bump (s : State) (c : Counter) : Counter := if s.lif.clearing.isSome then c else c + 1

/-- The present entries of a Platform Door Table with their door numbers, in increasing number (R169). -/
def tableDoors (t : Tables) (f : Face) : List (Nat × DoorEntry) :=
  ((t.doors.get f).toList.zipIdx 1).filterMap fun p => p.1.map fun e => (p.2, e)

/-- The door record of a number (R47). -/
def findDoor (s : State) (f : Face) (n : Nat) : Option Door := (s.face f).doors.find? fun d => d.number = n

/-- The door record whose unit has a drop address (R47, R83). -/
def findDrop (s : State) (f : Face) (drop : Nat) : Option Door := (s.face f).doors.find? fun d => d.drop = drop

/-- The door record of a number replaced. -/
def putDoor (s : State) (f : Face) (n : Nat) (d : Door) : State :=
  s.modDoors f fun ds => ds.map fun x => if x.number = n then d else x

end State

end Machine

end Sys2Proof
end

