-- ==== Sys2Proof/Machine/Operands.lean ====
section
/-! DEFINITION. The operand forms: reading the payload bytes of telegrams and requests, the contents of table entries, the
frames of the door lines and of the sensor line, and both CRCs (Chapter 11, and the ranges of R168 to R171). A reading
answers none where a length or a value is out of range. -/

namespace Sys2Proof.Machine

/-! ## Bytes and numbers, most significant byte first -/

/-- Two bytes as a number. -/
def nat16 (a b : Byte) : Nat := a.toNat * 256 + b.toNat

/-- Four bytes as a number. -/
def nat32 (a b c d : Byte) : Nat := nat16 a b * 65536 + nat16 c d

/-- Four bytes as a 32-bit word. -/
def word32 (a b c d : Byte) : Word32 := BitVec.ofNat 32 (nat32 a b c d)

/-- One byte of a number. -/
def u8 (n : Nat) : List Byte := [BitVec.ofNat 8 n]

/-- Two bytes of a number. -/
def u16 (n : Nat) : List Byte := [BitVec.ofNat 8 (n / 256), BitVec.ofNat 8 n]

/-- Four bytes of a number, modulo 2 to the 32. -/
def u32 (n : Nat) : List Byte :=
  [BitVec.ofNat 8 (n / 16777216), BitVec.ofNat 8 (n / 65536), BitVec.ofNat 8 (n / 256), BitVec.ofNat 8 n]

/-- Four bytes of a signed number, in two's complement. -/
def i32 (n : Int) : List Byte := u32 (BitVec.ofInt 32 n).toNat

/-- One byte of a mark. -/
def flag (b : Bool) : List Byte := if b then [1] else [0]

/-- An optional field, preceded by a presence byte (R196). -/
def optional {α : Type} (g : α → List Byte) : Option α → List Byte
  | none => [0]
  | some x => 1 :: g x

/-- A counted list: its number of items, then each item. -/
def counted {α : Type} (g : α → List Byte) (l : List α) : List Byte := u8 l.length ++ l.flatMap g

/-! ## CRCs (R198) -/

/-- One bit of the CRC-16 computation. -/
def crc16Bit (c : BitVec 16) : BitVec 16 := if c.msb then (c <<< 1) ^^^ 0x1021#16 else c <<< 1

/-- One byte of the CRC-16 computation. -/
def crc16Byte (c : BitVec 16) (b : Byte) : BitVec 16 :=
  crc16Bit (crc16Bit (crc16Bit (crc16Bit (crc16Bit (crc16Bit (crc16Bit (crc16Bit (c ^^^ (b.setWidth 16 <<< 8)))))))))

/-- The CRC-16 of the station link: polynomial 0x1021, initial value 0xFFFF (R181, R198). -/
def crc16 (bytes : List Byte) : BitVec 16 := bytes.foldl crc16Byte 0xFFFF#16

/-- One bit of the CRC-8 computation. -/
def crc8Bit (c : BitVec 8) : BitVec 8 := if c.msb then (c <<< 1) ^^^ 0x2F#8 else c <<< 1

/-- One byte of the CRC-8 computation. -/
def crc8Byte (c : BitVec 8) (b : Byte) : BitVec 8 :=
  crc8Bit (crc8Bit (crc8Bit (crc8Bit (crc8Bit (crc8Bit (crc8Bit (crc8Bit (c ^^^ b))))))))

/-- The CRC-8 of the door lines and the sensor line: polynomial 0x2F, initial value 0xFF (R198). -/
def crc8 (bytes : List Byte) : BitVec 8 := bytes.foldl crc8Byte 0xFF#8

/-! ## Codes -/

/-- The face a face code names; 0 and 3 to 255 name none (R196). -/
def faceOfCode (b : Byte) : Option Face := if b = 1 then some .A else if b = 2 then some .B else none

/-- The bank a code names. -/
def bankOfCode (b : Byte) : Option BankId := if b = 0 then some .b0 else if b = 1 then some .b1 else none

/-- The direction a code names (R196). -/
def directionOfCode (b : Byte) : Option Direction := if b = 0 then some .up else if b = 1 then some .down else none

/-- The orientation a code names (R196). -/
def orientationOfCode (b : Byte) : Option Orientation :=
  if b = 0 then some .end1Leading else if b = 1 then some .end2Leading else none

/-- The action a code names (R196). -/
def actionOfCode (b : Byte) : Option Action :=
  if b = 0 then some .report else if b = 1 then some .withhold else if b = 2 then some .holdClosed else none

/-- The policy a code names (R196). -/
def policyOfCode (b : Byte) : Option Policy := if b = 0 then some .recycle else if b = 1 then some .proofOnly else none

/-- The door position a code names (section 11.3); 6 and 7 name none (R199). -/
def positionOfCode (n : Nat) : Option Position :=
  match n with
  | 0 => some .closedLocked
  | 1 => some .closedUnlocked
  | 2 => some .opening
  | 3 => some .opened
  | 4 => some .closing
  | 5 => some .stoppedMid
  | _ => none

/-! ## Train telegrams -/

/-- The units of an ARRIVAL: 5 bytes each, identifier and orientation (R11, R196). -/
def parseUnits : Nat → List Byte → Option (List (Word32 × Orientation))
  | 0, [] => some []
  | n + 1, a :: b :: c :: d :: o :: rest =>
    match orientationOfCode o, parseUnits n rest with
    | some x, some l => some ((word32 a b c d, x) :: l)
    | _, _ => none
  | _, _ => none

/-- The fields of an ARRIVAL: direction, then 1 to 3 units (R11, R196). -/
def parseArrival : List Byte → Option (Direction × List (Word32 × Orientation))
  | d :: n :: rest =>
    if 1 ≤ n.toNat ∧ n.toNat ≤ 3 then
      match directionOfCode d, parseUnits n.toNat rest with
      | some x, some l => some (x, l)
      | _, _ => none
    else none
  | _ => none

/-- The fields of a POSITION: position up to 250,000 and speed (R15, R196). -/
def parsePosition : List Byte → Option (Nat × Nat)
  | [a, b, c, d, e, f] => if nat32 a b c d ≤ 250000 then some (nat32 a b c d, nat16 e f) else none
  | _ => none

/-! ## Requests -/

/-- The kinds of request (R182, R196). -/
inductive RequestKind where
  | openFace | closeFace | reopenDoor | closeDoor | isolateDoor | returnDoor | restore | evacuate | holdAdd | holdCancel
  | readStatus | readDoor | readEntry | writeEntry | activate | setDevice | readEvents | snapshotCounters | readCounters
  | clearCounters | softReset | tunnel
  deriving DecidableEq, Repr

/-- The kind that a class and a kind byte spell (R196). -/
def requestKindOf (cls kind : Byte) : Option RequestKind :=
  if cls = 0x02 then
    match kind.toNat with
    | 0x10 => some .openFace
    | 0x11 => some .closeFace
    | 0x12 => some .reopenDoor
    | 0x13 => some .closeDoor
    | 0x14 => some .isolateDoor
    | 0x15 => some .returnDoor
    | 0x16 => some .restore
    | 0x17 => some .evacuate
    | 0x18 => some .holdAdd
    | 0x19 => some .holdCancel
    | _ => none
  else if cls = 0x03 then
    match kind.toNat with
    | 0x20 => some .readStatus
    | 0x21 => some .readDoor
    | 0x22 => some .readEntry
    | 0x23 => some .writeEntry
    | 0x24 => some .activate
    | 0x25 => some .setDevice
    | 0x26 => some .readEvents
    | 0x27 => some .snapshotCounters
    | 0x28 => some .readCounters
    | 0x29 => some .clearCounters
    | 0x2A => some .softReset
    | _ => none
  else if cls = 0x04 then if kind = 0x30 then some .tunnel else none
  else none

end Machine

/-- The kind of a request; none where its class is undefined, or its kind undefined or missing (R182, R196). -/
def Request.kind? (r : Request) : Option Machine.RequestKind :=
  match r.payload with
  | [] => none
  | k :: _ => Machine.requestKindOf r.cls k

/-- The kind byte that the reply repeats: 0 where the request had none (R196). -/
def Request.kindByte (r : Request) : Byte := r.payload.headD 0

/-- The bytes after the kind byte. -/
def Request.body (r : Request) : List Byte := r.payload.tail

/-- The face a request names, none where its face field names none (R182, R196). -/
def Request.face? (r : Request) : Option Face := Machine.faceOfCode r.face

namespace Machine

/-- The one operand byte of a request that has one. -/
def parseByte : List Byte → Option Nat
  | [b] => some b.toNat
  | _ => none

/-- The fields of RESTORE: sequence and inverse (R142). -/
def parseRestore : List Byte → Option (Byte × Byte)
  | [a, b] => some (a, b)
  | _ => none

/-- The fields of HOLD_ADD within their ranges: T up to 120,000, H from 1,000 to 300,000 and at least T (R122, R123). -/
def parseHold (f : Face) : List Byte → Option HoldEntry
  | [k0, k1, k2, k3, m0, m1, m2, m3, t0, t1, t2, t3, h0, h1, h2, h3] =>
    let t := nat32 t0 t1 t2 t3
    let h := nat32 h0 h1 h2 h3
    if t ≤ 120000 ∧ 1000 ≤ h ∧ h ≤ 300000 ∧ t ≤ h then
      some { face := f, key := word32 k0 k1 k2 k3, mask := word32 m0 m1 m2 m3, minDwell := t, maxHold := h }
    else none
  | _ => none

/-- The slot of HOLD_CANCEL, 0 to 7 (R124). -/
def parseHoldSlot (body : List Byte) : Option Nat := (parseByte body).filter fun n => n < 8

/-- The fields of TUNNEL: door and 1 to 32 payload bytes (R96). -/
def parseTunnel : List Byte → Option (Nat × List Byte)
  | d :: p => if 1 ≤ p.length ∧ p.length ≤ 32 then some (d.toNat, p) else none
  | [] => none

/-- One route byte: bit 0 for notice, bit 1 for alert, the other bits reserved (R196). -/
def parseRoute (b : Byte) : Option Route := if b.toNat < 4 then some ⟨b.getLsbD 0, b.getLsbD 1⟩ else none

/-- The fields of SET_DEVICE: error limit 1 to 15, then one route byte for each of the 23 kinds (R186, R196). -/
def parseDevice : List Byte → Option (Nat × Vector Route 23)
  | n :: rest =>
    if 1 ≤ n.toNat ∧ n.toNat ≤ 15 then
      match rest.mapM parseRoute with
      | some l => if h : l.length = 23 then some (n.toNat, ⟨l.toArray, by simpa using h⟩) else none
      | none => none
    else none
  | [] => none

/-- The scope of READ_EVENTS: 0 device, 1 face A, 2 face B (R196). -/
def parseScope (body : List Byte) : Option Scope :=
  match parseByte body with
  | some 0 => some .device
  | some 1 => some (.face .A)
  | some 2 => some (.face .B)
  | _ => none

/-- The parts of READ_STATUS (R187). -/
inductive StatusPart where
  | device
  | face (f : Face)
  | heads
  | holds
  deriving DecidableEq, Repr

/-- The part of READ_STATUS (R187, R196). -/
def parsePart (body : List Byte) : Option StatusPart :=
  match parseByte body with
  | some 0 => some .device
  | some 1 => some (.face .A)
  | some 2 => some (.face .B)
  | some 3 => some .heads
  | some 4 => some .holds
  | _ => none

/-! ## Table entries -/

/-- The entry a table code, a face and an index name (R172, R196). -/
inductive EntryKey where
  | params (f : Face)
  | door (f : Face) (slot : Nat)
  | profile (index : Nat)
  | consist (index : Nat)
  | zone (index : Nat)
  deriving DecidableEq, Repr

/-- The first test of WRITE_ENTRY and READ_ENTRY: a table of the five, a face where the table needs one, an index in the
table's range (R172, R173). -/
def parseKey (face : Option Face) (table index : Byte) : Option EntryKey :=
  match table.toNat with
  | 0 => face.map .params
  | 1 => if 1 ≤ index.toNat ∧ index.toNat ≤ 32 then face.map fun f => .door f index.toNat else none
  | 2 => if index.toNat < 16 then some (.profile index.toNat) else none
  | 3 => if index.toNat < 32 then some (.consist index.toNat) else none
  | 4 => if index.toNat < 64 then some (.zone index.toNat) else none
  | _ => none

/-- The contents of a Face Parameter Record within the ranges of R168, laid out by R196. -/
def parseParams : List Byte → Option FaceParams
  | [l0, l1, l2, l3, h0, h1, h2, h3, t0, t1, t2, t3, c0, c1, s0, s1, o0, o1, k0, k1, r0, r1, m, b, a1, a2, a3, a4, a5, a6] =>
    let low := nat32 l0 l1 l2 l3
    let high := nat32 h0 h1 h2 h3
    let target := nat32 t0 t1 t2 t3
    let creep := nat16 c0 c1
    let sup := nat16 s0 s1
    let opn := nat16 o0 o1
    let cls := nat16 k0 k1
    let dwell := nat16 r0 r1
    if low ≤ 250000 ∧ high ≤ 250000 ∧ target ≤ 250000 ∧ 5 ≤ creep ∧ creep ≤ 100 ∧ 100 ≤ sup ∧ sup ≤ 2000 ∧ 1000 ≤ opn ∧
        opn ≤ 20000 ∧ 1000 ≤ cls ∧ cls ≤ 20000 ∧ dwell ≤ 5000 ∧ m.toNat ≤ 7 ∧ 1 ≤ b.toNat ∧ b.toNat ≤ 15 then
      match actionOfCode a1, actionOfCode a2, actionOfCode a3, actionOfCode a4, actionOfCode a5, actionOfCode a6 with
      | some x1, some x2, some x3, some x4, some x5, some x6 =>
        some { extentLow := low, extentHigh := high, target := target, creep := creep, supervision := sup,
               openTimeout := opn, closeTimeout := cls, recycleDwell := dwell, maxRecycles := m.toNat,
               badFrameLimit := b.toNat, actions := ⟨x1, x2, x3, x4, x5, x6⟩ }
      | _, _, _, _, _, _ => none
    else none
  | _ => none

/-- The contents of a Platform Door Table entry within the ranges of R169. -/
def parseDoorEntry : List Byte → Option DoorEntry
  | [d, c0, c1, c2, c3, g0, g1, m0, m1] =>
    let c := nat32 c0 c1 c2 c3
    let g := nat16 g0 g1
    let m := nat16 m0 m1
    if 1 ≤ d.toNat ∧ d.toNat ≤ 32 ∧ c ≤ 250000 ∧ 300 ≤ g ∧ g ≤ 1500 ∧ 400 ≤ m ∧ m ≤ 2400 then
      some { drop := d.toNat, centre := c, halfWidth := g, minClear := m }
    else none
  | _ => none

/-- The door list of a profile: 4 bytes a door, within the ranges of R170. -/
def parseProfileDoors : Nat → List Byte → Option (List ProfileDoor)
  | 0, [] => some []
  | n + 1, a :: b :: c :: d :: rest =>
    if nat16 a b ≤ 60000 ∧ 300 ≤ nat16 c d ∧ nat16 c d ≤ 1200 then
      (parseProfileDoors n rest).map fun l => { offset := nat16 a b, halfWidth := nat16 c d } :: l
    else none
  | _, _ => none

/-- The contents of a Consist Profile Table entry within the ranges of R170. -/
def parseProfile : List Byte → Option Profile
  | l0 :: l1 :: c0 :: c1 :: n :: rest =>
    let l := nat16 l0 l1
    let c := nat16 c0 c1
    if 2000 ≤ l ∧ l ≤ 60000 ∧ c ≤ 3000 ∧ 1 ≤ n.toNat ∧ n.toNat ≤ 24 then
      (parseProfileDoors n.toNat rest).map fun ds => { length := l, coupling := c, doors := ds }
    else none
  | _ => none

/-- The contents of a Consist Match Table entry within the ranges of R170. -/
def parseMatch : List Byte → Option MatchEntry
  | [v, k0, k1, k2, k3, m0, m1, m2, m3, p] =>
    if v.toNat ≤ 1 ∧ p.toNat ≤ 15 then
      some { valid := v = 1, key := word32 k0 k1 k2 k3, mask := word32 m0 m1 m2 m3, profile := p.toNat }
    else none
  | _ => none

/-- The contents of a Zone Table entry within the ranges of R171. -/
def parseZone : List Byte → Option ZoneEntry
  | [f, d, h, b1, b0, kOn, kOff, p] =>
    match faceOfCode f, policyOfCode p with
    | some face, some policy =>
      if 1 ≤ d.toNat ∧ d.toNat ≤ 32 ∧ h.toNat ≤ 15 ∧ nat16 b1 b0 ≠ 0 ∧ 1 ≤ kOn.toNat ∧ kOn.toNat ≤ 8 ∧ kOff.toNat ≤ 7 then
        some { face := face, door := d.toNat, head := h.toNat, beams := BitVec.ofNat 16 (nat16 b1 b0), kOn := kOn.toNat,
               kOff := kOff.toNat, policy := policy }
      else none
    | _, _ => none
  | _ => none

/-- The presence byte and contents of WRITE_ENTRY: absent, or a complete entry (R172, R196). -/
def parsePresence : List Byte → Option (Option (List Byte))
  | p :: rest => if p = 0 then if rest = [] then some none else none else if p = 1 then some (some rest) else none
  | [] => none

/-- An entry replaced by contents or made absent; none where a field of the contents is out of its range (R172). -/
def Tables.write (t : Tables) (key : EntryKey) (contents : Option (List Byte)) : Option Tables :=
  match key, contents with
  | .params f, none => some { t with params := t.params.set f none }
  | .params f, some b => (parseParams b).map fun x => { t with params := t.params.set f (some x) }
  | .door f n, none => some { t with doors := t.doors.set f ((t.doors.get f).setIfInBounds (n - 1) none) }
  | .door f n, some b =>
    (parseDoorEntry b).map fun x => { t with doors := t.doors.set f ((t.doors.get f).setIfInBounds (n - 1) (some x)) }
  | .profile i, none => some { t with profiles := t.profiles.setIfInBounds i none }
  | .profile i, some b => (parseProfile b).map fun x => { t with profiles := t.profiles.setIfInBounds i (some x) }
  | .consist i, none => some { t with consist := t.consist.setIfInBounds i MatchEntry.absent }
  | .consist i, some b => (parseMatch b).map fun x => { t with consist := t.consist.setIfInBounds i x }
  | .zone i, none => some { t with zones := t.zones.setIfInBounds i none }
  | .zone i, some b => (parseZone b).map fun x => { t with zones := t.zones.setIfInBounds i (some x) }

/-! ## Frames of the door lines (section 11.3, R199) -/

/-- The code of a command in a drop frame. -/
def DoorCommand.code : DoorCommand → Nat
  | .openCmd => 1
  | .closeCmd => 2
  | .haltCmd => 3

/-- The bytes of a drop frame before its CRC. -/
def dropFrameBody (drop : Nat) : Carried → List Byte
  | .nothing seq => u8 drop ++ u8 seq.toNat
  | .command c seq => u8 drop ++ u8 (c.code * 16 + seq.toNat)
  | .tunnel p seq => u8 drop ++ u8 (4 * 16 + seq.toNat) ++ u8 p.length ++ p

/-- The bytes of a drop frame (section 11.3). -/
def dropFrame (drop : Nat) (c : Carried) : List Byte := dropFrameBody drop c ++ [crc8 (dropFrameBody drop c)]

/-- What the bytes that arrived in an answer window amount to (R81, R87). -/
inductive Answer where
  | incomplete
  | bad
  | good (status : Status) (tunnelReply : Option (List Byte))
  deriving DecidableEq, Repr

/-- The number of bytes of a status frame, from the tunnel-reply bit and the reply length; none where too few bytes have
arrived to tell (R199). -/
def answerLength : List Byte → Option Nat
  | _ :: b1 :: _ :: rest =>
    if b1.getLsbD 3 then
      match rest with
      | n :: _ => some (5 + n.toNat)
      | [] => none
    else some 4
  | _ => none

/-- A complete status frame judged for the drop address its turn was sent to (R87, R199). -/
def judgeFrame (drop : Nat) (frame : List Byte) (parityOk : Bool) : Answer :=
  match frame with
  | b0 :: b1 :: b2 :: rest =>
    let reply : Option (List Byte) := if b1.getLsbD 3 then some (rest.tail.dropLast) else none
    match positionOfCode (b1.toNat % 8) with
    | some p =>
      if parityOk ∧ crc8 frame.dropLast = frame.getLastD 0 ∧ b0.toNat = drop ∧ b2.toNat < 16 ∧
          (reply.getD []).length ≤ 32 then
        .good { position := p, obstruction := b1.getLsbD 4, releaseActuated := b1.getLsbD 5,
                localIsolation := b1.getLsbD 6, driveFault := b1.getLsbD 7, echo := BitVec.ofNat 4 b2.toNat } reply
      else .bad
    | none => .bad
  | _ => .bad

/-- The bytes of an answer judged: the frame is complete when its CRC byte has arrived, and what follows is not looked at
(R81, R87, R199). -/
def judgeAnswer (drop : Nat) (bytes : List Byte) (parityOk : Bool) : Answer :=
  match answerLength bytes with
  | none => .incomplete
  | some n => if bytes.length < n then .incomplete else judgeFrame drop (bytes.take n) parityOk

/-! ## Frames of the sensor line (section 11.4, R200) -/

/-- The bytes of a sync frame (section 11.4). -/
def syncFrame (cycle : BitVec 8) : List Byte := [0xB4, cycle, crc8 [0xB4, cycle]]

/-- A scan frame judged as the scan of one answer slot in one cycle: its beam vector where it is good (R106, R200). -/
def judgeScan (slot : Nat) (cycle : BitVec 8) (bytes : List Byte) (parityOk : Bool) : Option Beams :=
  match bytes with
  | [b0, b1, b2, b3, c] =>
    if parityOk ∧ crc8 [b0, b1, b2, b3] = c ∧ b0.toNat = slot ∧ b1 = cycle then some (b2 ++ b3) else none
  | _ => none

end Sys2Proof.Machine
end

