-- ==== Sys2Proof/WellFormed.lean ====
section
/-! DEFINITION. Which commands spell an event that the lines of the part can bring: the ranges of their operands. The
meanings are total and do not rest on these checks. -/

namespace Sys2Proof

/-- A request frame's class is not TRAIN, and its payload holds at most 250 bytes (R181, R182). -/
def Request.wf (r : Request) : Bool := r.cls ≠ 0x01 && r.payload.length ≤ 250

/-- The bytes after the kind byte of a TRAIN payload: at most 249 (R181, R196). -/
def bodyWf (body : List Byte) : Bool := body.length ≤ 249

/-- A door number lies within 1 to 32 (R47). -/
def doorWf (door : Nat) : Bool := 1 ≤ door && door ≤ 32

/-- A status frame has at most 3 header bytes, a length byte, 255 reply bytes and a CRC (R199). -/
def answerWf (bytes : List Byte) : Bool := bytes.length ≤ 260

/-- A scan frame brings at least its first byte (R105). -/
def scanWf (bytes : List Byte) : Bool := bytes ≠ []

/-- The operands of a command lie in their ranges. -/
def Instr.wf : Instr → Bool
  | .powerOn _ _ => true
  | .resetPinAssert _ => true
  | .resetPinRelease _ _ => true
  | .evacInputChange _ _ _ => true
  | .inboundFrameDamaged _ => true
  | .trainFrameDiscarded _ => true
  | .arrival _ _ body => bodyWf body
  | .position _ _ body => bodyWf body
  | .departure _ _ body => bodyWf body
  | .cleared _ _ body => bodyWf body
  | .requestFrameReceived _ request => request.wf
  | .requestUndefinedKind _ => true
  | .openFace _ => true
  | .closeFace _ => true
  | .reopenDoor _ => true
  | .closeDoor _ => true
  | .isolateDoor _ => true
  | .returnDoor _ => true
  | .holdAdd _ => true
  | .holdCancel _ => true
  | .restore _ => true
  | .evacuate _ => true
  | .tunnel _ => true
  | .writeEntry _ => true
  | .readEntry _ => true
  | .activate _ => true
  | .readStatus _ => true
  | .readDoor _ => true
  | .setDevice _ => true
  | .readEvents _ => true
  | .snapshotCounters _ => true
  | .readCounters _ => true
  | .clearCounters _ => true
  | .softReset _ _ => true
  | .transmitFrameEnd _ => true
  | .uplinkSilenceExpiry _ => true
  | .supervisionExpiry _ _ => true
  | .alignmentComplete _ => true
  | .openTimeoutExpiry _ _ door => doorWf door
  | .closeTimeoutExpiry _ _ door => doorWf door
  | .recycleDwellExpiry _ _ door => doorWf door
  | .obstructionReport _ _ door => doorWf door
  | .holdMaximumExpiry _ _ => true
  | .partnerDwellExpiry _ _ => true
  | .turnAnswer _ _ bytes _ => answerWf bytes
  | .answerWindowExpiry _ _ => true
  | .lateFrameDiscarded _ _ => true
  | .tunnelTimeout _ _ => true
  | .scanFrameArrival _ bytes _ => scanWf bytes
  | .sensorCycleEnd _ => true
  | .periodicProofExpiry _ _ => true
  | .validationComplete _ => true
  | .copyComplete _ => true
  | .snapshotReady _ => true
  | .counterClearComplete _ => true
  | .powerLoss _ => true

end Sys2Proof
end

