-- ==== Sys2Proof/Decode.lean ====
section
/-! DEFINITION. Words and frames read as commands. No row of the opcode table gives bits, so no table word spells a command. The
frames of the station link (R181, R182, R196, R198) are read here in full, and written. -/

namespace Sys2Proof

/-- The command that a table word spells: none, since no row of spec/opcode_table.json gives bits. -/
def decodeTableWord (_nbits _w : Nat) : Option Instr := none

namespace Machine

/-- The bytes of a station-link frame that its CRC covers: class, face, tag, length, payload (R196). -/
def frameBody (cls face tag : Byte) (payload : List Byte) : List Byte :=
  [cls, face, tag, BitVec.ofNat 8 payload.length] ++ payload

/-- The two CRC bytes of a frame, high byte first (R196, R198). -/
def crcBytes (body : List Byte) : List Byte := [(crc16 body).extractLsb' 8 8, (crc16 body).extractLsb' 0 8]

/-- The bytes of a station-link frame (R196). -/
def encodeFrame (cls face tag : Byte) (payload : List Byte) : List Byte :=
  0xA5 :: (frameBody cls face tag payload ++ crcBytes (frameBody cls face tag payload))

/-- The command of an intact frame, by its class (R182). -/
def deliver (t : Micros) (cls face tag : Byte) (payload : List Byte) : Instr :=
  if cls = 0x01 then
    match faceOfCode face, payload with
    | some f, k :: body =>
      if k = 0x01 then .arrival t f body
      else if k = 0x02 then .position t f body
      else if k = 0x03 then .departure t f body
      else if k = 0x04 then .cleared t f body
      else .trainFrameDiscarded t
    | _, _ => .trainFrameDiscarded t
  else .requestFrameReceived t { cls := cls, face := face, tag := tag, payload := payload }

/-- The body of a frame judged: it is intact when it is complete, its length field within 250 and its CRC right; every other frame
is damaged, one that breaks off before it is complete among them. Bytes beyond its completion are outside the frame (R181, R196). -/
def judgeBody (t : Micros) : List Byte → Instr
  | cls :: face :: tag :: n :: rest =>
    if n.toNat ≤ 250 ∧ (rest.drop n.toNat).take 2 = crcBytes (frameBody cls face tag (rest.take n.toNat)) then
      deliver t cls face tag (rest.take n.toNat)
    else .inboundFrameDamaged t
  | _ => .inboundFrameDamaged t

/-- A run of bytes between two idle periods of the station link, read as a command. Only a start byte at its beginning begins a frame;
bytes outside a frame are discarded and not counted, and a run without a frame is no command (R196). -/
def readFrame (t : Micros) : List Byte → Option Instr
  | 0xA5 :: body => some (judgeBody t body)
  | _ => none

end Machine

end Sys2Proof
end

