-- ==== Sys2Proof/Machine/Reply.lean ====
section
/-! DEFINITION. Requests taken from the intake queue and replies joining the reply list (R184, R185). -/

namespace Sys2Proof.Machine

/-- The code of a reason: 1 to 17 (R196). -/
def Reason.code : Reason → Nat
  | .badArgument => 1
  | .badState => 2
  | .busy => 3
  | .notConfigured => 4
  | .berthOccupied => 5
  | .notEnabled => 6
  | .evacuating => 7
  | .holdClosedActive => 8
  | .full => 9
  | .notNow => 10
  | .protect => 11
  | .inputActive => 12
  | .releaseActive => 13
  | .tableLocked => 14
  | .tableInvalid => 15
  | .tableConflict => 16
  | .timeout => 17

/-- The kind byte of ACTIVATE (R196). -/
def kindActivate : Byte := 0x24

/-- The kind byte of SNAPSHOT_COUNTERS (R196). -/
def kindSnapshot : Byte := 0x27

/-- The kind byte of CLEAR_COUNTERS (R196). -/
def kindClear : Byte := 0x29

/-- The kind byte of TUNNEL (R196). -/
def kindTunnel : Byte := 0x30

namespace State

/-- A REPLY formed: it joins the reply list at its newest end (R185). -/
def reply (s : State) (kind tag : Byte) (result : Result) (data : List Byte) : State :=
  s.modLif fun l => { l with replies := l.replies ++ [{ kind := kind, tag := tag, result := result, data := data, nextPart := 0 }] }

/-- A request answered as its block takes it (R184, R185). -/
def answer (s : State) (r : Request) (result : Result) (data : List Byte) : State := s.reply r.kindByte r.tag result data

/-- A request carried out and answered DONE. -/
def done (s : State) (r : Request) : State := s.answer r .done []

/-- A request refused (R3). -/
def refuse (s : State) (r : Request) (reason : Reason) : State := s.answer r (.refused reason) []

/-- The requests taken whose replies are still to be formed at the completion of their work (R184). -/
def timedRequests (s : State) : Nat :=
  (if s.tbs.validation.isSome then 1 else 0) + (if (s.face .A).line.tunnel.isSome then 1 else 0) +
    (if (s.face .B).line.tunnel.isSome then 1 else 0) + (if s.lif.preparing.isSome then 1 else 0) +
    (if (s.lif.clearing.bind fun c => c.tag).isSome then 1 else 0)

/-- The intake queue hands on no request while replies held and timed requests together number 8 (R184). -/
def heldBack (s : State) : Bool := 8 ≤ s.lif.replies.length + s.timedRequests

/-- The oldest request handed to its block, where it is of the kind the command names: it leaves the queue and `h` carries it
out. Where the queue is empty, its oldest request is of another kind, or handing is held back, no request is taken (R184,
notes/assumptions/4.md). -/
def takeRequest (s : State) (k : Option RequestKind) (h : Request → State → State) : State :=
  match s.lif.intake with
  | [] => s
  | r :: rest => if r.kind? = k ∧ ¬s.heldBack then h r (s.modLif fun l => { l with intake := rest }) else s

end State

end Sys2Proof.Machine
end

