-- ==== Sys2Proof/Machine/Flags.lean ====
section
/-! DEFINITION. Event flags, notices and alert outputs (R4, R163, R186, R188 to R190). -/

namespace Sys2Proof.Machine

/-- The code of an event kind (R196). -/
def EventKind.code : EventKind → Nat
  | .manualRelease => 1
  | .evacuationStart => 2
  | .restored => 3
  | .restoreRefused => 4
  | .doorStalled => 5
  | .doorHeld => 6
  | .doorLost => 7
  | .doorReturned => 8
  | .movementUnproven => 9
  | .departureUnproven => 10
  | .positionStale => 11
  | .noProfile => 12
  | .misaligned => 13
  | .partialAlign => 14
  | .gapAfterClose => 15
  | .headSilent => 16
  | .holdEnded => 17
  | .bankAdopted => 18
  | .reset => 19
  | .uplinkDegraded => 20
  | .intakeOverrun => 21
  | .copyDone => 22
  | .countersCleared => 23

/-- The condition whose flag an event kind is, where it is one (R188). -/
def EventKind.condition? : EventKind → Option Condition
  | .positionStale => some .positionStale
  | .noProfile => some .noProfile
  | .headSilent => some .headSilent
  | .doorStalled => some .doorStalled
  | .doorHeld => some .doorHeld
  | .uplinkDegraded => some .uplinkDegraded
  | _ => none

/-- A kind joins a set of kinds, which is kept in increasing code without repeats (R2, R190). -/
def insertKind (k : EventKind) : List EventKind → List EventKind
  | [] => [k]
  | x :: xs => if k = x then x :: xs else if k.code < x.code then k :: x :: xs else x :: insertKind k xs

/-- The route of a kind (R186). -/
def LinkInterface.route (l : LinkInterface) (k : EventKind) : Route := (l.routes[k.code - 1]?).getD ⟨false, false⟩

/-- "Is an alert-routed flag set for this face or the device" (R163, R188). -/
def alertDue (l : LinkInterface) (f : Face) : Bool :=
  (l.flags.get (.face f) ++ l.flags.device).any fun k => (l.route k).alert

namespace State

/-- The alert output of each face driven or released as the flags and routes call for (R163, R188). -/
def refreshAlerts (s : State) : State :=
  (s.modProof .A fun p => { p with alertDriven := alertDue s.lif .A }).modProof .B
    fun p => { p with alertDriven := alertDue s.lif .B }

/-- A kind whose flag goes from clear to set forms or joins its scope's pending notice record where its notice route is on
(R190). -/
def joinNotice (s : State) (c : Scope) (k : EventKind) : State :=
  if (s.lif.route k).notice then
    s.modLif fun l => { l with notices := l.notices.set c (some (insertKind k ((l.notices.get c).getD []))) }
  else s

/-- An event or condition raised: its flag is set in its scope. A flag already set stays set and nothing more happens (R4,
R188, R190). -/
def raise (s : State) (c : Scope) (k : EventKind) : State :=
  if k ∈ s.lif.flags.get c then s
  else
    ((s.modLif fun l => { l with flags := l.flags.set c (insertKind k (l.flags.get c)) }).joinNotice c k).refreshAlerts

/-- An event of a face raised. -/
def raiseFace (s : State) (f : Face) (k : EventKind) : State := s.raise (.face f) k

/-- An event of the device raised. -/
def raiseDevice (s : State) (k : EventKind) : State := s.raise .device k

end State

end Sys2Proof.Machine
end

