-- ==== Sys2Proof/Machine/Proof.lean ====
section
/-! DEFINITION. The Proof Unit: face proof, conditions and forcing sets, loop outputs, proof telegrams (Chapter 8). -/

namespace Sys2Proof.Machine

/-- Whether a door record counts as closed for proof (R155). -/
def Door.countsClosed (d : Door) : Bool :=
  match d.state, d.isolation with
  | .closed, .none => true
  | .isolated, .lockedOut => true
  | .isolated, .localSwitch => d.lastStatus.map (fun st => st.position) = some .closedLocked
  | _, _ => false

/-- Whether no requirement of face proof fails (R153). -/
def Blockers.isEmpty (b : Blockers) : Bool := !(b.unconfigured || b.doors || b.zones || b.release || b.forcing)

/-- The members of a set of conditions whose action passes a test; none for a face without a Face Parameter Record (R158). -/
def filterActions (actions : Option (PerCondition Action)) (active : ConditionSet) (p : Action → Bool) : ConditionSet :=
  match actions with
  | none => noConditions
  | some a =>
    { positionStale := active.positionStale && p a.positionStale, uplinkDegraded := active.uplinkDegraded && p a.uplinkDegraded,
      headSilent := active.headSilent && p a.headSilent, doorStalled := active.doorStalled && p a.doorStalled,
      doorHeld := active.doorHeld && p a.doorHeld, noProfile := active.noProfile && p a.noProfile }

namespace State

/-- The requirements of face proof that fail (R154). -/
def proofBlockers (s : State) (f : Face) : Blockers :=
  { unconfigured := !s.configured f
    doors := !((s.face f).doors.all Door.countsClosed)
    zones := !((s.gap.zones.get f).all fun z => z.state = .clear)
    release := (s.face f).release.state ≠ .normal
    forcing := (s.face f).proof.withhold.nonempty }

/-- A proof telegram of a face, with the values as they stand (R161). -/
def formTelegram (s : State) (f : Face) (kind : ProofKind) : ProofTelegram :=
  { face := f, kind := kind, held := (s.face f).proof.held, blockers := (s.face f).proof.blockers,
    berth := (s.face f).berth.state, enableSize := (s.face f).berth.enable.length,
    release := (s.face f).release.state, releaseSeq := (s.face f).release.seq, stopError := (s.face f).berth.stopError,
    formedAt := s.now }

/-- The proof record after a decision: the loop output follows proof, and a loss is counted (R153, R156, R160). -/
def decidedProof (s : State) (f : Face) : ProofRecord :=
  let p := (s.face f).proof
  let b := s.proofBlockers f
  { p with blockers := b, held := b.isEmpty, loopClosed := b.isEmpty,
           losses := if p.held && !b.isEmpty then s.bump p.losses else p.losses }

/-- Proof decided afresh; a change of proof forms a CHANGED telegram (R156, R162). -/
def decide (s : State) (f : Face) : State :=
  let s1 := s.modProof f fun _ => s.decidedProof f
  if (s1.face f).proof.held = (s.face f).proof.held then s1
  else s1.modLif fun l => { l with changed := l.changed ++ [s1.formTelegram f .changed] }

/-- The withhold and hold-closed sets formed again from the active conditions and the active bank's actions (R158). -/
def formSets (s : State) (f : Face) : State :=
  s.modProof f fun p =>
    { p with withhold := filterActions ((s.params? f).map (fun q => q.actions)) p.active (fun a => a ≠ .report)
             holdClosed := filterActions ((s.params? f).map (fun q => q.actions)) p.active (fun a => a = .holdClosed) }

/-- The active conditions replaced; where they change, the sets are formed again. Proof is then decided (R156 to R158). -/
def setActive (s : State) (f : Face) (c : ConditionSet) : State :=
  if (s.face f).proof.active = c then s.decide f
  else ((s.modProof f fun p => { p with active := c }).formSets f).decide f

/-- A condition's becoming active or ceasing, handed to the Proof Unit of a face; nothing is handed where it stands so
already (R156, R157). -/
def setCondition (s : State) (f : Face) (c : Condition) (on : Bool) : State :=
  if (s.face f).proof.active.get c = on then s else s.setActive f ((s.face f).proof.active.set c on)

/-- A door hand-on: the doors in STALLED and in HELD are counted, the two conditions follow the counts, and proof is decided
(R156, R157). -/
def doorsHandOn (s : State) (f : Face) : State :=
  let stalled := (s.face f).doors.countP fun d => d.state = .stalled
  let held := (s.face f).doors.countP fun d => d.state = .held
  let s1 := s.modProof f fun p => { p with stalledCount := stalled, heldCount := held }
  s1.setActive f { (s1.face f).proof.active with doorStalled := 0 < stalled, doorHeld := 0 < held }

/-- A condition of a face that its owner finds true: its flag is raised and it becomes active (R4, R157). -/
def activate (s : State) (f : Face) (c : Condition) (k : EventKind) : State :=
  if (s.face f).proof.active.get c then s else (s.raiseFace f k).setCondition f c true

/-- The Proof Unit at a soft reset: proof NOT_HELD and loop output open without a telegram or a loss, conditions and sets
empty, the blockers formed with every door counted as not closed (R164). -/
def proofSoftReset (s : State) (f : Face) : State :=
  let s1 := s.modProof f fun p =>
    { p with held := false, loopClosed := false, alertDriven := false, active := noConditions, withhold := noConditions,
             holdClosed := noConditions, stalledCount := 0, heldCount := 0, pending := none, periodicAt := s.ms + 200 }
  s1.modProof f fun p => { p with blockers := { s1.proofBlockers f with doors := s1.configured f } }

/-- The periodic timer expires: a PERIODIC telegram is formed, in place of one not yet sent, and the timer runs on (R162). -/
def periodicExpiry (s : State) (f : Face) : State :=
  if s.due (some (s.face f).proof.periodicAt) then
    s.modProof f fun p =>
      { p with pending := some (s.formTelegram f .periodic), periodicAt := p.periodicAt + 200 }
  else s

end State

end Sys2Proof.Machine
end

