-- ==== Sys2Proof/Machine/DoorRecord.lean ====
section
/-! DEFINITION. What one event does to one door record: commands, obstruction, status, timeouts, loss and return, isolation,
and the closes and openings of Chapter 3. Each is a function of the record and of what it reads elsewhere (`DoorContext`). -/

namespace Sys2Proof.Machine

/-- What a door record's rules read outside the record: the time, the face's parameters (R49, R69), whether a counter clear
runs (R48), whether the face is under evacuation (R69), and whether a RECYCLE-policy zone of the door is OCCUPIED (R68). -/
structure DoorContext where
  ms : Millis
  openTimeout : Nat
  closeTimeout : Nat
  recycleDwell : Nat
  maxRecycles : Nat
  clearing : Bool
  evacuating : Bool
  occupied : Bool
  deriving DecidableEq, Repr

/-- What the Door Sequencer reports to the Release Supervisor (R132). -/
inductive DoorReport where
  | latchSet | evacSet | latchCleared | evacCleared
  deriving DecidableEq, Repr

/-- A report that clears a mark (R146). -/
def DoorReport.clears : DoorReport → Bool
  | .latchCleared => true
  | .evacCleared => true
  | .latchSet => false
  | .evacSet => false

/-- A door record after an event, with the events it raises and the reports it makes, in order. -/
structure DoorOutcome where
  door : Door
  events : List EventKind
  reports : List DoorReport
  deriving DecidableEq, Repr

/-- One event after another on the same record. -/
def DoorOutcome.andThen (o : DoorOutcome) (g : Door → DoorOutcome) : DoorOutcome :=
  { door := (g o.door).door, events := o.events ++ (g o.door).events, reports := o.reports ++ (g o.door).reports }

/-- The next value of a door counter (R1, R48, R193). -/
def DoorContext.bump (c : DoorContext) (n : Counter) : Counter := if c.clearing then n else n + 1

/-- The settled state of a status (R63). -/
def Status.settled (st : Status) : DoorState :=
  if st.localIsolation then .isolated
  else if st.driveFault then .stalled
  else
    match st.position with
    | .closedLocked => .closed
    | .opened => .opened
    | .stoppedMid => .stalled
    | .closedUnlocked => .unknown
    | .opening => .unknown
    | .closing => .unknown

namespace Door

/-- An outcome with neither event nor report. -/
def plain (d : Door) : DoorOutcome := { door := d, events := [], reports := [] }

/-- The command slot replaced. -/
def setSlot (d : Door) (c : Option SlotCommand) : Door := { d with link := { d.link with slot := c } }

/-- The command in a door's slot, if any. -/
def slotCommand (d : Door) : Option DoorCommand := d.link.slot.map fun c => c.command

/-- A command placed in the slot with 4 sends left and no sequence number; one that it replaces is counted (R50, R83, R91). -/
def place (d : Door) (ctx : DoorContext) (cmd : DoorCommand) (u : Urgency) : Door :=
  let d1 := if d.link.slot.isSome then { d with superseded := ctx.bump d.superseded } else d
  d1.setSlot (some { command := cmd, urgency := u, seq := none, left := 4 })

/-- A change of the door's state, which stops its timer (R49). -/
def goTo (d : Door) (st : DoorState) : Door := { d with state := st, timer := none }

/-- A move to STALLED with DOOR_STALLED raised; the timer stops (R49, R62, R66, R70). -/
def stall (d : Door) : DoorOutcome := { door := d.goTo .stalled, events := [.doorStalled], reports := [] }

/-- An entry to CLOSED, which clears the evac-opened mark and the latch and reports each that was set (R76). -/
def enterClosed (d : Door) : DoorOutcome :=
  { door := { d.goTo .closed with latched := false, evacOpened := false }
    events := []
    reports := (if d.latched then [DoorReport.latchCleared] else []) ++ (if d.evacOpened then [DoorReport.evacCleared] else []) }

/-- An obstruction taken: the door recycles where it may, and is held otherwise (R69). -/
def obstruct (d : Door) (ctx : DoorContext) : DoorOutcome :=
  let d1 := { d with obstructions := ctx.bump d.obstructions }
  if d1.enabled ∧ d1.recycleCount < ctx.maxRecycles ∧ ¬ctx.evacuating then
    plain { (d1.place ctx .openCmd .urgent).goTo .recycling with
      recycleCount := d1.recycleCount + 1, recycles := ctx.bump d1.recycles }
  else { door := (d1.place ctx .haltCmd .urgent).goTo .held, events := [.doorHeld], reports := [] }

/-- An entry to CLOSING, tested for a RECYCLE-policy zone already OCCUPIED (R68). -/
def enterClosing (d : Door) (ctx : DoorContext) : DoorOutcome :=
  let d1 := d.goTo .closing
  if ctx.occupied then d1.obstruct ctx else plain d1

/-- A close: a CLOSE placed, CLOSING entered, the recycle count 0 (R55, R57, R73, R75). -/
def startClose (d : Door) (ctx : DoorContext) (u : Urgency) : DoorOutcome :=
  ({ d with recycleCount := 0 }.place ctx .closeCmd u).enterClosing ctx

/-- An open: an OPEN placed and OPENING entered (R54, R56). -/
def startOpen (d : Door) (ctx : DoorContext) (u : Urgency) : Door := (d.place ctx .openCmd u).goTo .opening

/-- A manual release taken: slot emptied, timer stopped, local isolation ended, RELEASED and latched (R60 step 5, R134). -/
def latch (d : Door) : DoorOutcome :=
  { door := { (d.setSlot none).goTo .released with
      latched := true, isolation := if d.isolation = .localSwitch then .none else d.isolation }
    events := []
    reports := [.latchSet] }

/-- The settled state of a status taken: ISOLATED is local isolation, ISOLATED and STALLED empty the slot, STALLED raises
DOOR_STALLED, CLOSED clears marks (R59, R61, R63, R72, R76). -/
def takeSettled (d : Door) (st : Status) : DoorOutcome :=
  match st.settled with
  | .isolated => plain { (d.setSlot none).goTo .isolated with isolation := .localSwitch }
  | .stalled => (d.setSlot none).stall
  | .closed => d.enterClosed
  | .opened => plain (d.goTo .opened)
  | _ => plain (d.goTo .unknown)

/-- The effect of an acknowledgement on the door timer (R49, R51). -/
def takeAck (d : Door) (ctx : DoorContext) (cmd : DoorCommand) (pos : Position) : Door :=
  match cmd, d.state with
  | .openCmd, .opening =>
    if pos = .opened then d else { d with timer := some ⟨.openTimeout, ctx.ms + ctx.openTimeout⟩ }
  | .openCmd, .recycling =>
    if pos = .opened then d else { d with timer := some ⟨.openTimeout, ctx.ms + ctx.openTimeout⟩ }
  | .closeCmd, .closing =>
    if pos = .closedLocked then d else { d with timer := some ⟨.closeTimeout, ctx.ms + ctx.closeTimeout⟩ }
  | _, _ => d

/-- The acknowledgement that a status carries: its echo is the sequence number of the command in the slot, which leaves the
slot (R51, R88 step 5, R90). -/
def acknowledge (d : Door) (ctx : DoorContext) (st : Status) : Door :=
  match d.link.slot with
  | some c => if c.seq = some st.echo then (d.setSlot none).takeAck ctx c.command st.position else d
  | none => d

/-- The door position mapped by the door's state (R64). -/
def mapPosition (d : Door) (ctx : DoorContext) (st : Status) : DoorOutcome :=
  match d.state, st.position with
  | .unknown, .closedLocked => d.enterClosed
  | .unknown, .opened => plain (d.goTo .opened)
  | .unknown, .stoppedMid => (d.setSlot none).stall
  | .closed, .closedLocked => plain d
  | .closed, _ => d.stall
  | .opening, .opened => plain { d.goTo .opened with openCycles := ctx.bump d.openCycles }
  | .closing, .closedLocked => d.enterClosed
  | .held, .closedLocked => d.enterClosed
  | .stalled, .closedLocked => d.enterClosed
  | .recycling, .opened =>
    if d.timer.map (fun t => t.kind) = some .recycleDwell then plain d
    else plain { d with timer := some ⟨.recycleDwell, ctx.ms + ctx.recycleDwell⟩ }
  | _, _ => plain d

/-- The return decision of a LOST door; the command in the slot is the one that waited there. An entry to HELD or STALLED raises its
event here as anywhere (R72, R157, R188). -/
def returnDecision (d : Door) (ctx : DoorContext) (st : Status) : DoorOutcome :=
  let o : DoorOutcome := { door := d, events := [.doorReturned], reports := [] }
  let o := if st.releaseActuated ∧ ¬d.latched then o.andThen latch else o
  o.andThen fun d =>
    if d.latched then
      if d.slotCommand = some .closeCmd then
        if st.position = .closedLocked then (d.setSlot none).enterClosed else d.enterClosing ctx
      else plain ((d.setSlot none).goTo .released)
    else
      let d := if d.isolation = .localSwitch ∧ ¬st.localIsolation then { d with isolation := .none } else d
      if st.settled = .isolated ∨ st.settled = .stalled then d.takeSettled st
      else
        match d.slotCommand with
        | none => d.takeSettled st
        | some .openCmd => if st.settled = .opened then plain ((d.setSlot none).goTo .opened) else plain (d.goTo .opening)
        | some .closeCmd => if st.settled = .closed then (d.setSlot none).enterClosed else d.enterClosing ctx
        | some .haltCmd => { door := d.goTo .held, events := [.doorHeld], reports := [] }

/-- The local-isolation rule (R61). -/
def localRule (d : Door) (st : Status) : DoorOutcome :=
  if st.localIsolation then
    if d.isolation = .none ∧ ¬d.latched then
      plain { (d.setSlot none).goTo .isolated with isolation := .localSwitch, recycleCount := 0 }
    else plain d
  else if d.isolation = .localSwitch then { d with isolation := .none }.takeSettled st
  else plain d

/-- Steps 7 to 9 of a good status: drive fault, position, obstruction (R60, R62, R64, R69). -/
def mapStatus (d : Door) (ctx : DoorContext) (st : Status) : DoorOutcome :=
  if st.driveFault then if d.state = .stalled then plain d else (d.setSlot none).stall
  else
    (d.mapPosition ctx st).andThen fun d => if d.state = .closing ∧ st.obstruction then d.obstruct ctx else plain d

/-- A good status taken by the door record (R60). `returned` says that it ended a link loss (R95). -/
def takeStatus (d : Door) (ctx : DoorContext) (st : Status) (returned : Bool) : DoorOutcome :=
  let d := { d with lastStatus := some st }
  if d.state = .lost then (d.returnDecision ctx st).andThen fun d => plain (d.acknowledge ctx st)
  else
    let d := d.acknowledge ctx st
    let o : DoorOutcome := { door := d, events := if returned then [.doorReturned] else [], reports := [] }
    if d.isolation = .lockedOut ∨ d.state = .released then o
    else if st.releaseActuated ∧ ¬d.latched then o.andThen latch
    else
      (o.andThen fun d => d.localRule st).andThen fun d =>
        if d.isolation = .localSwitch then plain d else d.mapStatus ctx st

/-- A command's last send was answered without its echo; the slot is already empty (R70, R92). -/
def exhausted (d : Door) : DoorOutcome := (d.setSlot none).stall

/-- Contact with the unit is lost (R71). -/
def loseContact (d : Door) : DoorOutcome :=
  { door := if d.isolation = .lockedOut then d else d.goTo .lost, events := [.doorLost], reports := [] }

/-- The door taken out of service (R58). -/
def isolate (d : Door) : DoorOutcome :=
  if d.isolation = .lockedOut then plain d
  else
    { door := { (d.setSlot none).goTo .isolated with
        isolation := .lockedOut, recycleCount := 0, latched := false, evacOpened := false }
      events := []
      reports := (if d.latched then [DoorReport.latchCleared] else []) ++ (if d.evacOpened then [DoorReport.evacCleared] else []) }

/-- A LOCKED_OUT door returned to service (R59). -/
def returnToService (d : Door) : DoorOutcome :=
  let d := { d with isolation := .none }
  if d.link.lost then plain (d.goTo .lost)
  else
    match d.lastStatus with
    | some st => d.takeSettled st
    | none => plain (d.goTo .unknown)

/-- OPEN_FACE on one door: enabled, not latched, in CLOSED or CLOSING (R54). -/
def openable (d : Door) : Bool := d.enabled && !d.latched && (d.state = .closed || d.state = .closing)

/-- A close carried out on one door: in OPENING, OPEN or RECYCLING, not latched, isolation NONE (R55, R73). -/
def closable (d : Door) : Bool :=
  (d.state = .opening || d.state = .opened || d.state = .recycling) && !d.latched && d.isolation = .none

/-- The doors of the departure close and the evacuation close (R73). -/
def departing (d : Door) : Bool :=
  !d.latched && d.isolation = .none &&
    (d.state = .unknown || d.state = .opening || d.state = .opened || d.state = .recycling || d.state = .held ||
      d.state = .stalled || d.state = .lost)

/-- The departure close of one door: a LOST door keeps its state (R73). -/
def departureClose (d : Door) (ctx : DoorContext) : DoorOutcome :=
  if d.state = .lost then plain (d.place ctx .closeCmd .urgent) else d.startClose ctx .urgent

/-- The doors of the evacuation opening (R74). -/
def evacuable (d : Door) : Bool := d.enabled && !d.latched && d.isolation = .none && d.state ≠ .lost

/-- The evacuation opening of one door (R74). -/
def evacuationOpen (d : Door) (ctx : DoorContext) : DoorOutcome :=
  match d.state with
  | .opening => { door := { d with evacOpened := true }, events := [], reports := [.evacSet] }
  | .opened => { door := { d with evacOpened := true }, events := [], reports := [.evacSet] }
  | .recycling =>
    if d.timer.map (fun t => t.kind) = some .recycleDwell then
      { door := { d.goTo .opened with evacOpened := true }, events := [], reports := [.evacSet] }
    else { door := { d with state := .opening, evacOpened := true }, events := [], reports := [.evacSet] }
  | .closed => { door := { d.startOpen ctx .urgent with evacOpened := true }, events := [], reports := [.evacSet] }
  | .closing => { door := { d.startOpen ctx .urgent with evacOpened := true }, events := [], reports := [.evacSet] }
  | .held => { door := { d.startOpen ctx .urgent with evacOpened := true }, events := [], reports := [.evacSet] }
  | .stalled => { door := { d.startOpen ctx .urgent with evacOpened := true }, events := [], reports := [.evacSet] }
  | .unknown => { door := { d.startOpen ctx .urgent with evacOpened := true }, events := [], reports := [.evacSet] }
  | .released => plain d
  | .isolated => plain d
  | .lost => plain d

/-- The doors of the restore close: latched, or evac-opened and not CLOSED, in a state that R75 acts on. -/
def restorable (d : Door) : Bool :=
  (d.latched || (d.evacOpened && d.state ≠ .closed)) &&
    (d.state = .released || d.state = .opening || d.state = .opened || d.state = .recycling || d.state = .held ||
      d.state = .stalled || d.state = .unknown || d.state = .lost)

/-- The restore close of one door: a LOST door keeps its state (R75). -/
def restoreClose (d : Door) (ctx : DoorContext) : DoorOutcome :=
  if d.state = .lost then plain (d.place ctx .closeCmd .routine) else d.startClose ctx .routine

/-- An OPEN_TIMEOUT or CLOSE_TIMEOUT expires (R66). -/
def timeout (d : Door) (kind : TimerKind) : DoorOutcome :=
  let d := { d with timer := none }
  match kind, d.state with
  | .openTimeout, .opening => (d.setSlot none).stall
  | .openTimeout, .recycling => (d.setSlot none).stall
  | .closeTimeout, .closing => (d.setSlot none).stall
  | _, _ => plain d

/-- A RECYCLE_DWELL expires: a ROUTINE CLOSE with the recycle count kept (R67). -/
def dwellOver (d : Door) (ctx : DoorContext) : DoorOutcome :=
  let d := { d with timer := none }
  if d.state = .recycling then (d.place ctx .closeCmd .routine).enterClosing ctx else plain d

/-- A door's enabled field follows the enable set (R52). -/
def follow (d : Door) (enable : List Nat) : Door := { d with enabled := enable.contains d.number }

/-- An OPEN in the slot of a door that is not enabled is removed (R52). -/
def dropOpen (d : Door) : Door := if d.slotCommand = some .openCmd ∧ ¬d.enabled then d.setSlot none else d

/-- The link record and slot of a new door record (R77, R100). -/
def newLink : UnitLink := { badCount := 0, lost := false, base := none, lastIssued := none, badFrames := 0, slot := none }

/-- A new door record (R77). -/
def build (number drop : Nat) : Door :=
  { number := number, drop := drop, state := .unknown, enabled := false, recycleCount := 0, latched := false,
    evacOpened := false, isolation := .none, lastStatus := none, timer := none, openCycles := 0, recycles := 0,
    obstructions := 0, superseded := 0, link := newLink }

/-- A door record and its link record at a soft reset (R78, R101). -/
def softReset (d : Door) : Door :=
  { d with
    state := if d.latched then .released else if d.isolation = .lockedOut then .isolated else .unknown
    enabled := false, recycleCount := 0
    isolation := if d.isolation = .lockedOut then .lockedOut else .none
    lastStatus := none, timer := none
    link := { d.link with badCount := 0, lost := false, base := none, lastIssued := none, slot := none } }

end Door

end Sys2Proof.Machine
end

