-- ==== Sys2Proof/Machine/Sequencer.lean ====
section
/-! DEFINITION. The Door Sequencer over whole faces: one event of one door with its hand-ons, the closes and openings of a
face, the close deferral, and the Release Supervisor's part in them (Chapters 3, 6 and 7). -/

namespace Sys2Proof.Machine

/-- The mark of a door set in the release set, which is kept in increasing door number (R132). -/
def setMark (n : Nat) (latched evac : Bool) : List ReleaseMember → List ReleaseMember
  | [] => [⟨n, latched, evac⟩]
  | m :: rest =>
    if m.door = n then { m with latched := m.latched || latched, evacOpened := m.evacOpened || evac } :: rest
    else if n < m.door then ⟨n, latched, evac⟩ :: m :: rest
    else m :: setMark n latched evac rest

/-- A mark of a door cleared; a door left with neither mark leaves the release set (R132). -/
def clearMark (n : Nat) (latched evac : Bool) (l : List ReleaseMember) : List ReleaseMember :=
  (l.map fun m =>
    if m.door = n then { m with latched := m.latched && !latched, evacOpened := m.evacOpened && !evac } else m).filter
    fun m => m.latched || m.evacOpened

namespace State

/-- What the rules of one door read outside its record (R49, R68, R69). -/
def doorContext (s : State) (f : Face) (n : Nat) : DoorContext :=
  let p := s.params? f
  { ms := s.ms
    openTimeout := (p.map fun q => q.openTimeout).getD 0
    closeTimeout := (p.map fun q => q.closeTimeout).getD 0
    recycleDwell := (p.map fun q => q.recycleDwell).getD 0
    maxRecycles := (p.map fun q => q.maxRecycles).getD 0
    clearing := s.lif.clearing.isSome
    evacuating := (s.face f).release.state = .evacuating
    occupied := (s.gap.zones.get f).any fun z => z.door = n && z.policy = .recycle && z.state = .occupied }

/-- The release state changed and handed on to the Proof Unit (R133). -/
def setRelease (s : State) (f : Face) (st : ReleaseState) : State :=
  (s.modRelease f fun r => { r with state := st }).decide f

/-- A latch taken by the Release Supervisor: the sequence advances, the mark is set, NORMAL and RESTORING become RELEASED,
MANUAL_RELEASE is raised (R134). -/
def takeLatch (s : State) (f : Face) (n : Nat) : State :=
  let s1 := s.modRelease f fun r => { r with seq := r.seq + 1, set := setMark n true false r.set }
  let s2 := if (s.face f).release.state = .normal ∨ (s.face f).release.state = .restoring then s1.setRelease f .released else s1
  s2.raiseFace f .manualRelease

/-- A report of the Door Sequencer taken by the Release Supervisor (R132, R134). -/
def takeReport (s : State) (f : Face) (n : Nat) : DoorReport → State
  | .latchSet => s.takeLatch f n
  | .evacSet => s.modRelease f fun r => { r with set := setMark n false true r.set }
  | .latchCleared => s.modRelease f fun r => { r with set := clearMark n true false r.set }
  | .evacCleared => s.modRelease f fun r => { r with set := clearMark n false true r.set }

/-- The reports of one door event, in their order. -/
def takeReports (s : State) (f : Face) (n : Nat) (l : List DoorReport) : State := l.foldl (fun s r => s.takeReport f n r) s

/-- The events of one door event raised for its face, in their order. -/
def raiseAll (s : State) (f : Face) (l : List EventKind) : State := l.foldl (fun s k => s.raiseFace f k) s

/-- One event of one door record: the record is written, a mark it sets is reported, the Proof Unit receives the change, the
events are raised, a mark it clears is reported (R132, R156, R157; notes/assumptions/15.md). -/
def applyDoor (s : State) (f : Face) (n : Nat) (g : DoorContext → Door → DoorOutcome) : State :=
  match s.findDoor f n with
  | none => s
  | some d =>
    let o := g (s.doorContext f n) d
    let s := s.putDoor f n o.door
    let s := s.takeReports f n (o.reports.filter fun r => !r.clears)
    let s := s.doorsHandOn f
    let s := s.raiseAll f o.events
    s.takeReports f n (o.reports.filter fun r => r.clears)

/-- One event for each door record that passes a test, in increasing door number. -/
def applyDoors (s : State) (f : Face) (p : Door → Bool) (g : DoorContext → Door → DoorOutcome) : State :=
  (((s.face f).doors.filter p).map fun d => d.number).foldl (fun s n => s.applyDoor f n g) s

/-- The close that CLOSE_FACE carries out at once, and a held close (R55, R128). -/
def closeFaceNow (s : State) (f : Face) : State :=
  s.applyDoors f Door.closable fun ctx d => d.startClose ctx .routine

/-- The movement close (R73). -/
def movementClose (s : State) (f : Face) : State :=
  s.applyDoors f Door.closable fun ctx d => d.startClose ctx .urgent

/-- The departure close, and the evacuation close (R73). -/
def departureClose (s : State) (f : Face) : State :=
  s.applyDoors f Door.departing fun ctx d => d.departureClose ctx

/-- The restore close (R75). -/
def restoreClose (s : State) (f : Face) : State :=
  s.applyDoors f Door.restorable fun ctx d => d.restoreClose ctx

/-- OPEN_FACE's opening of the doors (R54). -/
def openDoors (s : State) (f : Face) : State :=
  s.applyDoors f Door.openable fun ctx d => Door.plain (d.startOpen ctx .routine)

/-- OPENs in the slots of doors that are not enabled removed (R52). -/
def dropOpens (s : State) (f : Face) : State := s.modDoors f fun ds => ds.map Door.dropOpen

/-- The enabled field of each door follows the enable set (R52). -/
def followEnable (s : State) (f : Face) : State :=
  s.modDoors f fun ds => ds.map fun d => d.follow (s.face f).berth.enable

/-! ### The close deferral (Chapter 6) -/

/-- A deferral ends: HOLD_ENDED raised, cause and time kept, both timers stopped, the record NONE (section 6.4). -/
def endDeferral (s : State) (f : Face) (cause : EndCause) : State :=
  (s.modDeferral f fun d =>
    { d with used := none, start := none, maximum := none, partnerSeen := false, partnerTimer := none,
             lastEnd := some (cause, s.ms) }).raiseFace f .holdEnded

/-- A deferral ends and its held close is carried out in the same step (R127, R128). -/
def endWithClose (s : State) (f : Face) (cause : EndCause) : State := (s.endDeferral f cause).closeFaceNow f

/-- A deferral in progress is cancelled without its held close (R129). -/
def cancelDeferral (s : State) (f : Face) : State :=
  if (s.face f).deferral.used.isSome then s.endDeferral f .cancelled else s

/-- The partner dwell timer's expiry, where its time has come: a deferral in progress ends with PARTNER_DWELL (R127). -/
def partnerDwellLapse (s : State) (f : Face) : State :=
  if (s.face f).deferral.used.isSome ∧ s.due (s.face f).deferral.partnerTimer then s.endWithClose f .partnerDwell else s

/-- The partner berth of face `f` enters DWELLING; a partner dwell timer whose time is already reached, as with T of 0, expires at
once (R127). -/
def partnerEnters (s : State) (f : Face) (start : Millis) : State :=
  (s.modDeferral f fun d =>
    match d.used with
    | some u => { d with partnerView := .dwelling start, partnerSeen := true, partnerTimer := some (start + u.entry.minDwell) }
    | none => { d with partnerView := .dwelling start }).partnerDwellLapse f

/-- The partner berth of face `f` exits from DWELLING (R127). -/
def partnerExits (s : State) (f : Face) : State :=
  let s1 := s.modDeferral f fun d => { d with partnerView := .notDwelling, partnerTimer := none }
  if (s.face f).deferral.used.isSome ∧ (s.face f).deferral.partnerSeen then s1.endWithClose f .partnerLeft else s1

/-- A STOPPED berth enters DWELLING; one already DWELLING is left as it is (R8, R9). -/
def enterDwelling (s : State) (f : Face) : State :=
  if (s.face f).berth.state = .stopped then
    (s.modBerth f fun b => { b with state := .dwelling, dwellStart := some s.ms }).partnerEnters f.partner s.ms
  else s

/-! ### Evacuation (R74, R139) -/

/-- The evacuation opening: a deferral is cancelled, the doors are opened and marked, then a STOPPED berth becomes DWELLING (R74,
R129, notes/assumptions/41.md). -/
def evacuationOpening (s : State) (f : Face) : State :=
  ((s.cancelDeferral f).applyDoors f Door.evacuable fun ctx d => d.evacuationOpen ctx).enterDwelling f

/-- The beginning of evacuation (R139). -/
def beginEvacuation (s : State) (f : Face) : State :=
  let s := (s.setRelease f .evacuating).raiseFace f .evacuationStart
  if (s.face f).berth.state = .stopped ∨ (s.face f).berth.state = .dwelling then s.evacuationOpening f
  else s.departureClose f

/-- Evacuation begins whenever the input is ASSERTED, the face configured and the release state not EVACUATING (R137). -/
def testEvacuation (s : State) (f : Face) : State :=
  if (s.face f).release.input = .asserted ∧ s.configured f ∧ (s.face f).release.state ≠ .evacuating then s.beginEvacuation f
  else s

end State

end Sys2Proof.Machine
end

