-- ==== Sys2Proof/Machine/DoorLine.lean ====
section
/-! DEFINITION. The Door Line Controller: turns, sends, sequence numbers, link health, tunnels (Chapter 4). The end of a turn
whose status completes a restore is in Adoption.lean. -/

namespace Sys2Proof.Machine

/-- The smallest of a list of drop addresses. -/
def leastDrop (l : List Nat) : Option Nat :=
  l.foldl (fun m d => match m with | none => some d | some x => some (min x d)) none

/-- The drop address of the urgent turn: the lowest whose link is not lost and whose slot holds an URGENT command (R84). -/
def urgentDrop (doors : List Door) : Option Nat :=
  leastDrop ((doors.filter fun d => !d.link.lost && d.link.slot.map (fun c => c.urgency) = some .urgent).map fun d => d.drop)

/-- The drop address of the next poll turn: the smallest greater than the rotation position, or the smallest (R85). -/
def pollDrop (doors : List Door) (rotation : Option Nat) : Option Nat :=
  let all := doors.map fun d => d.drop
  match rotation with
  | none => leastDrop all
  | some p => (leastDrop (all.filter fun x => p < x)).orElse fun _ => leastDrop all

/-- The arbiter's choice: urgent, tunnel, poll (R84). -/
def chooseTurn (doors : List Door) (line : DoorLine) : Option (TurnKind × Nat) :=
  match urgentDrop doors with
  | some d => some (.urgent, d)
  | none =>
    match line.tunnel with
    | some t => if t.sent then (pollDrop doors line.rotation).map fun d => (.poll, d) else some (.tunnel, t.drop)
    | none => (pollDrop doors line.rotation).map fun d => (.poll, d)

/-- The sequence number of a command's first send (R89). -/
def nextSeq (lastIssued : Option (BitVec 4)) (base : BitVec 4) : BitVec 4 :=
  let n := lastIssued.getD base + 1
  if n = base then n + 1 else n

namespace UnitLink

/-- The command that a turn of a kind sends to the unit, where it sends one (R86). -/
def sends (l : UnitLink) (kind : TurnKind) : Option SlotCommand :=
  match l.slot with
  | none => none
  | some c =>
    if l.lost ∨ l.base = none then none
    else
      match kind, c.urgency with
      | .urgent, .urgent => some c
      | .poll, .routine => some c
      | _, _ => none

/-- The sequence number a send of a command carries: the command's own, or a new one at its first send (R89). -/
def sendSeq (l : UnitLink) (c : SlotCommand) : BitVec 4 := c.seq.getD (nextSeq l.lastIssued (l.base.getD 0))

/-- The link record once a turn of a kind has begun: a first send gives the command its number (R89). -/
def begun (l : UnitLink) (kind : TurnKind) : UnitLink :=
  match l.sends kind with
  | none => l
  | some c =>
    if c.seq = none then
      { l with slot := some { c with seq := some (l.sendSeq c) }, lastIssued := some (l.sendSeq c) }
    else l

/-- What the drop frame of a turn carries. The NONE of an urgent turn to a unit without a base, for which R86 names no sequence number,
carries 0 as a poll turn's does (R86, notes/assumptions/43.md). -/
def carries (l : UnitLink) (kind : TurnKind) (payload : List Byte) : Carried :=
  match kind with
  | .tunnel => .tunnel payload (l.base.getD 0)
  | _ =>
    match l.sends kind with
    | some c => .command c.command (l.sendSeq c)
    | none => .nothing (l.base.getD 0)

/-- A send answered without its echo: one send less; `none` in the second place says the command is exhausted and its slot
emptied (R92). -/
def spend (l : UnitLink) : UnitLink × Bool :=
  match l.slot with
  | none => (l, false)
  | some c => if c.left ≤ 1 then ({ l with slot := none }, true) else ({ l with slot := some { c with left := c.left - 1 } }, false)

/-- Whether a turn was a send of the command now in the slot (R88). -/
def wasSent (l : UnitLink) (c : Carried) : Bool :=
  match c, l.slot with
  | .command _ n, some k => k.seq = some n
  | _, _ => false

/-- The link record after steps 1 to 3 of a good frame: count 0, link returned with the command's sends restored, base the
echo (R88, R95). -/
def good (l : UnitLink) (echo : BitVec 4) : UnitLink :=
  { l with badCount := 0, lost := false, base := some echo
           slot := if l.lost then l.slot.map fun c => { c with left := 4 } else l.slot }

end UnitLink

/-- A door's link record changed. -/
def Door.modLink (d : Door) (g : UnitLink → UnitLink) : Door := { d with link := g d.link }

/-- The time one character takes on a door line, in microseconds: eleven bits at 1,000,000 bit/s (R199). -/
abbrev characterTime : Micros := 11

/-- The time a drop frame takes on the line, in microseconds (R199). -/
def dropFrameTime (drop : Nat) (c : Carried) : Nat := characterTime * (dropFrame drop c).length

/-- The length of an answer window, which opens at the end of the drop frame, in microseconds (R81). -/
abbrev answerWindow : Micros := 800

/-- The characters of a run on a door line that fall within the answer window that ends at `windowEnd`, where the run's last character is
complete at `now` and its characters follow one another without a gap: one that begins before the window opens is discarded (R81, R101,
notes/assumptions/49.md). -/
def inWindow (windowEnd now : Micros) (bytes : List Byte) : List Byte :=
  bytes.drop (bytes.length - (now + answerWindow - windowEnd) / characterTime)

namespace State

/-- The link record of the unit at a drop address changed. -/
def modDropLink (s : State) (f : Face) (drop : Nat) (g : UnitLink → UnitLink) : State :=
  s.modDoors f fun ds => ds.map fun d => if d.drop = drop then d.modLink g else d

/-- A turn begun: its drop frame sent, its answer window opened to 800 µs after the frame's end (R81, R85 to R89, R97). -/
def beginTurn (s : State) (f : Face) (kind : TurnKind) (drop : Nat) : State :=
  let payload := ((s.face f).line.tunnel.map fun t => t.payload).getD []
  let link := ((s.findDrop f drop).map fun d => d.link).getD Door.newLink
  let carried := link.carries kind payload
  (s.modDropLink f drop fun l => l.begun kind).modLine f fun l =>
    { l with
      turn := some { drop := drop, kind := kind, carried := carried,
                     windowEnd := s.now + dropFrameTime drop carried + answerWindow, orphan := false }
      rotation := if kind = .poll then some drop else l.rotation
      tunnel := if kind = .tunnel then l.tunnel.map fun t => { t with sent := true } else l.tunnel }

/-- The turn ended: on a configured face the arbiter's next turn begins at once, on an unconfigured one the line becomes IDLE
(R81, R84, R102). -/
def nextTurn (s : State) (f : Face) : State :=
  let s := s.modLine f fun l => { l with turn := none }
  if s.configured f then
    match chooseTurn (s.face f).doors (s.face f).line with
    | some (kind, drop) => s.beginTurn f kind drop
    | none => s
  else s.modLine f fun l => { l with running := false }

/-- The line of a face that has become configured starts: RUNNING, no rotation position, no exchange, its first turn at once,
or after the turn that its line still finishes (R81, R100, notes/assumptions/24.md). -/
def startLine (s : State) (f : Face) : State :=
  let s := s.modLine f fun l => { l with running := true, rotation := none, tunnel := none }
  if (s.face f).line.turn.isSome then s else s.nextTurn f

/-- An exchange ended with a reply, the tunnel record absent (R98, R99, R102). -/
def endTunnel (s : State) (f : Face) (result : Result) (data : List Byte) : State :=
  match (s.face f).line.tunnel with
  | none => s
  | some t => (s.modLine f fun l => { l with tunnel := none }).reply kindTunnel t.tag result data

/-- The Door Line Controller follows an adoption: turns and exchanges to drop addresses that have left the table, the start or
stop of the line (R81, R102). -/
def followLine (s : State) (f : Face) (was : Bool) : State :=
  let drops := (s.face f).doors.map fun d => d.drop
  let s := s.modLine f fun l =>
    { l with turn := l.turn.map fun t => if drops.contains t.drop then t else { t with orphan := true } }
  if s.configured f then
    if was then
      match (s.face f).line.tunnel with
      | some t => if drops.contains t.drop then s else s.endTunnel f (.refused .notNow) []
      | none => s
    else s.startLine f
  else
    let s := s.endTunnel f (.refused .notConfigured) []
    if (s.face f).line.turn.isSome then s else s.modLine f fun l => { l with running := false }

/-- A send answered without its echo accounted for; an exhausted command leaves its slot and its door goes to STALLED (R70,
R92). -/
def accountSend (s : State) (f : Face) (d : Door) : State :=
  let s1 := s.modDropLink f d.drop fun l => l.spend.1
  if d.link.spend.2 then s1.applyDoor f d.number fun _ d => d.exhausted else s1

/-- A bad frame of the unit a turn was sent to (R93, R94, R98). -/
def badFrame (s : State) (f : Face) (t : Turn) : State :=
  let s := if t.kind = .tunnel ∧ ¬t.orphan then
      s.modLine f fun l => { l with tunnel := l.tunnel.map fun x => { x with sent := false } } else s
  match if t.orphan then none else s.findDrop f t.drop with
  | none => s
  | some d =>
    let limit := ((s.params? f).map fun q => q.badFrameLimit).getD 0
    let count := if d.link.badCount < limit then d.link.badCount + 1 else d.link.badCount
    let loses := !d.link.lost && limit ≤ count
    let s := s.modDropLink f t.drop fun l =>
      { l with badFrames := s.bump l.badFrames, badCount := count, lost := l.lost || loses }
    if loses then s.applyDoor f d.number fun _ d => d.loseContact
    else if d.link.wasSent t.carried then s.accountSend f d
    else s

end State

end Sys2Proof.Machine
end

