-- ==== Sys2Proof/Machine/Adoption.lean ====
section
/-! DEFINITION. Adoption of a staged bank by a face, and what may bring it: a berth's entry to VACANT and a release state's
entry to NORMAL (R79, R102, R137, R146, R165, R177 to R179). -/

namespace Sys2Proof.Machine

/-- The door records of a face after an adoption: each entry of the new table takes over the old record of its drop address,
or gets a new one (R79, R102). -/
def rebuildDoors (old : List Door) (entries : List (Nat × DoorEntry)) : List Door :=
  entries.map fun p =>
    match old.find? fun d => d.drop = p.2.drop with
    | some d => { d with number := p.1, recycleCount := 0 }
    | none => Door.build p.1 p.2.drop

namespace State

/-- The entries of the Platform Door Table of a face's active bank; none for an unconfigured face (R47, R79). -/
def faceEntries (s : State) (f : Face) : List (Nat × DoorEntry) :=
  match s.tables? f, s.params? f with
  | some t, some _ => tableDoors t f
  | _, _ => []

/-- The second adoption: the staged bank becomes ACTIVE, the other bank COPYING, and its copy begins (R178, R179). -/
def beginCopy (s : State) (b : BankId) : State :=
  s.modTbs fun t =>
    { (t.setBank b { t.bank b with state := .active }).setBank b.other { t.bank b.other with state := .copying } with
      staged := none, copy := some { written := b.other, source := b, beganAt := s.ms } }

/-- An adoption handed on in the order of R178: DSQ, DLC, GAP, PRU, RLS. Obstruction reports on their way to the Door Sequencer stay
on their way, and reach whichever door then bears their number (R79, R115, notes/assumptions/42.md). -/
def handOnAdoption (s : State) (f : Face) (was : Bool) : State :=
  let s := (s.modDoors f fun ds => rebuildDoors ds (s.faceEntries f)).doorsHandOn f
  let s := s.followLine f was
  let s := s.modGap fun g => { g with adopted := g.adopted.set f true }
  let s := (s.formSets f).decide f
  s.testEvacuation f

/-- A face adopts the staged bank (R178). -/
def adopt (s : State) (f : Face) (b : BankId) : State :=
  let was := s.configured f
  let s := s.modTbs fun t => { t with active := t.active.set f (some b) }
  let s := (s.handOnAdoption f was).raiseFace f .bankAdopted
  if s.tbs.active.get f.partner = some b then s.beginCopy b else s

/-- The test for adoption: a bank is staged that the face has not adopted, its berth is VACANT, its release state NORMAL
(R177). -/
def testAdoption (s : State) (f : Face) : State :=
  match s.tbs.staged with
  | none => s
  | some b =>
    if s.tbs.active.get f ≠ some b ∧ (s.face f).berth.state = .vacant ∧ (s.face f).release.state = .normal then s.adopt f b
    else s

/-- The release state returns to NORMAL and RESTORED is raised; NORMAL is handed on, to the Table Store too (R133, R145,
R146). -/
def becomeNormal (s : State) (f : Face) : State := ((s.setRelease f .normal).raiseFace f .restored).testAdoption f

/-- A restore completes when, in RESTORING, a report that clears a mark leaves the release set empty (R146). -/
def testRestore (s : State) (f : Face) : State :=
  if (s.face f).release.state = .restoring ∧ (s.face f).release.set = [] then s.becomeNormal f else s

/-- One event of one door that may clear marks, with the test of R146 after a report that cleared one. -/
def applyDoorRestore (s : State) (f : Face) (n : Nat) (g : DoorContext → Door → DoorOutcome) : State :=
  match s.findDoor f n with
  | none => s
  | some d =>
    let s1 := s.applyDoor f n g
    if (g (s.doorContext f n) d).reports.any DoorReport.clears then s1.testRestore f else s1

/-- The berth record of a face that has become VACANT: what outlives a train is kept (R6, R14, R22, R24). -/
def vacated (b : Berth) : Berth :=
  { b with state := .vacant, train := none, stop := none, stopError := none, enable := [], pairing := [],
           dwellStart := none, supervision := none }

/-- A berth becomes VACANT: its record emptied, POSITION_STALE and NO_PROFILE ceased, the emptied enable set handed on (R8,
R14, R22, R44, R52). -/
def vacate (s : State) (f : Face) : State :=
  let s := s.modBerth f vacated
  let s := (s.setCondition f .positionStale false).setCondition f .noProfile false
  (s.followEnable f).dropOpens f

/-- A berth becomes VACANT by CLEARED or by the lapse of supervision, and the Table Store tests for adoption (R14, R22, R25,
R177). -/
def becomeVacant (s : State) (f : Face) : State := (s.vacate f).testAdoption f

/-! ### The end of a turn (R88) -/

/-- A tunnel exchange whose turn was answered by a good frame ends with DONE and the unit's reply (R98). -/
def tunnelAnswered (s : State) (f : Face) (t : Turn) (tunnelReply : Option (List Byte)) : State :=
  if t.kind = .tunnel ∧ ((s.face f).line.tunnel.map fun x => x.sent) = some true then
    s.endTunnel f .done (u8 (tunnelReply.getD []).length ++ tunnelReply.getD [])
  else s

/-- A good frame taken in the steps of R88. Where its status completes a restore and so brings an adoption that ends the turn's own
tunnel exchange, the adoption ends it with NOT_NOW before step 7 would with DONE (R88, R102, R178, notes/assumptions/46.md). -/
def goodFrame (s : State) (f : Face) (t : Turn) (st : Status) (tunnelReply : Option (List Byte)) : State :=
  match if t.orphan then none else s.findDrop f t.drop with
  | none => s
  | some d =>
    let s := s.modDropLink f t.drop fun l => l.good st.echo
    let d1 := d.modLink fun l => l.good st.echo
    let unconfirmed := match t.carried with
      | .command _ n => d1.link.wasSent t.carried && st.echo ≠ n
      | _ => false
    let s := if unconfirmed then s.accountSend f d1 else s
    let s := s.applyDoorRestore f d.number fun ctx d' => d'.takeStatus ctx st d.link.lost
    s.tunnelAnswered f t tunnelReply

/-- The bytes of an answer taken: those that begin while the drop frame is still being sent are discarded, whether all of a frame or a
part of it; bytes that end after the window, and an incomplete frame within it, change nothing; a complete frame within the window ends
the turn (R81, R87, R88, R93, R101). -/
def takeAnswer (s : State) (f : Face) (bytes : List Byte) (parityOk : Bool) : State :=
  match (s.face f).line.turn with
  | none => s
  | some t =>
    if t.windowEnd < s.now then s
    else
      match judgeAnswer t.drop (inWindow t.windowEnd s.now bytes) parityOk with
      | .incomplete => s
      | .bad => (s.badFrame f t).nextTurn f
      | .good st r => (s.goodFrame f t st r).nextTurn f

/-- The answer window expires without a complete answer (R81, R87). -/
def windowExpiry (s : State) (f : Face) : State :=
  match (s.face f).line.turn with
  | none => s
  | some t => if t.windowEnd ≤ s.now then (s.badFrame f t).nextTurn f else s

end State

end Sys2Proof.Machine
end

