-- ==== Sys2Proof/Machine/Alignment.lean ====
section
/-! DEFINITION. The Alignment Engine: requests, inputs, the computation, its result (Chapter 2). -/

namespace Sys2Proof.Machine

/-! ## The computation (R33 to R43) -/

/-- A train door placed along the face: unit, profile door, centre and half-width (R36). -/
structure PlacedDoor where
  unitNo : Nat
  door : Nat
  centre : Int
  halfWidth : Nat
  deriving DecidableEq, Repr

/-- The within-unit distance of a door (R35). -/
def withinUnit (o : Orientation) (p : Profile) (d : ProfileDoor) : Int :=
  match o with
  | .end1Leading => d.offset
  | .end2Leading => (p.length : Int) - d.offset

/-- The centre of a train door at a distance behind the stop position (R36). -/
def centreAt (stop : Nat) (dir : Direction) (behind : Int) : Int :=
  match dir with
  | .up => (stop : Int) - behind
  | .down => (stop : Int) + behind

/-- The doors of one unit, in door order (R35, R36). -/
def placeUnit (stop : Nat) (dir : Direction) (unitNo : Nat) (lead : Nat) (o : Orientation) (p : Profile) : List PlacedDoor :=
  (p.doors.zipIdx 1).map fun x =>
    { unitNo := unitNo, door := x.2, centre := centreAt stop dir ((lead : Int) + withinUnit o p x.1), halfWidth := x.1.halfWidth }

/-- The doors of the units from a unit on, with the unit's number and lead distance (R34 to R36). -/
def placeUnits (stop : Nat) (dir : Direction) : Nat → Nat → List (Orientation × Profile) → List PlacedDoor
  | _, _, [] => []
  | n, lead, (o, p) :: rest =>
    placeUnit stop dir n lead o p ++ placeUnits stop dir (n + 1) (lead + p.length + p.coupling) rest

/-- The overlap of a platform door and a train door (R37). -/
def overlap (e : DoorEntry) (t : PlacedDoor) : Nat :=
  (min ((e.centre : Int) + e.halfWidth) (t.centre + t.halfWidth) - max ((e.centre : Int) - e.halfWidth) (t.centre - t.halfWidth)).toNat

/-- The best train door of a platform door among train doors in unit and door order: the greatest overlap, the first of equals
(R38). -/
def bestDoor (e : DoorEntry) : List PlacedDoor → Option PlacedDoor
  | [] => none
  | t :: rest =>
    match bestDoor e rest with
    | none => some t
    | some b => if overlap e t < overlap e b then some b else some t

/-- The pairing entry of a platform door where it is enabled (R39, R40). -/
def pairDoor (placed : List PlacedDoor) (n : Nat) (e : DoorEntry) : Option Pairing :=
  match bestDoor e placed with
  | none => none
  | some t => if e.minClear ≤ overlap e t then some { door := n, unitNo := t.unitNo, trainDoor := t.door, overlap := overlap e t } else none

/-- The result of a computation without its face and ticket (R43). -/
structure AlignResult where
  enable : List Nat
  pairing : List Pairing
  noProfile : Bool
  misaligned : Bool
  partialAlign : Bool
  deriving DecidableEq, Repr

/-- The profiles of all units; none if a unit has none (R33). -/
def allProfiles : List (Orientation × Option Profile) → Option (List (Orientation × Profile))
  | [] => some []
  | (o, p) :: rest =>
    match p, allProfiles rest with
    | some q, some l => some ((o, q) :: l)
    | _, _ => none

/-- Whether a placed train door with its centre within the extent is named by no pairing entry (R41). -/
def unpaired (i : AlignInput) (pairing : List Pairing) (t : PlacedDoor) : Bool :=
  (i.extentLow : Int) ≤ t.centre && t.centre ≤ (i.extentHigh : Int) &&
    !(pairing.any fun p => p.unitNo = t.unitNo && p.trainDoor = t.door)

/-- The computation (R33 to R43). -/
def align (i : AlignInput) : AlignResult :=
  match allProfiles i.units with
  | none => { enable := [], pairing := [], noProfile := true, misaligned := false, partialAlign := false }
  | some units =>
    let placed := placeUnits i.stop i.direction 1 0 units
    let pairing := i.doors.filterMap fun p => pairDoor placed p.1 p.2
    { enable := pairing.map fun p => p.door, pairing := pairing, noProfile := false, misaligned := pairing.isEmpty
      partialAlign := !pairing.isEmpty && placed.any fun t => unpaired i pairing t }

/-! ## The engine (R27 to R30) -/

namespace State

/-- The inputs of a face as they stand (R32). -/
def alignInput (s : State) (f : Face) : AlignInput :=
  let b := (s.face f).berth
  { stop := b.stop.getD 0
    direction := (b.train.map fun t => t.direction).getD .up
    units := ((b.train.map fun t => t.units).getD []).map fun u =>
      (u.orientation, (s.tables? f).bind fun t => u.profile.bind fun i => (t.profiles[i]?).getD none)
    doors := s.faceEntries f
    extentLow := ((s.params? f).map fun p => p.extentLow).getD 0
    extentHigh := ((s.params? f).map fun p => p.extentHigh).getD 0 }

/-- A request taken: the engine computes with the inputs read at that moment (R29, R32). -/
def takeAlignment (s : State) (f : Face) (ticket : BitVec 8) : State :=
  s.modAln fun e =>
    { e with waiting := e.waiting.set f none, inflight := some { face := f, ticket := ticket, input := s.alignInput f } }

/-- A request from a berth: taken at once by an IDLE engine, placed in its face's waiting slot otherwise, where one it displaces
counts as withdrawn (R27). -/
def requestAlignment (s : State) (f : Face) (ticket : BitVec 8) : State :=
  match s.aln.inflight with
  | none =>
    s.modAln fun e => { e with inflight := some { face := f, ticket := ticket, input := s.alignInput f } }
  | some _ =>
    s.modAln fun e =>
      { e with
        waiting := e.waiting.set f (some { ticket := ticket, placedAt := s.ms })
        withdrawn := if (e.waiting.get f).isSome then e.withdrawn.modify f s.bump else e.withdrawn }

/-- A withdrawal: the face's waiting request is removed and counted; a computation in flight runs on (R28). -/
def withdrawAlignment (s : State) (f : Face) : State :=
  if (s.aln.waiting.get f).isSome then
    s.modAln fun e => { e with waiting := e.waiting.set f none, withdrawn := e.withdrawn.modify f s.bump }
  else s

/-- The face whose waiting request is taken next: the one placed earlier, face A's where both were placed in the same
millisecond (R29). -/
def nextWaiting (e : Engine) : Option (Face × BitVec 8) :=
  match e.waiting.a, e.waiting.b with
  | none, none => none
  | some a, none => some (.A, a.ticket)
  | none, some b => some (.B, b.ticket)
  | some a, some b => if b.placedAt < a.placedAt then some (.B, b.ticket) else some (.A, a.ticket)

/-- A result accepted by an ALIGNING berth whose ticket it carries: the set and pairing are written, the findings raised, and
STOPPED handed on, to the Release Supervisor too (R8, R19, R44, R52, R140). -/
def acceptAlignment (s : State) (f : Face) (r : AlignResult) : State :=
  let s := s.modBerth f fun b =>
    { b with state := .stopped, enable := r.enable, pairing := r.pairing
             train := b.train.map fun t => { t with gapMark := t.gapMark || r.noProfile } }
  let s := if r.misaligned then s.raiseFace f .misaligned else s
  let s := if r.partialAlign then s.raiseFace f .partialAlign else s
  let s := if r.noProfile then s.activate f .noProfile .noProfile else s
  let s := (s.followEnable f).dropOpens f
  if (s.face f).release.state = .evacuating then s.evacuationOpening f else s

/-- A result delivered to its berth, which accepts it or discards it (R19, R30). -/
def deliverAlignment (s : State) (i : InFlight) : State :=
  if (s.face i.face).berth.state = .aligning ∧ (s.face i.face).berth.ticket = i.ticket then
    s.acceptAlignment i.face (align i.input)
  else s

/-- A computation completes: its result is delivered, counted, and the next waiting request taken (R29, R30, R46). -/
def completeAlignment (s : State) : State :=
  match s.aln.inflight with
  | none => s
  | some i =>
    let s := s.deliverAlignment i
    let s := s.modAln fun e => { e with inflight := none, computations := e.computations.modify i.face s.bump }
    match nextWaiting s.aln with
    | none => s
    | some (f, ticket) => s.takeAlignment f ticket

end State

end Sys2Proof.Machine
end

