-- ==== Sys2Proof/Machine/Berth.lean ====
section
/-! DEFINITION. The Berth Tracker: train telegrams, samples, standstill, movement, supervision (Chapter 1). -/

namespace Sys2Proof.Machine

/-- Whether a match entry matches a unit (R12). -/
def MatchEntry.hits (m : MatchEntry) (ident : Word32) : Bool := m.valid && (ident &&& m.mask) == (m.key &&& m.mask)

/-- The profile index of a unit: that of the lowest matching entry, absent where no entry matches or the profile is absent
(R12). -/
def matchProfile (t : Tables) (ident : Word32) : Option Nat :=
  match t.consist.toList.find? fun m => m.hits ident with
  | none => none
  | some m => if ((t.profiles[m.profile]?).getD none).isSome then some m.profile else none

/-- The ring entry of an accepted sample: clamped to the extent, the speed saturated (R16). -/
def clampSample (p : FaceParams) (position speed : Nat) : Sample :=
  { position := if position < p.extentLow then p.extentLow else if p.extentHigh < position then p.extentHigh else position
    speed := if 30000 < speed then 30000 else speed
    clamped := decide (position < p.extentLow ∨ p.extentHigh < position) }

/-- An entry joins the ring of 4 at its newest end; the oldest leaves a full one (R17). -/
def joinRing (ring : List Sample) (x : Sample) : List Sample :=
  if ring.length < 4 then ring ++ [x] else ring.tail ++ [x]

/-- The largest position of a ring. -/
def ringMax (ring : List Sample) : Nat := ring.foldl (fun m x => max m x.position) 0

/-- The smallest position of a ring. -/
def ringMin (ring : List Sample) : Nat :=
  match ring with
  | [] => 0
  | x :: rest => rest.foldl (fun m y => min m y.position) x.position

/-- The standstill test (R18). -/
def standstill (creep : Nat) (ring : List Sample) : Bool :=
  ring.length = 4 && ring.all (fun x => !x.clamped && x.speed = 0) && ringMax ring - ringMin ring ≤ creep

/-- The stop position of a standstill: the mean of the four positions, rounded half up (R18). -/
def stopOf (ring : List Sample) : Nat := ((ring.map fun x => x.position).sum + 2) / 4

/-- Whether an entry shows movement against a stop position (R20). -/
def moved (creep : Nat) (stop : Option Nat) (x : Sample) : Bool :=
  x.speed ≠ 0 || match stop with
    | none => false
    | some p => creep < p - x.position || creep < x.position - p

namespace State

/-- A refused TRAIN telegram: counted, its kind and reason kept, nothing else changed (R6, R10). -/
def refuseTelegram (s : State) (f : Face) (k : TelegramKind) (r : Reason) : State :=
  s.modBerth f fun b => { b with lastRefusal := some (k, r), telegramsRefused := s.bump b.telegramsRefused }

/-- The supervision timer started for one supervision interval (R22). -/
def startSupervision (s : State) (f : Face) : State :=
  match s.params? f with
  | none => s
  | some p => s.modBerth f fun b => { b with supervision := some (s.ms + p.supervision) }

/-- An ARRIVAL accepted (R11, R12). -/
def acceptArrival (s : State) (f : Face) (t : Tables) (dir : Direction) (units : List (Word32 × Orientation)) : State :=
  (s.modBerth f fun b =>
    { b with
      state := .approaching, stop := none, stopError := none, enable := [], pairing := []
      train := some { direction := dir, ring := [], gapMark := false
                      units := units.map fun u => { ident := u.1, orientation := u.2, profile := matchProfile t u.1 } } }
  ).startSupervision f

/-- ARRIVAL (R11). -/
def takeArrival (s : State) (f : Face) (body : List Byte) : State :=
  match s.params? f, s.tables? f with
  | some _, some t =>
    if (s.face f).berth.state ≠ .vacant then s.refuseTelegram f .arrival .berthOccupied
    else
      match parseArrival body with
      | none => s.refuseTelegram f .arrival .badArgument
      | some (dir, units) => s.acceptArrival f t dir units
  | _, _ => s.refuseTelegram f .arrival .notConfigured

/-- The doors that DEPARTURE finds in a state other than CLOSED and ISOLATED (R13). -/
def openDoorsFound (s : State) (f : Face) : Bool :=
  (s.face f).doors.any fun d => d.state ≠ .closed && d.state ≠ .isolated

/-- The berth becomes DEPARTING: enable set emptied, POSITION_STALE ceased, departure supervision started, DEPARTING handed on
(R8, R13, R21, R22, R28, R52, R129). The OPENs of doors no longer enabled leave their slots at the end of the step (R52). -/
def becomeDeparting (s : State) (f : Face) : State :=
  let old := (s.face f).berth.state
  let s := (s.modBerth f fun b => { b with state := .departing, enable := [], pairing := [], dwellStart := none }).startSupervision f
  let s := s.setCondition f .positionStale false
  let s := (s.followEnable f).cancelDeferral f
  let s := if old = .dwelling then s.partnerExits f.partner else s
  if old = .aligning then s.withdrawAlignment f else s

/-- A DEPARTURE accepted (R13). -/
def acceptDeparture (s : State) (f : Face) : State :=
  let unproven := !(s.face f).proof.held && s.openDoorsFound f
  let s := s.becomeDeparting f
  let s := if unproven then s.raiseFace f .departureUnproven else s
  (s.departureClose f).dropOpens f

/-- DEPARTURE (R13). -/
def takeDeparture (s : State) (f : Face) (body : List Byte) : State :=
  if s.configured f then
    if (s.face f).berth.state = .vacant ∨ (s.face f).berth.state = .departing then s.refuseTelegram f .departure .badState
    else if body ≠ [] then s.refuseTelegram f .departure .badArgument
    else s.acceptDeparture f
  else s.refuseTelegram f .departure .notConfigured

/-- CLEARED (R14). -/
def takeCleared (s : State) (f : Face) (body : List Byte) : State :=
  if s.configured f then
    if (s.face f).berth.state ≠ .departing then s.refuseTelegram f .cleared .badState
    else if body ≠ [] then s.refuseTelegram f .cleared .badArgument
    else s.becomeVacant f
  else s.refuseTelegram f .cleared .notConfigured

/-- An accepted sample's entry joins the ring; the clamp is counted (R15 to R17). -/
def joinSample (s : State) (f : Face) (x : Sample) : State :=
  s.modBerth f fun b =>
    { b with lastSample := some s.ms
             clampedSamples := if x.clamped then s.bump b.clampedSamples else b.clampedSamples
             train := b.train.map fun t => { t with ring := joinRing t.ring x } }

/-- What every accepted sample does after the tests of its berth state: POSITION_STALE ceases and the supervision timer
restarts (R15, R22). -/
def refreshSupervision (s : State) (f : Face) : State := (s.startSupervision f).setCondition f .positionStale false

/-- Standstill detected: stop position fixed, ALIGNING, a request under the next ticket (R18). -/
def detectStandstill (s : State) (f : Face) (p : FaceParams) (ring : List Sample) : State :=
  let ticket := (s.face f).berth.ticket + 1
  (s.modBerth f fun b =>
    { b with state := .aligning, stop := some (stopOf ring), stopError := some ((stopOf ring : Int) - p.target),
             ticket := ticket }).requestAlignment f ticket

/-- Movement in ALIGNING or STOPPED: back to APPROACHING with the moving sample alone in the ring (R20). -/
def returnToApproaching (s : State) (f : Face) (x : Sample) : State :=
  let old := (s.face f).berth.state
  let s := s.modBerth f fun b =>
    { b with state := .approaching, stop := none, stopError := none, enable := [], pairing := []
             train := b.train.map fun t => { t with ring := [x], gapMark := false } }
  let s := s.setCondition f .noProfile false
  let s := (s.followEnable f).dropOpens f
  if old = .aligning then s.withdrawAlignment f else s

/-- Movement in DWELLING: DEPARTING, and without proof MOVEMENT_UNPROVEN and the movement close (R21). -/
def moveFromDwelling (s : State) (f : Face) : State :=
  let held := (s.face f).proof.held
  let s := s.becomeDeparting f
  let s := if held then s else (s.raiseFace f .movementUnproven).movementClose f
  s.dropOpens f

/-- An accepted sample put to the tests of its berth state (R15, R18, R20, R21). -/
def testSample (s : State) (f : Face) (p : FaceParams) (x : Sample) : State :=
  let b := (s.face f).berth
  let ring := (b.train.map fun t => t.ring).getD []
  match b.state with
  | .approaching => if standstill p.creep ring then s.detectStandstill f p ring else s
  | .aligning => if moved p.creep b.stop x then s.returnToApproaching f x else s
  | .stopped => if moved p.creep b.stop x then s.returnToApproaching f x else s
  | .dwelling => if moved p.creep b.stop x then s.moveFromDwelling f else s
  | .departing => s
  | .vacant => s

/-- Whether a sample is policed: less than 40 ms after the last accepted one (R15). -/
def policedNow (s : State) (f : Face) : Bool :=
  match (s.face f).berth.lastSample with
  | none => false
  | some t => s.ms - t < 40

/-- POSITION (R15). -/
def takePosition (s : State) (f : Face) (body : List Byte) : State :=
  match s.params? f with
  | none => s.refuseTelegram f .position .notConfigured
  | some p =>
    if (s.face f).berth.state = .vacant then s.refuseTelegram f .position .badState
    else
      match parsePosition body with
      | none => s.refuseTelegram f .position .badArgument
      | some (position, speed) =>
        if s.policedNow f then s.modBerth f fun b => { b with policed := s.bump b.policed }
        else
          let x := clampSample p position speed
          ((s.joinSample f x).testSample f p x).refreshSupervision f

/-- The supervision timer expires (R22). -/
def supervisionLapse (s : State) (f : Face) : State :=
  if s.due (s.face f).berth.supervision then
    let s := s.modBerth f fun b => { b with supervision := none }
    match (s.face f).berth.state with
    | .departing => s.becomeVacant f
    | .vacant => s
    | .approaching => s.activate f .positionStale .positionStale
    | .aligning => s.activate f .positionStale .positionStale
    | .stopped => s.activate f .positionStale .positionStale
    | .dwelling => s.activate f .positionStale .positionStale
  else s

end State

end Sys2Proof.Machine
end

