-- ==== Sys2Proof/Machine/Link.lean ====
section
/-! DEFINITION. The Link Interface: the uplink's health, the intake queue, the transmit arbiter and the outbound payloads, the
device record and the event flags as requests reach them, and the form of every step (Chapter 10, R196, R197). -/

namespace Sys2Proof.Machine

/-! ## Outbound payloads (R196) -/

/-- The code of a berth state: 0 VACANT to 5 DEPARTING (R196). -/
def BerthState.code : BerthState → Nat
  | .vacant => 0
  | .approaching => 1
  | .aligning => 2
  | .stopped => 3
  | .dwelling => 4
  | .departing => 5

/-- The code of a release state (R196). -/
def ReleaseState.code : ReleaseState → Nat
  | .normal => 0
  | .released => 1
  | .evacuating => 2
  | .restoring => 3

/-- The blockers set as a byte: bit 0 UNCONFIGURED to bit 4 FORCING (R196). -/
def Blockers.code (b : Blockers) : Nat :=
  b.unconfigured.toNat + 2 * b.doors.toNat + 4 * b.zones.toNat + 8 * b.release.toNat + 16 * b.forcing.toNat

/-- The result byte and the reason byte of a REPLY (R196). -/
def Result.bytes : Result → List Byte
  | .done => [0, 0]
  | .deferred => [1, 0]
  | .refused r => 2 :: u8 r.code

/-- The payload of a PROOF frame (R161, R196). -/
def proofPayload (p : ProofTelegram) : List Byte :=
  u8 (match p.kind with | .changed => 0 | .periodic => 1) ++ flag p.held ++ u8 p.blockers.code ++ u8 p.berth.code ++
    u8 p.enableSize ++ u8 p.release.code ++ [p.releaseSeq] ++ flag p.stopError.isSome ++ i32 (p.stopError.getD 0)

/-- The face code of a notice's scope: none for the device (R190, R196). -/
def Scope.faceCode : Scope → Byte
  | .device => 0
  | .face f => f.code

/-- The PROOF frame of a proof telegram; its tag is 0 (R161, R181). -/
def proofFrame (p : ProofTelegram) : OutFrame := { cls := 0x83, face := p.face.code, tag := 0, payload := proofPayload p }

/-- The NOTICE frame of a scope; its tag is 0 (R181, R190, R196). -/
def noticeFrame (c : Scope) (kinds : List EventKind) : OutFrame :=
  { cls := 0x82, face := c.faceCode, tag := 0, payload := counted (fun k => u8 k.code) kinds }

/-- The number of data bytes that one REPLY frame holds (R197). -/
def partSize : Nat := 243

/-- The data of one part of a reply (R197). -/
def Reply.partData (r : Reply) (part : Nat) : List Byte := (r.data.drop (partSize * part)).take partSize

/-- Whether a part is the last of its reply (R197). -/
def Reply.isLast (r : Reply) (part : Nat) : Bool := r.data.length ≤ partSize * (part + 1)

namespace State

/-- The status summary's byte of a face: proof in bit 7, berth state in bits 6 to 4, release state in bits 3 to 2, withhold set
non-empty in bit 1 (R185, R196). -/
def summaryFace (s : State) (f : Face) : List Byte :=
  u8 (128 * (s.face f).proof.held.toNat + 16 * (s.face f).berth.state.code + 4 * (s.face f).release.state.code +
    2 * (s.face f).proof.withhold.nonempty.toNat)

/-- The status summary's byte of the device: any flag in bit 0, the after-reset mark in bit 1 (R185, R196). -/
def summaryDevice (s : State) : List Byte :=
  u8 ((!(s.lif.flags.device ++ s.lif.flags.a ++ s.lif.flags.b).isEmpty).toNat + 2 * s.lif.afterReset.toNat)

/-- The REPLY frame of the part of a reply that is sent next, its status summary filled in now; its face field is 0, none (R181, R185,
R196, R197, notes/assumptions/47.md). -/
def replyFrame (s : State) (r : Reply) : OutFrame :=
  { cls := 0x81, face := 0, tag := r.tag
    payload := [r.kind] ++ r.result.bytes ++ s.summaryFace .A ++ s.summaryFace .B ++ s.summaryDevice ++
      u8 (r.nextPart % 128 + 128 * (r.isLast r.nextPart).toNat) ++ r.partData r.nextPart }

/-! ## The transmit arbiter (R191) -/

/-- The scope that follows in the rotation device, face A, face B (R191). -/
def nextScope : Scope → Scope
  | .device => .face .A
  | .face .A => .face .B
  | .face .B => .device

/-- The scope whose pending notice is sent next: the first in the rotation after the scope of the last (R191). -/
def noticeScope (l : LinkInterface) : Option Scope :=
  [nextScope l.lastNotice, nextScope (nextScope l.lastNotice), l.lastNotice].find? fun c => (l.notices.get c).isSome

/-- The face whose pending periodic telegram is sent next: the one formed earlier; a free value where both were formed together
(R191, notes/assumptions/11.md). -/
def periodicFace (s : State) : Option Face :=
  match (s.face .A).proof.pending, (s.face .B).proof.pending with
  | none, none => none
  | some _, none => some .A
  | none, some _ => some .B
  | some a, some b =>
    if a.formedAt < b.formedAt then some .A
    else if b.formedAt < a.formedAt then some .B
    else if Config.periodicTie s.freeCount then some .A else some .B

/-- A frame begun (R191). -/
def beginSending (s : State) (item : SendItem) (frame : OutFrame) : State :=
  s.modLif fun l => { l with sending := some { item := item, frame := frame } }

/-- A pending notice begun: its record becomes absent (R190, R191). -/
def sendNotice (s : State) (c : Scope) : State :=
  (s.modLif fun l => { l with notices := l.notices.set c none, lastNotice := c }).beginSending .notice
    (noticeFrame c ((s.lif.notices.get c).getD []))

/-- A pending periodic telegram begun: the pending telegram becomes absent (R162, R191). -/
def sendPeriodic (s : State) (f : Face) : State :=
  match (s.face f).proof.pending with
  | none => s
  | some p =>
    ({ s with freeCount := s.freeCount + 1 }.modProof f fun x => { x with pending := none }).beginSending .periodic
      (proofFrame p)

/-- The next frame chosen and begun where the link is idle: changed-proof telegrams, replies, notices, periodic telegrams (R191).
The first reply part sent after a reset carries the after-reset mark and clears the pending mark (R185, R197). -/
def arbitrate (s : State) : State :=
  if s.lif.sending.isSome then s
  else
    match s.lif.changed, s.lif.replies with
    | p :: rest, _ => (s.modLif fun l => { l with changed := rest }).beginSending .changed (proofFrame p)
    | [], r :: _ =>
      (s.modLif fun l => { l with afterReset := false }).beginSending (.reply (r.isLast r.nextPart)) (s.replyFrame r)
    | [], [] =>
      match noticeScope s.lif with
      | some c => s.sendNotice c
      | none =>
        match s.periodicFace with
        | some f => s.sendPeriodic f
        | none => s

/-- The frame being sent has ended: a reply leaves the list after its last part, and its next part follows otherwise (R191,
R197). -/
def frameEnd (s : State) : State :=
  match s.lif.sending with
  | none => s
  | some x =>
    s.modLif fun l =>
      { l with
        sending := none
        replies := match x.item with
          | .reply true => l.replies.tail
          | .reply false =>
            match l.replies with
            | r :: rest => { r with nextPart := r.nextPart + 1 } :: rest
            | [] => []
          | .changed => l.replies
          | .notice => l.replies
          | .periodic => l.replies
          | .abandoned => l.replies }

/-- The form of a step: the clock comes to the command's time; a running part takes the event, and the transmit arbiter acts
before and after it; a part that is unpowered or held in reset takes nothing (R191, R201, notes/assumptions/6.md,
notes/assumptions/10.md). -/
def event (s : State) (t : Micros) (k : State → State) : State :=
  if (s.advance t).running then (k (s.advance t).arbitrate).arbitrate else s.advance t

/-! ## The uplink's health (R183) -/

/-- UPLINK_DEGRADED becomes active: raised for the device and handed to both Proof Units, face A's first (R183,
notes/assumptions/45.md). -/
def degrade (s : State) : State :=
  if s.lif.degraded then s
  else
    ((((s.modLif fun l => { l with degraded := true }).raiseDevice .uplinkDegraded).setCondition .A .uplinkDegraded true).setCondition
      .B .uplinkDegraded true)

/-- UPLINK_DEGRADED ceases, handed to face A's Proof Unit first (R183, notes/assumptions/45.md). -/
def recover (s : State) : State :=
  (((s.modLif fun l => { l with degraded := false }).setCondition .A .uplinkDegraded false).setCondition .B .uplinkDegraded false)

/-- A damaged inbound frame (R181, R183). -/
def damagedFrame (s : State) : State :=
  let s := s.modLif fun l =>
    { l with uplinkErrors := s.bump l.uplinkErrors, badCount := min 15 (l.badCount + 1), goodStreak := 0 }
  if s.lif.errorLimit ≤ s.lif.badCount then s.degrade else s

/-- An intact inbound frame, before it is delivered (R183). -/
def intactFrame (s : State) : State :=
  let s := s.modLif fun l =>
    { l with badCount := 0, silence := some (s.ms + 2000), goodStreak := min 8 (l.goodStreak + 1) }
  if s.lif.degraded ∧ s.lif.goodStreak = 8 then s.recover else s

/-- The silence timer expires (R183). -/
def silenceLapse (s : State) : State :=
  if s.due s.lif.silence then (s.modLif fun l => { l with silence := none, goodStreak := 0 }).degrade else s

/-! ## The intake queue (R182, R184) -/

/-- A TRAIN frame with face none or an undefined kind is discarded (R182). -/
def discardTrain (s : State) : State := s.modLif fun l => { l with framesDiscarded := s.bump l.framesDiscarded }

/-- A request frame joins the intake queue, or is dropped where 8 are held (R184). -/
def joinIntake (s : State) (r : Request) : State :=
  if s.lif.intake.length < 8 then s.modLif fun l => { l with intake := l.intake ++ [r] }
  else (s.modLif fun l => { l with requestsDropped := s.bump l.requestsDropped }).raiseDevice .intakeOverrun

/-- A request of an undefined class or kind is refused (R182, R196). -/
def refuseUndefined (s : State) (r : Request) : State := s.refuse r .badArgument

/-- A request that names a face goes to its block there; face none is refused with BAD_ARGUMENT (R182). -/
def withFace (s : State) (r : Request) (k : Face → State) : State :=
  match r.face? with
  | none => s.refuse r .badArgument
  | some f => k f

/-- A request that needs its face configured (R53). -/
def withConfigured (s : State) (r : Request) (k : Face → State) : State :=
  s.withFace r fun f => if s.configured f then k f else s.refuse r .notConfigured

/-- A request without fields: a payload with further bytes is refused with BAD_ARGUMENT (R196, notes/assumptions/21.md). -/
def withNoFields (s : State) (r : Request) (k : State) : State := if r.body = [] then k else s.refuse r .badArgument

/-! ## The device record and the event flags (R186, R189) -/

/-- The kinds of a notice record whose notice route is on; a record left empty becomes absent (R186). -/
def pruneNotice (l : LinkInterface) (n : Option (List EventKind)) : Option (List EventKind) :=
  (n.map fun ks => ks.filter fun k => (l.route k).notice).filter fun ks => ks ≠ []

/-- The device record's limit and routes replaced, with what follows in the same step (R183, R186). -/
def installDevice (s : State) (limit : Nat) (routes : Vector Route 23) : State :=
  let s := s.modLif fun l => { l with errorLimit := limit, routes := routes }
  let s := s.modLif fun l =>
    { l with notices := ⟨pruneNotice l l.notices.device, pruneNotice l l.notices.a, pruneNotice l l.notices.b⟩ }
  (if limit ≤ s.lif.badCount then s.degrade else s).refreshAlerts

/-- SET_DEVICE (R186). -/
def takeSetDevice (r : Request) (s : State) : State :=
  match parseDevice r.body with
  | none => s.refuse r .badArgument
  | some (limit, routes) => (s.installDevice limit routes).done r

/-- Whether a flag stays set through READ_EVENTS: its condition is still active (R188, R189). -/
def stillActive (s : State) (c : Scope) (k : EventKind) : Bool :=
  match c, k.condition? with
  | .device, some .uplinkDegraded => s.lif.degraded
  | .face f, some x => (s.face f).proof.active.get x
  | _, _ => false

/-- The flags of a scope cleared but for those of active conditions, and its pending notice withdrawn (R189). -/
def clearFlags (s : State) (c : Scope) : State :=
  (s.modLif fun l =>
    { l with flags := l.flags.set c ((l.flags.get c).filter (s.stillActive c)), notices := l.notices.set c none }).refreshAlerts

/-- READ_EVENTS (R189). -/
def takeReadEvents (r : Request) (s : State) : State :=
  match parseScope r.body with
  | none => s.refuse r .badArgument
  | some c => (s.clearFlags c).answer r .done (counted (fun k => u8 k.code) (s.lif.flags.get c))

end State

end Sys2Proof.Machine
end

