-- ==== Sys2Proof/Machine/Gap.lean ====
section
/-! DEFINITION. The Gap Monitor: scan frames, the cycle end, heads, zones, obstruction reports (Chapter 5). -/

namespace Sys2Proof.Machine

/-- The answer slot in which a moment of the cycle lies: slot s from 2,000 + 1,000 × s µs for 1,000 µs (R105). -/
def slotAt (offset : Micros) : Option Nat := if 2000 ≤ offset ∧ offset < 18000 then some ((offset - 2000) / 1000) else none

/-- A frame gathered in an answer slot; more than one frame spoils the slot (R105). -/
def SlotScan.join (x : SlotScan) (bytes : List Byte) (parityOk : Bool) : SlotScan :=
  match x with
  | .empty => .one bytes parityOk
  | .one _ _ => .many
  | .many => .many

/-- The scan of a head for a cycle: its beam vector where it is good, none where it is missing (R106). -/
def Head.scanned (h : Head) (cycle : BitVec 8) : Option Beams :=
  match h.scan with
  | .one bytes parityOk => judgeScan h.slot cycle bytes parityOk
  | .empty => none
  | .many => none

/-- Whether a zone in force refers to the head (R107). -/
def Head.inUse (h : Head) : Bool := h.serves.a || h.serves.b

/-- A vector joins a scan window of 8 at its newest end (R108). -/
def pushScan (window : List Beams) (v : Beams) : List Beams := if window.length < 8 then window ++ [v] else window.tail ++ [v]

/-- The state of a head after its streaks are updated (R109). -/
def headNext (st : HeadState) (missing good : Nat) : HeadState :=
  match st with
  | .unknown => if good = 8 then .live else .unknown
  | .silent => if good = 8 then .live else .silent
  | .live => if missing = 3 then .silent else .live
  | .unused => .unused

/-- A head takes its scan of the cycle: window, counter, streaks, state; a missing scan is a vector with every beam blocked (R106,
R108, R109, R117). `bump` counts. -/
def Head.take (h : Head) (cycle : BitVec 8) (bump : Counter → Counter) : Head :=
  if h.inUse then
    match h.scanned cycle with
    | some v =>
      { h with window := pushScan h.window v, missingStreak := 0, goodStreak := min 8 (h.goodStreak + 1),
               state := headNext h.state 0 (min 8 (h.goodStreak + 1)), scan := .empty }
    | none =>
      { h with window := pushScan h.window 0xFFFF#16, missingScans := bump h.missingScans, goodStreak := 0,
               missingStreak := min 3 (h.missingStreak + 1), state := headNext h.state (min 3 (h.missingStreak + 1)) 0,
               scan := .empty }
  else { h with scan := .empty }

/-- The blocked count of a beam, numbered from 0, in a window (R108). -/
def blockedCount (window : List Beams) (beam : Nat) : Nat := window.countP fun v => v.getLsbD beam

/-- The metric of a beam set: the largest blocked count among its beams (R112). -/
def metric (beams : Beams) (window : List Beams) : Nat :=
  (List.range 16).foldl (fun m i => if beams.getLsbD i then max m (blockedCount window i) else m) 0

/-- The state of a zone of a LIVE head after its evaluation (R113). -/
def zoneNext (st : ZoneState) (kOn kOff m : Nat) : ZoneState :=
  match st with
  | .unknown => if m ≤ kOff then .clear else .occupied
  | .clear => if kOn ≤ m then .occupied else .clear
  | .occupied => if m ≤ kOff then .clear else .occupied

/-- A zone evaluated with its head (R113, R117). -/
def Zone.evaluate (z : Zone) (head : Option Head) (bump : Counter → Counter) : Zone :=
  match head with
  | none => { z with state := .unknown, metric := none }
  | some h =>
    if h.state = .live then
      let m := Machine.metric z.beams h.window
      let st := zoneNext z.state z.kOn z.kOff m
      { z with state := st, metric := some m,
               entries := if st = .occupied ∧ z.state ≠ .occupied then bump z.entries else z.entries }
    else { z with state := .unknown, metric := none }

/-- The zone record that an entry of a new bank brings into force; a zone id in force before keeps its counter (R120). -/
def rebuildZone (old : List Zone) (id : Nat) (e : ZoneEntry) : Zone :=
  { id := id, door := e.door, head := e.head, beams := e.beams, kOn := e.kOn, kOff := e.kOff, policy := e.policy,
    state := .unknown, metric := none, entries := ((old.find? fun z => z.id = id).map fun z => z.entries).getD 0 }

/-- The zone records of a face from its zone entries (R111, R120). -/
def rebuildZones (t : Tables) (f : Face) (old : List Zone) : List Zone :=
  t.zones.toList.zipIdx.filterMap fun p =>
    match p.1 with
    | some e => if e.face = f then some (rebuildZone old p.2 e) else none
    | none => none

/-- A head's use worked out again from the zones in force (R107, R120). -/
def Head.rebuild (h : Head) (zones : PerFace (List Zone)) : Head :=
  let serves : PerFace Bool := zones.map fun zs => zs.any fun z => z.head = h.slot
  if serves.a || serves.b then
    if h.inUse then { h with serves := serves }
    else { h with serves := serves, state := .unknown, window := [], missingStreak := 0, goodStreak := 0 }
  else { h with serves := serves, state := .unused, window := [], missingStreak := 0, goodStreak := 0 }

/-- The zones of a face that entered OCCUPIED at an evaluation, given the zones before it (R115, R116). -/
def entered (before after : List Zone) : List Zone :=
  after.filter fun z =>
    z.state = .occupied && !(before.any fun y => y.id = z.id && y.state = .occupied)

/-- The obstruction reports of an evaluation: one for each door with RECYCLE-policy zones that entered OCCUPIED (R115). -/
def obstructionReports (zs : List Zone) : List ObstructionReport :=
  ((List.range 33).map fun n =>
    ({ door := n, zones := (zs.filter fun z => z.door = n && z.policy = .recycle).map fun z => z.id } : ObstructionReport)).filter
    fun r => r.zones ≠ []

/-- A head in use at a soft reset (R119); what its slot has gathered is discarded (R104). -/
def Head.softReset (h : Head) : Head :=
  if h.inUse then { h with state := .unknown, window := [], missingStreak := 0, goodStreak := 0, scan := .empty }
  else { h with scan := .empty }

namespace State

/-- A scan frame arrives: it joins the answer slot in which its first byte falls; outside every slot, and in the slot of a head
that no zone in force refers to, it is discarded (R105). -/
def takeScan (s : State) (bytes : List Byte) (parityOk : Bool) : State :=
  match slotAt (s.now - s.gap.cycleStart) with
  | none => s
  | some i =>
    s.modGap fun g =>
      { g with heads := g.heads.map fun h => if h.slot = i ∧ h.inUse then { h with scan := h.scan.join bytes parityOk } else h }

/-- The zones and head use rebuilt where a face has adopted a bank since the last cycle end (R114 step 1, R120). -/
def rebuildGap (s : State) : State :=
  let fresh := fun f => match s.tables? f with
    | some t => if s.configured f then rebuildZones t f (s.gap.zones.get f) else []
    | none => []
  let zones : PerFace (List Zone) :=
    ⟨if s.gap.adopted.a then fresh .A else s.gap.zones.a, if s.gap.adopted.b then fresh .B else s.gap.zones.b⟩
  if s.gap.adopted.a || s.gap.adopted.b then
    s.modGap fun g => { g with zones := zones, adopted := ⟨false, false⟩, heads := g.heads.map fun h => h.rebuild zones }
  else s

/-- The heads take their scans (R114 steps 2 and 3). -/
def takeScans (s : State) : State := s.modGap fun g => { g with heads := g.heads.map fun h => h.take g.cycle s.bump }

/-- Every zone in force evaluated (R114 step 4). -/
def evaluateZones (s : State) : State :=
  s.modGap fun g =>
    { g with zones := g.zones.map fun zs => zs.map fun z => z.evaluate (g.heads.find? fun h => h.slot = z.head) s.bump }

/-- HEAD_SILENT of a face set or ceased by the heads: active, with its flag raised as it becomes so, while one that serves the face is
SILENT (R110). -/
def followHeads (s : State) (f : Face) (heads : List Head) : State :=
  if heads.any fun h => h.serves.get f && h.state = .silent then s.activate f .headSilent .headSilent
  else s.setCondition f .headSilent false

/-- The results of a cycle end handed on for a face: its zones, then what the rebuild made of HEAD_SILENT, given the heads that it left,
then what the streaks made of it. A head that a rebuild gives the face while SILENT, and that is LIVE again by step 3, so raises the flag,
and the Proof Unit is handed the condition's becoming active and its ceasing one after the other (R110, R114 step 6, R156, R157,
notes/assumptions/44.md). -/
def handOnZones (s : State) (f : Face) (rebuilt : List Head) (heldBefore : Bool) (zs : List Zone) : State :=
  let s := ((s.decide f).followHeads f rebuilt).followHeads f s.gap.heads
  let s := if heldBefore ∧ zs ≠ [] then s.raiseFace f .gapAfterClose else s
  s.modReports f fun l => l ++ obstructionReports zs

/-- The next cycle begins: the next cycle number goes out in its sync frame (R104). -/
def nextCycle (s : State) (start : Micros) : State := s.modGap fun g => { g with cycle := g.cycle + 1, cycleStart := start }

/-- The cycle end, in the order of R114. -/
def cycleEnd (s : State) : State :=
  if s.gap.cycleStart + 20000 ≤ s.now then
    let s0 := s.rebuildGap
    let s1 := s0.takeScans
    let s2 := s1.evaluateZones
    let s3 := s2.handOnZones .A s0.gap.heads (s2.face .A).proof.held (entered s1.gap.zones.a s2.gap.zones.a)
    let s4 := s3.handOnZones .B s0.gap.heads (s2.face .B).proof.held (entered s1.gap.zones.b s2.gap.zones.b)
    s4.nextCycle (s.gap.cycleStart + 20000)
  else s

/-- An obstruction report of a door taken: a CLOSING door is obstructed; any other takes none, and the report is not kept (R68,
R115). -/
def takeObstruction (s : State) (f : Face) (n : Nat) : State :=
  if (s.face f).reports.any fun r => r.door = n then
    (s.modReports f fun l => l.eraseP fun r => r.door = n).applyDoor f n fun ctx d =>
      if d.state = .closing then d.obstruct ctx else Door.plain d
  else s

/-- The Gap Monitor at a soft reset: heads in use and zones UNKNOWN, a new cycle at once (R104, R119). -/
def gapSoftReset (s : State) : State :=
  (s.modGap fun g =>
    { g with
      heads := g.heads.map Head.softReset
      zones := g.zones.map fun zs => zs.map fun z => { z with state := .unknown, metric := none } }).nextCycle s.now

end State

end Sys2Proof.Machine
end

