-- ==== Sys2Proof/Machine/Banks.lean ====
section
/-! DEFINITION. The Table Store: writing and reading entries, activation, validation, the copy (Chapter 9). -/

namespace Sys2Proof.Machine

/-! ## Validation (R175) -/

/-- What a failing check names: its number, the table, the face code (0 where the table has no face) and the entry (R175,
notes/assumptions/22.md). -/
structure Finding where
  check : Nat
  table : Nat
  face : Byte
  entry : Nat
  deriving DecidableEq, Repr

/-- Check 1 of one face: extent low below extent high. -/
def checkParams (t : Tables) (f : Face) : Option Finding :=
  match t.params.get f with
  | none => none
  | some p => if p.extentLow < p.extentHigh then none else some ⟨1, 0, f.code, 0⟩

/-- Whether a door entry fails a test against the extent, the entry before it and the drop addresses before it (check 2). -/
def doorFails (p : FaceParams) (before : Option DoorEntry) (drops : List Nat) (e : DoorEntry) : Bool :=
  (match before with
    | none => false
    | some b => decide (e.centre ≤ b.centre) || decide (e.centre ≤ b.centre + b.halfWidth + e.halfWidth)) ||
    decide (e.centre < p.extentLow + e.halfWidth) || decide (p.extentHigh < e.centre + e.halfWidth) || drops.contains e.drop

/-- Check 2 over the slots of a configured face from slot `n` on; the answer is the first entry that fails. -/
def checkSlots (p : FaceParams) : Nat → Option DoorEntry → List Nat → List (Option DoorEntry) → Option Nat
  | _, _, _, [] => none
  | n, before, _, none :: rest =>
    if rest.any fun x => x.isSome then some n else if before.isNone then some n else none
  | n, before, drops, some e :: rest =>
    if doorFails p before drops e then some n else checkSlots p (n + 1) (some e) (e.drop :: drops) rest

/-- Check 2 of one face. -/
def checkDoors (t : Tables) (f : Face) : Option Finding :=
  match t.params.get f with
  | some p => (checkSlots p 1 none [] (t.doors.get f).toList).map fun n => ⟨2, 1, f.code, n⟩
  | none => ((State.tableDoors t f).head?).map fun x => ⟨2, 1, f.code, x.1⟩

/-- Whether the offsets of a profile increase strictly and lie within its length (check 3). -/
def profileHolds (length : Nat) : Option Nat → List ProfileDoor → Bool
  | _, [] => true
  | before, d :: rest =>
    (match before with | none => true | some b => decide (b < d.offset)) && decide (d.offset ≤ length) &&
      profileHolds length (some d.offset) rest

/-- The entries of a list with their indices. -/
def indexed {α : Type} (l : List α) : List (Nat × α) := l.zipIdx.map fun p => (p.2, p.1)

/-- Check 3. -/
def checkProfiles (t : Tables) : Option Finding :=
  ((indexed t.profiles.toList).find? fun x =>
    match x.2 with | some p => !profileHolds p.length none p.doors | none => false).map fun x => ⟨3, 2, 0, x.1⟩

/-- Check 4. -/
def checkConsist (t : Tables) : Option Finding :=
  ((indexed t.consist.toList).find? fun x => x.2.valid && ((t.profiles[x.2.profile]?).getD none).isNone).map
    fun x => ⟨4, 3, 0, x.1⟩

/-- The present zone entries in increasing id. -/
def presentZones (t : Tables) : List (Nat × ZoneEntry) :=
  (indexed t.zones.toList).filterMap fun x => x.2.map fun e => (x.1, e)

/-- Whether a zone entry fails a test of check 5, the entries of lower id being `before`. -/
def zoneFails (t : Tables) (before : List ZoneEntry) (e : ZoneEntry) : Bool :=
  decide (e.kOn ≤ e.kOff) || (t.params.get e.face).isNone || !((State.tableDoors t e.face).any fun x => x.1 = e.door) ||
    decide (2 ≤ before.countP fun b => b.face = e.face && b.door = e.door) || before.any fun b => b.head = e.head && b.face ≠ e.face

/-- Check 5 over the present zone entries. -/
def checkZoneList (t : Tables) : List ZoneEntry → List (Nat × ZoneEntry) → Option Finding
  | _, [] => none
  | before, (i, e) :: rest => if zoneFails t before e then some ⟨5, 4, 0, i⟩ else checkZoneList t (e :: before) rest

/-- The first of a list of findings. -/
def firstFinding : List (Option Finding) → Option Finding
  | [] => none
  | some x :: _ => some x
  | none :: rest => firstFinding rest

/-- Validation: the first failure of the five checks (R175). -/
def validate (t : Tables) : Option Finding :=
  firstFinding [checkParams t .A, checkParams t .B, checkDoors t .A, checkDoors t .B, checkProfiles t, checkConsist t,
    checkZoneList t [] (presentZones t)]

/-- Whether a head is assigned to a face in a bank (R171). -/
def assigned (t : Tables) (f : Face) (head : Nat) : Bool := t.zones.toList.any fun z =>
  match z with | some e => e.face = f && e.head = head | none => false

/-- The lowest head slot in conflict between a validated bank and the active one (R176). -/
def conflictHead (new old : Tables) : Option Nat :=
  (List.range 16).find? fun h => (assigned new .A h && assigned old .B h) || (assigned new .B h && assigned old .A h)

/-! ## Entries on the wire (R173, R196) -/

/-- The code of an action (R196). -/
def Action.code : Action → Nat
  | .report => 0
  | .withhold => 1
  | .holdClosed => 2

/-- The code of a policy (R196). -/
def Policy.code : Policy → Nat
  | .recycle => 0
  | .proofOnly => 1

/-- The code of a bank state, in the order of R167 (notes/assumptions/14.md). -/
def BankState.code : BankState → Nat
  | .empty => 0
  | .edit => 1
  | .staged => 2
  | .active => 3
  | .copying => 4

/-- The contents of a Face Parameter Record (R196). -/
def FaceParams.bytes (p : FaceParams) : List Byte :=
  u32 p.extentLow ++ u32 p.extentHigh ++ u32 p.target ++ u16 p.creep ++ u16 p.supervision ++ u16 p.openTimeout ++
    u16 p.closeTimeout ++ u16 p.recycleDwell ++ u8 p.maxRecycles ++ u8 p.badFrameLimit ++
    Condition.all.flatMap fun c => u8 (p.actions.get c).code

/-- The contents of a Platform Door Table entry (R196). -/
def DoorEntry.bytes (e : DoorEntry) : List Byte := u8 e.drop ++ u32 e.centre ++ u16 e.halfWidth ++ u16 e.minClear

/-- The contents of a Consist Profile Table entry (R196). -/
def Profile.bytes (p : Profile) : List Byte :=
  u16 p.length ++ u16 p.coupling ++ counted (fun d => u16 d.offset ++ u16 d.halfWidth) p.doors

/-- The contents of a Consist Match Table entry (R196). -/
def MatchEntry.bytes (m : MatchEntry) : List Byte := flag m.valid ++ u32 m.key.toNat ++ u32 m.mask.toNat ++ u8 m.profile

/-- The contents of a Zone Table entry (R196). -/
def ZoneEntry.bytes (e : ZoneEntry) : List Byte :=
  [e.face.code] ++ u8 e.door ++ u8 e.head ++ u16 e.beams.toNat ++ u8 e.kOn ++ u8 e.kOff ++ u8 e.policy.code

/-- The zone list of a door: the present zone entries that name the face and the door, in increasing id (R169). -/
def zoneList (t : Tables) (f : Face) (n : Nat) : List Nat :=
  ((presentZones t).filter fun x => x.2.face = f && x.2.door = n).map fun x => x.1

/-- An entry as READ_ENTRY returns it: a presence byte, then its fields; a present door entry with its zone list (R169, R173). -/
def Tables.readEntry (t : Tables) (key : EntryKey) : List Byte :=
  match key with
  | .params f => optional FaceParams.bytes (t.params.get f)
  | .door f n =>
    optional (fun e => e.bytes ++ counted u8 (zoneList t f n)) (((t.doors.get f)[n - 1]?).getD none)
  | .profile i => optional Profile.bytes ((t.profiles[i]?).getD none)
  | .consist i => optional MatchEntry.bytes (some ((t.consist[i]?).getD MatchEntry.absent))
  | .zone i => optional ZoneEntry.bytes ((t.zones[i]?).getD none)

namespace State

/-- An accepted write: the entry replaced, an EMPTY bank becomes EDIT (R172). -/
def installEntry (s : State) (b : BankId) (t : Tables) : State :=
  s.modTbs fun x =>
    x.setBank b { state := if (x.bank b).state = .empty then .edit else (x.bank b).state, tables := t }

/-- WRITE_ENTRY (R172). -/
def takeWriteEntry (r : Request) (s : State) : State :=
  match r.body with
  | table :: index :: rest =>
    match parseKey r.face? table index with
    | none => s.refuse r .badArgument
    | some key =>
      match s.tbs.edit, s.tbs.validation with
      | some b, none =>
        match (parsePresence rest).bind fun contents => (s.tbs.bank b).tables.write key contents with
        | none => s.refuse r .badArgument
        | some t => (s.installEntry b t).answer r .done [b.code]
      | _, _ => s.refuse r .tableLocked
  | _ => s.refuse r .badArgument

/-- READ_ENTRY (R173). -/
def takeReadEntry (r : Request) (s : State) : State :=
  match r.body with
  | [bank, table, index] =>
    match bankOfCode bank, parseKey r.face? table index with
    | some b, some key =>
      if (s.tbs.bank b).state = .copying then s.refuse r .busy
      else s.answer r .done (u8 (s.tbs.bank b).state.code ++ (s.tbs.bank b).tables.readEntry key)
    | _, _ => s.refuse r .badArgument
  | _ => s.refuse r .badArgument

/-- ACTIVATE: taken without a reply where its three tests pass (R174). -/
def takeActivate (r : Request) (s : State) : State :=
  match (parseByte r.body).bind fun n => bankOfCode (BitVec.ofNat 8 n) with
  | none => s.refuse r .badArgument
  | some b =>
    if s.tbs.edit ≠ some b then s.refuse r .badState
    else if s.tbs.validation.isSome then s.refuse r .busy
    else s.modTbs fun x => { x with validation := some { tag := r.tag, bank := b, takenAt := s.ms } }

/-- The bank that is active when a validation ends: face A's, or face B's where face A has none (R176,
notes/assumptions/37.md). -/
def activeBank (s : State) : Option BankId := s.tbs.active.a.orElse fun _ => s.tbs.active.b

/-- The head in conflict at the end of a validation, where a berth is not VACANT (R176). -/
def conflict (s : State) (b : BankId) : Option Nat :=
  match s.activeBank with
  | none => none
  | some old =>
    if (s.face .A).berth.state ≠ .vacant ∨ (s.face .B).berth.state ≠ .vacant then
      conflictHead (s.tbs.bank b).tables (s.tbs.bank old).tables
    else none

/-- A bank staged: no edit bank any more (R176). -/
def stage (s : State) (b : BankId) : State :=
  s.modTbs fun x => { x.setBank b { x.bank b with state := .staged } with staged := some b, edit := none }

/-- The end of a validation (R175, R176). -/
def endValidation (s : State) : State :=
  match s.tbs.validation with
  | none => s
  | some v =>
    let s := s.modTbs fun x => { x with validation := none }
    match validate (s.tbs.bank v.bank).tables with
    | some x => s.reply kindActivate v.tag (.refused .tableInvalid) (u8 x.check ++ u8 x.table ++ [x.face] ++ u8 x.entry)
    | none =>
      match s.conflict v.bank with
      | some h => s.reply kindActivate v.tag (.refused .tableConflict) (u8 h)
      | none => (((s.stage v.bank).reply kindActivate v.tag .done []).testAdoption .A).testAdoption .B

/-- The end of the copy (R179). -/
def endCopy (s : State) : State :=
  match s.tbs.copy with
  | none => s
  | some c =>
    (s.modTbs fun x =>
      { x.setBank c.written { state := .edit, tables := (x.bank c.source).tables } with edit := some c.written, copy := none }).raiseDevice
      .copyDone

end State

end Sys2Proof.Machine
end

