-- ==== Sys2Proof/Machine/Requests.lean ====
section
/-! DEFINITION. The requests of the Door Sequencer, the Release Supervisor and the Door Line Controller, and the timers of the
doors and of the close deferral (Chapters 3, 4, 6 and 7). -/

namespace Sys2Proof.Machine

/-- Whether a hold entry matches the identifier of unit 1 (R122). -/
def HoldEntry.hits (h : HoldEntry) (ident : Word32) : Bool := (ident &&& h.mask) == (h.key &&& h.mask)

/-- The lowest slot with an entry of a face that matches an identifier (R122, R126). -/
def matchingHold (holds : Vector (Option HoldEntry) 8) (f : Face) (ident : Word32) : Option (Nat × HoldEntry) :=
  ((indexed holds.toList).filterMap fun p => p.2.map fun h => (p.1, h)).find? fun p => p.2.face = f && p.2.hits ident

/-- The lowest empty slot (R123). -/
def emptyHold (holds : Vector (Option HoldEntry) 8) : Option Nat :=
  ((indexed holds.toList).find? fun p => p.2.isNone).map fun p => p.1

namespace State

/-! ## Door requests (R53 to R59) -/

/-- A door request that names a door: face, configured face, a door of the active Platform Door Table (R53). -/
def withDoor (s : State) (r : Request) (k : Face → Door → State) : State :=
  s.withConfigured r fun f =>
    match (parseByte r.body).bind fun n => s.findDoor f n with
    | none => s.refuse r .badArgument
    | some d => k f d

/-- The identifier of the train's unit 1 (R122). -/
def firstUnit (s : State) (f : Face) : Option Word32 :=
  (s.face f).berth.train.bind fun t => t.units.head?.map fun u => u.ident

/-- The refusals that OPEN_FACE and REOPEN_DOOR share: the release state, then the hold-closed set (R54, R56, R159). -/
def openRefusal (s : State) (f : Face) : Option Reason :=
  match (s.face f).release.state with
  | .evacuating => some .evacuating
  | .restoring => some .badState
  | .normal => if (s.face f).proof.holdClosed.nonempty then some .holdClosedActive else none
  | .released => if (s.face f).proof.holdClosed.nonempty then some .holdClosedActive else none

/-- The first test of OPEN_FACE that fails (R54). -/
def openFaceRefusal (s : State) (f : Face) : Option Reason :=
  if (s.face f).berth.state ≠ .stopped ∧ (s.face f).berth.state ≠ .dwelling then some .badState
  else if (s.face f).berth.enable = [] then some .notEnabled
  else s.openRefusal f

/-- OPEN_FACE accepted: a deferral cancelled, the doors opened, a STOPPED berth DWELLING (R54, R129). The doors are opened first, so a
CHANGED telegram that ends proof here still says STOPPED (R9, R161, notes/assumptions/41.md). -/
def acceptOpenFace (s : State) (f : Face) : State := ((s.cancelDeferral f).openDoors f).enterDwelling f

/-- OPEN_FACE (R54). -/
def takeOpenFace (r : Request) (s : State) : State :=
  s.withConfigured r fun f => s.withNoFields r <|
    match s.openFaceRefusal f with
    | some x => s.refuse r x
    | none => (s.acceptOpenFace f).done r

/-- A deferral begins with the hold of a slot; it ends in the same step where the partner has dwelt long enough (R126). -/
def beginDeferral (s : State) (f : Face) (slot : Nat) (h : HoldEntry) : State :=
  let s := { s with holds := s.holds.setIfInBounds slot none }
  let s := s.modDeferral f fun d =>
    { d with
      used := some { slot := slot, entry := h }, start := some s.ms, maximum := some (s.ms + h.maxHold)
      partnerSeen := match d.partnerView with | .dwelling _ => true | .notDwelling => false
      partnerTimer := match d.partnerView with | .dwelling x => some (x + h.minDwell) | .notDwelling => none
      count := s.bump d.count }
  s.partnerDwellLapse f

/-- The hold that a CLOSE_FACE uses: the berth is DWELLING and an entry matches unit 1 (R126). -/
def closeFaceHold (s : State) (f : Face) : Option (Nat × HoldEntry) :=
  if (s.face f).berth.state = .dwelling then (s.firstUnit f).bind fun x => matchingHold s.holds f x else none

/-- CLOSE_FACE (R55, R126). -/
def takeCloseFace (r : Request) (s : State) : State :=
  s.withConfigured r fun f => s.withNoFields r <|
    if (s.face f).release.state = .evacuating then s.refuse r .evacuating
    else if (s.face f).deferral.used.isSome then s.answer r .deferred []
    else
      match s.closeFaceHold f with
      | some (slot, h) => (s.beginDeferral f slot h).answer r .deferred []
      | none => (s.closeFaceNow f).done r

/-- The first test of REOPEN_DOOR that fails (R56). -/
def reopenRefusal (s : State) (f : Face) (d : Door) : Option Reason :=
  if (s.face f).berth.state ≠ .dwelling then some .badState
  else if !d.enabled then some .notEnabled
  else
    match s.openRefusal f with
    | some x => some x
    | none =>
      if (d.state = .closing ∨ d.state = .held ∨ d.state = .stalled) ∧ ¬d.latched then none else some .badState

/-- REOPEN_DOOR (R56). -/
def takeReopenDoor (r : Request) (s : State) : State :=
  s.withDoor r fun f d =>
    match s.reopenRefusal f d with
    | some x => s.refuse r x
    | none => (s.applyDoor f d.number fun ctx d => Door.plain (d.startOpen ctx .routine)).done r

/-- CLOSE_DOOR (R57). -/
def takeCloseDoor (r : Request) (s : State) : State :=
  s.withDoor r fun f d =>
    if (s.face f).release.state = .evacuating then s.refuse r .evacuating
    else if d.state = .opened ∨ d.state = .held ∨ d.state = .stalled then
      (s.applyDoor f d.number fun ctx d => d.startClose ctx .routine).done r
    else s.refuse r .badState

/-- ISOLATE_DOOR (R58). -/
def takeIsolateDoor (r : Request) (s : State) : State :=
  s.withDoor r fun f d => (s.applyDoorRestore f d.number fun _ d => d.isolate).done r

/-- RETURN_DOOR (R59). -/
def takeReturnDoor (r : Request) (s : State) : State :=
  s.withDoor r fun f d =>
    if d.isolation = .lockedOut then (s.applyDoorRestore f d.number fun _ d => d.returnToService).done r
    else s.refuse r .badState

/-! ## Connection holds (R123, R124, R127, R128) -/

/-- HOLD_ADD (R123). -/
def takeHoldAdd (r : Request) (s : State) : State :=
  s.withConfigured r fun f =>
    match parseHold f r.body with
    | none => s.refuse r .badArgument
    | some h =>
      match emptyHold s.holds with
      | none => s.refuse r .full
      | some i => { s with holds := s.holds.setIfInBounds i (some h) }.answer r .done (u8 i)

/-- HOLD_CANCEL (R124). -/
def takeHoldCancel (r : Request) (s : State) : State :=
  s.withFace r fun f =>
    match parseHoldSlot r.body with
    | none => s.refuse r .badArgument
    | some i =>
      if ((s.holds[i]?).getD none).map (fun h => h.face) = some f then
        { s with holds := s.holds.setIfInBounds i none }.done r
      else s.refuse r .badState

/-- The maximum timer of a deferral expires (R128). -/
def holdMaximumLapse (s : State) (f : Face) : State :=
  if (s.face f).deferral.used.isSome ∧ s.due (s.face f).deferral.maximum then s.endWithClose f .maximum else s

/-! ## Release and evacuation (R137, R138, R142 to R145) -/

/-- Whether a latched door of the release set has a last status that shows release-actuated (R142). -/
def releaseHeld (s : State) (f : Face) : Bool :=
  (s.face f).release.set.any fun m =>
    m.latched && ((s.findDoor f m.door).bind fun d => d.lastStatus).any fun st => st.releaseActuated

/-- A RESTORE refused with PROTECT: counted and raised, its reply carries the current release sequence (R143). -/
def protectRestore (s : State) (r : Request) (f : Face) : State :=
  ((s.modRelease f fun x => { x with refused := s.bump x.refused }).raiseFace f .restoreRefused).answer r
    (.refused .protect) [(s.face f).release.seq]

/-- RESTORE accepted (R145). -/
def acceptRestore (s : State) (f : Face) (seq : Byte) : State :=
  let s := s.modRelease f fun x => { x with latch := false, lastRestore := some (seq, s.ms) }
  if (s.face f).release.set = [] then s.becomeNormal f else (s.setRelease f .restoring).restoreClose f

/-- RESTORE (R142 to R145). -/
def takeRestore (r : Request) (s : State) : State :=
  s.withFace r fun f =>
    match parseRestore r.body with
    | none => s.refuse r .badArgument
    | some (seq, inverse) =>
      if ¬s.configured f then s.refuse r .notConfigured
      else if (s.face f).release.state ≠ .released ∧ (s.face f).release.state ≠ .evacuating then s.refuse r .badState
      else if inverse ≠ 255 - seq ∨ seq ≠ (s.face f).release.seq then s.protectRestore r f
      else if (s.face f).release.input = .asserted then s.refuse r .inputActive
      else if s.releaseHeld f then s.refuse r .releaseActive
      else (s.acceptRestore f seq).done r

/-- EVACUATE (R138). -/
def takeEvacuate (r : Request) (s : State) : State :=
  s.withFace r fun f => s.withNoFields r <|
    if s.configured f then
      let s1 := s.modRelease f fun x => { x with latch := true }
      (if (s.face f).release.state = .evacuating then s1 else s1.beginEvacuation f).done r
    else s.refuse r .notConfigured

/-- An evacuation input has held a new level for 10 ms (R137, R201). -/
def takeInput (s : State) (f : Face) (level : Level) : State :=
  (s.modRelease f fun x => { x with input := level }).testEvacuation f

/-! ## Tunnels (R96, R97, R99) -/

/-- TUNNEL (R96, R97). -/
def takeTunnel (r : Request) (s : State) : State :=
  s.withConfigured r fun f =>
    match parseTunnel r.body with
    | none => s.refuse r .badArgument
    | some (n, payload) =>
      match s.findDoor f n with
      | none => s.refuse r .badArgument
      | some d =>
        if d.state ≠ .isolated ∧ (s.face f).berth.state ≠ .vacant then s.refuse r .notNow
        else if (s.face f).line.tunnel.isSome then s.refuse r .busy
        else
          s.modLine f fun l =>
            { l with tunnel := some { tag := r.tag, drop := d.drop, payload := payload, forwardedAt := s.ms, sent := false } }

/-- An exchange outstanding 200 ms after its forwarding ends with TIMEOUT (R99). -/
def tunnelLapse (s : State) (f : Face) : State :=
  match (s.face f).line.tunnel with
  | none => s
  | some x => if x.forwardedAt + 200 ≤ s.ms then s.endTunnel f (.refused .timeout) [] else s

/-! ## Door timers (R49, R66, R67) -/

/-- Whether a door's timer runs as a kind and its time has come (R49). -/
def doorTimerDue (s : State) (f : Face) (n : Nat) (kind : TimerKind) : Bool :=
  match (s.findDoor f n).bind fun d => d.timer with
  | none => false
  | some x => x.kind = kind && x.expiry ≤ s.ms

/-- An open timeout or a close timeout expires (R66). -/
def doorTimeout (s : State) (f : Face) (n : Nat) (kind : TimerKind) : State :=
  if s.doorTimerDue f n kind then s.applyDoor f n fun _ d => d.timeout kind else s

/-- A recycle dwell expires (R67). -/
def dwellLapse (s : State) (f : Face) (n : Nat) : State :=
  if s.doorTimerDue f n .recycleDwell then s.applyDoor f n fun ctx d => d.dwellOver ctx else s

end State

end Sys2Proof.Machine
end

