-- ==== Sys2Proof/Machine/Report.lean ====
section
/-! DEFINITION. What the read requests answer, and the counters: status, doors, snapshot, clear (R187, R192, R193, R196). Each
item is given field by field in the order of the table that specifies it (notes/assumptions/14.md). -/

namespace Sys2Proof.Machine

/-! ## Codes of the enumerations (R196; notes/assumptions/14.md where Chapter 11 gives none) -/

/-- The code of a reset cause, in the order of R186. -/
def ResetCause.code : ResetCause → Nat
  | .powerOn => 0
  | .pin => 1
  | .soft => 2

/-- The code of a TRAIN telegram's kind (R196). -/
def TelegramKind.code : TelegramKind → Nat
  | .arrival => 1
  | .position => 2
  | .departure => 3
  | .cleared => 4

/-- The code of a direction (R196). -/
def Direction.code : Direction → Nat
  | .up => 0
  | .down => 1

/-- The code of an orientation (R196). -/
def Orientation.code : Orientation → Nat
  | .end1Leading => 0
  | .end2Leading => 1

/-- The code of a cause of HOLD_ENDED, in the order of section 6.4. -/
def EndCause.code : EndCause → Nat
  | .partnerDwell => 0
  | .partnerLeft => 1
  | .maximum => 2
  | .cancelled => 3

/-- The code of a door state, in the order of R47. -/
def DoorState.code : DoorState → Nat
  | .unknown => 0
  | .closed => 1
  | .opening => 2
  | .opened => 3
  | .closing => 4
  | .recycling => 5
  | .held => 6
  | .stalled => 7
  | .released => 8
  | .isolated => 9
  | .lost => 10

/-- The code of an isolation, in the order of R47. -/
def Isolation.code : Isolation → Nat
  | .none => 0
  | .lockedOut => 1
  | .localSwitch => 2

/-- The code of a door position (section 11.3). -/
def Position.code : Position → Nat
  | .closedLocked => 0
  | .closedUnlocked => 1
  | .opening => 2
  | .opened => 3
  | .closing => 4
  | .stoppedMid => 5

/-- The code of a timer kind, in the order of R47. -/
def TimerKind.code : TimerKind → Nat
  | .openTimeout => 0
  | .closeTimeout => 1
  | .recycleDwell => 2

/-- The code of a command's class, in the order of R47. -/
def Urgency.code : Urgency → Nat
  | .urgent => 0
  | .routine => 1

/-- The code of a head state, in the order of R107. -/
def HeadState.code : HeadState → Nat
  | .unused => 0
  | .unknown => 1
  | .live => 2
  | .silent => 3

/-- The code of a zone state, in the order of R111. -/
def ZoneState.code : ZoneState → Nat
  | .unknown => 0
  | .clear => 1
  | .occupied => 2

/-- The code of a condition, in the order of R168. -/
def Condition.code : Condition → Nat
  | .positionStale => 0
  | .uplinkDegraded => 1
  | .headSilent => 2
  | .doorStalled => 3
  | .doorHeld => 4
  | .noProfile => 5

/-- A set of conditions as a byte, the condition of code n in bit n. -/
def ConditionSet.code (c : ConditionSet) : Nat :=
  (Condition.all.map fun x => if c.get x then 2 ^ x.code else 0).sum

/-- A level as a byte: 1 ASSERTED, 0 DEASSERTED (notes/assumptions/14.md). -/
def levelByte : Level → List Byte
  | .asserted => [1]
  | .deasserted => [0]

/-- A counter's four bytes. -/
def counterBytes (c : Counter) : List Byte := u32 c.toNat

/-- A status as READ_DOOR gives it: position, the four flags, the echo (R47). -/
def Status.bytes (st : Status) : List Byte :=
  u8 st.position.code ++ flag st.obstruction ++ flag st.releaseActuated ++ flag st.localIsolation ++ flag st.driveFault ++
    u8 st.echo.toNat

/-- Key, mask, T and H of a hold, the fields that the deferral record keeps of it (R125). -/
def HoldEntry.usedBytes (h : HoldEntry) : List Byte := u32 h.key.toNat ++ u32 h.mask.toNat ++ u32 h.minDwell ++ u32 h.maxHold

/-- A hold entry's fields, its face first (R122). -/
def HoldEntry.bytes (h : HoldEntry) : List Byte := [h.face.code] ++ h.usedBytes

/-- A sample's fields (R16). -/
def Sample.bytes (x : Sample) : List Byte := u32 x.position ++ u16 x.speed ++ flag x.clamped

/-- A unit's fields (R5). -/
def TrainUnit.bytes (x : TrainUnit) : List Byte := u32 x.ident.toNat ++ u8 x.orientation.code ++ optional u8 x.profile

/-- A pairing entry's fields (R40). -/
def Pairing.bytes (x : Pairing) : List Byte := u8 x.door ++ u8 x.unitNo ++ u8 x.trainDoor ++ u16 x.overlap

/-- A command as the Door Sequencer's record gives it: command and class (R47). -/
def SlotCommand.shortBytes (c : SlotCommand) : List Byte := u8 c.command.code ++ u8 c.urgency.code

/-- A command as the link record gives it: command, class, sequence number, sends left (R83). -/
def SlotCommand.bytes (c : SlotCommand) : List Byte := c.shortBytes ++ optional (fun n => u8 n.toNat) c.seq ++ u8 c.left

namespace State

/-- The time left to an expiry. -/
def timeLeft (s : State) (expiry : Millis) : List Byte := u32 (expiry - s.ms)

/-- A live counter as a read request shows it. While a counter clear runs, a counter has been reached or not: a free value says
which (R193, notes/assumptions/12.md). -/
def shown (s : State) (place : Nat) (c : Counter) : List Byte :=
  counterBytes (if s.lif.clearing.isSome ∧ Config.clearReached s.freeCount place then 0 else c)

/-- A read that may show live counters draws a free value while a counter clear runs. -/
def drawFree (s : State) : State := if s.lif.clearing.isSome then { s with freeCount := s.freeCount + 1 } else s

/-! ## READ_STATUS (R187) -/

/-- Part DEVICE; the intake queue is counted without the READ_STATUS being taken (R166, R187, notes/assumptions/48.md). -/
def deviceBytes (s : State) : List Byte :=
  u16 Config.partCode.toNat ++ u16 Config.revision.toNat ++ u8 s.lif.resetCause.code ++ flag s.lif.degraded ++
    u8 s.lif.badCount ++ u8 s.lif.goodStreak ++ u8 s.lif.errorLimit ++ u8 s.lif.intake.length ++ [s.gap.cycle] ++
    u8 s.tbs.bank0.state.code ++ u8 s.tbs.bank1.state.code ++ optional (fun b => [b.code]) s.tbs.active.a ++
    optional (fun b => [b.code]) s.tbs.active.b ++ optional (fun b => [b.code]) s.tbs.edit ++
    optional (fun b => [b.code]) s.tbs.staged ++ flag s.tbs.validation.isSome ++ flag s.tbs.copy.isSome

/-- The berth data of R5 and the face state of R6. -/
def berthBytes (s : State) (b : Berth) : List Byte :=
  u8 b.state.code ++ optional (fun t => u8 t.direction.code) b.train ++ optional (fun t => counted TrainUnit.bytes t.units) b.train ++
    optional u32 b.stop ++ optional i32 b.stopError ++ counted u8 b.enable ++ counted Pairing.bytes b.pairing ++
    optional (fun t => counted Sample.bytes t.ring) b.train ++ [b.ticket] ++ optional u32 b.dwellStart ++
    optional (fun t => flag t.gapMark) b.train ++ optional s.timeLeft b.supervision ++ optional u32 b.lastSample ++
    optional (fun x => u8 x.1.code ++ u8 x.2.code) b.lastRefusal ++ s.shown 0 b.policed ++ s.shown 1 b.clampedSamples ++
    s.shown 2 b.telegramsRefused

/-- The deferral record of R125. -/
def deferralBytes (s : State) (d : Deferral) : List Byte :=
  flag d.used.isSome ++ optional (fun u => u8 u.slot ++ u.entry.usedBytes) d.used ++ optional u32 d.start ++
    optional s.timeLeft d.maximum ++ flag d.partnerSeen ++ optional s.timeLeft d.partnerTimer ++
    optional u32 (match d.partnerView with | .dwelling x => some x | .notDwelling => none) ++
    optional (fun x => u8 x.1.code ++ u32 x.2) d.lastEnd ++ s.shown 3 d.count

/-- The release record of R131 with the input level. A member's marks are one byte, LATCHED in bit 0 and EVAC_OPENED in bit 1
(notes/assumptions/14.md). -/
def releaseBytes (s : State) (r : Release) : List Byte :=
  u8 r.state.code ++ [r.seq] ++ flag r.latch ++ levelByte r.input ++
    counted (fun m => u8 m.door ++ u8 (m.latched.toNat + 2 * m.evacOpened.toNat)) r.set ++
    optional (fun x => [x.1] ++ u32 x.2) r.lastRestore ++ s.shown 4 r.refused

/-- The proof record of R153 with each active condition's action. -/
def proofBytes (s : State) (p : ProofRecord) (actions : Option (PerCondition Action)) : List Byte :=
  flag p.held ++ u8 p.blockers.code ++
    counted (fun c => u8 c.code ++ optional (fun a => u8 a.code) (actions.map fun a => a.get c)) (Condition.all.filter p.active.get) ++
    u8 p.withhold.code ++ u8 p.holdClosed.code ++ flag p.loopClosed ++ flag p.alertDriven ++ s.timeLeft p.periodicAt ++
    optional proofPayload p.pending ++ s.shown 5 p.losses

/-- Parts FACE_A and FACE_B. -/
def faceBytes (s : State) (f : Face) : List Byte :=
  s.berthBytes (s.face f).berth ++ s.deferralBytes (s.face f).deferral ++ s.releaseBytes (s.face f).release ++
    s.proofBytes (s.face f).proof ((s.params? f).map fun p => p.actions) ++
    optional (fun w => [w.ticket] ++ u32 w.placedAt) (s.aln.waiting.get f)

/-- A head record of R107. -/
def headBytes (s : State) (h : Head) : List Byte :=
  u8 h.slot ++ u8 (h.serves.a.toNat + 2 * h.serves.b.toNat) ++ u8 h.state.code ++ counted (fun v => u16 v.toNat) h.window ++
    u8 h.missingStreak ++ u8 h.goodStreak ++ s.shown (100 + h.slot) h.missingScans

/-- The data of READ_STATUS (R187). -/
def statusBytes (s : State) : StatusPart → List Byte
  | .device => s.deviceBytes
  | .face f => s.faceBytes f
  | .heads => s.gap.heads.flatMap s.headBytes
  | .holds => s.holds.toList.flatMap fun h => optional HoldEntry.bytes h

/-- READ_STATUS (R187). -/
def takeReadStatus (r : Request) (s : State) : State :=
  match parsePart r.body with
  | none => s.refuse r .badArgument
  | some p => s.drawFree.answer r .done (s.statusBytes p)

/-! ## READ_DOOR (R187) -/

/-- The door record of R47. -/
def doorBytes (s : State) (d : Door) : List Byte :=
  u8 d.number ++ u8 d.drop ++ u8 d.state.code ++ flag d.enabled ++ u8 d.recycleCount ++ flag d.latched ++ flag d.evacOpened ++
    u8 d.isolation.code ++ optional Status.bytes d.lastStatus ++ optional SlotCommand.shortBytes d.link.slot ++
    optional (fun x => u8 x.kind.code ++ s.timeLeft x.expiry) d.timer ++ s.shown 0 d.openCycles ++ s.shown 1 d.recycles ++
    s.shown 2 d.obstructions ++ s.shown 3 d.superseded

/-- The unit link record and command slot of R83. -/
def linkBytes (s : State) (l : UnitLink) : List Byte :=
  u8 l.badCount ++ flag l.lost ++ optional (fun n => u8 n.toNat) l.base ++ optional (fun n => u8 n.toNat) l.lastIssued ++
    s.shown 4 l.badFrames ++ optional SlotCommand.bytes l.slot

/-- A zone as READ_DOOR gives it: id, policy, state, last metric (R111). -/
def zoneBytes (z : Zone) : List Byte := u8 z.id ++ u8 z.policy.code ++ u8 z.state.code ++ optional u8 z.metric

/-- The data of READ_DOOR: door record, link record, pairing entry while the door is enabled, the door's zones (R187). -/
def readDoorBytes (s : State) (f : Face) (d : Door) : List Byte :=
  s.doorBytes d ++ s.linkBytes d.link ++
    optional Pairing.bytes (if d.enabled then (s.face f).berth.pairing.find? fun p => p.door = d.number else none) ++
    counted zoneBytes ((s.gap.zones.get f).filter fun z => z.door = d.number)

/-- READ_DOOR (R187). -/
def takeReadDoor (r : Request) (s : State) : State :=
  s.withDoor r fun f d => s.drawFree.answer r .done (s.readDoorBytes f d)

/-! ## The counter snapshot (R192) -/

/-- Page 0 of a snapshot: the device's counters, then those of each face. -/
def devicePage (s : State) : List Counter :=
  [s.lif.uplinkErrors, s.lif.framesDiscarded, s.lif.requestsDropped] ++
    [Face.A, Face.B].flatMap fun f =>
      [(s.face f).berth.policed, (s.face f).berth.clampedSamples, (s.face f).berth.telegramsRefused, s.aln.computations.get f,
        s.aln.withdrawn.get f, (s.face f).deferral.count, (s.face f).release.refused, (s.face f).proof.losses]

/-- Pages 1 and 2: the counters of doors 1 to 32 of a face, absent where no door has the number. -/
def doorPage (s : State) (f : Face) : List (Option (List Counter)) :=
  (List.range 32).map fun i =>
    (s.findDoor f (i + 1)).map fun d => [d.openCycles, d.recycles, d.obstructions, d.superseded, d.link.badFrames]

/-- Pages 4 and 5: the counters of zone ids 0 to 63 of a face, absent where no zone in force has the id. -/
def zonePage (s : State) (f : Face) : List (Option Counter) :=
  (List.range 64).map fun i => ((s.gap.zones.get f).find? fun z => z.id = i).map fun z => z.entries

/-- Every live counter of the part at one moment (R192). -/
def capture (s : State) : Snapshot :=
  { takenAt := s.ms, device := s.devicePage, doors := ⟨s.doorPage .A, s.doorPage .B⟩,
    heads := s.gap.heads.map fun h => h.missingScans, zones := ⟨s.zonePage .A, s.zonePage .B⟩ }

/-- SNAPSHOT_COUNTERS: taken without a reply where it is accepted (R192). -/
def takeSnapshot (r : Request) (s : State) : State :=
  s.withNoFields r <|
    if s.lif.preparing.isSome ∨ s.lif.clearing.isSome then s.refuse r .busy
    else s.modLif fun l => { l with preparing := some { tag := r.tag, snapshot := s.capture } }

/-- The snapshot is ready: it replaces the readable one, and the reply is given (R192). -/
def snapshotDone (s : State) : State :=
  match s.lif.preparing with
  | none => s
  | some p => (s.modLif fun l => { l with snapshot := some p.snapshot, preparing := none }).reply kindSnapshot p.tag .done []

/-- A page of a snapshot with the time it was taken (R192). -/
def pageBytes (x : Snapshot) (page : Nat) : List Byte :=
  (match page with
    | 0 => x.device.flatMap counterBytes
    | 1 => x.doors.a.flatMap (optional fun l => l.flatMap counterBytes)
    | 2 => x.doors.b.flatMap (optional fun l => l.flatMap counterBytes)
    | 3 => x.heads.flatMap counterBytes
    | 4 => x.zones.a.flatMap (optional counterBytes)
    | _ => x.zones.b.flatMap (optional counterBytes)) ++ u32 x.takenAt

/-- READ_COUNTERS (R192). -/
def takeReadCounters (r : Request) (s : State) : State :=
  match (parseByte r.body).filter fun n => n ≤ 5 with
  | none => s.refuse r .badArgument
  | some page =>
    if s.lif.preparing.isSome then s.refuse r .busy
    else
      match s.lif.snapshot with
      | none => s.refuse r .badState
      | some x => s.answer r .done (pageBytes x page)

/-! ## The counter clear (R193) -/

/-- CLEAR_COUNTERS: taken without a reply where it is accepted (R193). -/
def takeClear (r : Request) (s : State) : State :=
  s.withNoFields r <|
    if s.lif.preparing.isSome ∨ s.lif.clearing.isSome then s.refuse r .busy
    else s.modLif fun l => { l with clearing := some { tag := some r.tag, takenAt := s.ms } }

/-- A door's counters and the BAD_FRAMES of its unit set to 0. -/
def zeroDoor (d : Door) : Door :=
  { d with openCycles := 0, recycles := 0, obstructions := 0, superseded := 0, link := { d.link with badFrames := 0 } }

/-- The counters that exist once for each face set to 0. -/
def zeroFace (x : FaceState) : FaceState :=
  { x with
    berth := { x.berth with policed := 0, clampedSamples := 0, telegramsRefused := 0 }
    doors := x.doors.map zeroDoor
    deferral := { x.deferral with count := 0 }
    release := { x.release with refused := 0 }
    proof := { x.proof with losses := 0 } }

/-- Every live counter of the part set to 0 (R193). -/
def zeroCounters (s : State) : State :=
  { s with
    faces := s.faces.map zeroFace
    aln := { s.aln with computations := ⟨0, 0⟩, withdrawn := ⟨0, 0⟩ }
    gap := { s.gap with
      heads := s.gap.heads.map fun h => { h with missingScans := 0 }
      zones := s.gap.zones.map fun zs => zs.map fun z => { z with entries := 0 } }
    lif := { s.lif with uplinkErrors := 0, framesDiscarded := 0, requestsDropped := 0 } }

/-- The counter clear ends: every live counter is 0, the reply is given where the clear still has one to give, and
COUNTERS_CLEARED is raised (R193, R194). -/
def clearDone (s : State) : State :=
  match s.lif.clearing with
  | none => s
  | some c =>
    let s := s.zeroCounters.modLif fun l => { l with clearing := none }
    let s := match c.tag with
      | some tag => s.reply kindClear tag .done []
      | none => s
    s.raiseDevice .countersCleared

end State

end Sys2Proof.Machine
end

