-- ==== Sys2Proof/Machine/Reset.lean ====
section
/-! DEFINITION. Power-on, the reset pin, power loss and SOFT_RESET (R194, R195, R201 and the reset rules of every chapter). -/

namespace Sys2Proof.Machine

namespace State

/-- Every block at its power-on and reset-pin state at the present time, the evacuation inputs as the part finds them (R23, R31,
R77, R100, R118, R122, R150, R164, R180, R195). The clock runs on (notes/assumptions/7.md). -/
def freshBlocks (s : State) (cause : ResetCause) (evac : PerFace Level) : State :=
  { s with
    faces := ⟨FaceState.initial evac.a (s.ms + 200), FaceState.initial evac.b (s.ms + 200)⟩
    holds := Vector.replicate 8 none
    aln := Engine.initial
    gap := GapMonitor.initial s.now
    tbs := TableStore.initial
    lif := LinkInterface.initial cause (s.ms + 2000) }

/-- POWER_ON (R195, R201). -/
def powerUp (s : State) (evac : PerFace Level) : State := { s.freshBlocks .powerOn evac with powered := true }

/-- RESET_PIN_RELEASE of a powered part (R195, R201); an unpowered one only sees the pin's level. -/
def releasePin (s : State) (evac : PerFace Level) : State :=
  if s.powered then { s.freshBlocks .pin evac with resetPin := false } else { s with resetPin := false }

/-- The outputs of a part that is unpowered or held in reset: loops open, alerts released, lines silent, transmitter idle (R160,
R201, section 11.5, notes/assumptions/27.md). -/
def silence (s : State) : State :=
  let off := fun (x : FaceState) =>
    { x with proof := { x.proof with loopClosed := false, alertDriven := false }, line := { x.line with turn := none } }
  { s with faces := s.faces.map off, lif := { s.lif with sending := none } }

/-- RESET_PIN_ASSERT (R201). -/
def assertPin (s : State) : State := { s.silence with resetPin := true }

/-- POWER_LOSS (R201). -/
def powerDown (s : State) : State := { s.silence with powered := false }

/-! ## SOFT_RESET (R194; the order inside the step is notes/assumptions/25.md) -/

/-- What a soft reset leaves of the frame being sent: it is finished, and a reply part belongs to no reply any more (R194, R197). -/
def abandonReply (x : Sending) : Sending :=
  { x with item := match x.item with
    | .reply _ => .abandoned
    | .changed => .changed
    | .notice => .notice
    | .periodic => .periodic
    | .abandoned => .abandoned }

/-- The Link Interface at a soft reset, before RESET is raised (R194). -/
def lifSoftReset (s : State) : State :=
  s.modLif fun l =>
    { l with
      intake := [], replies := [], changed := [], sending := l.sending.map abandonReply, notices := ⟨none, none, none⟩
      flags := ⟨[], [], []⟩, lastNotice := .face .B, badCount := 0, goodStreak := 0, silence := some (s.ms + 2000)
      degraded := false, resetCause := .soft, afterReset := true, preparing := none
      clearing := l.clearing.map fun c => { c with tag := none } }

/-- A face's Berth Tracker, Door Sequencer and deferral at a soft reset (R24, R78, R125). -/
def faceSoftReset (s : State) (f : Face) : State :=
  let s := s.modBerth f fun b => { vacated b with lastSample := none, lastRefusal := none }
  let s := s.modDeferral f fun d =>
    { d with used := none, start := none, maximum := none, partnerSeen := false, partnerTimer := none, partnerView := .notDwelling }
  let s := s.modReports f fun _ => []
  (s.modDoors f fun ds => ds.map Door.softReset).doorsHandOn f

/-- A door line at a soft reset (R101). -/
def lineSoftReset (s : State) (f : Face) : State :=
  let s := s.modLine f fun l => { l with running := s.configured f, turn := none, rotation := none, tunnel := none }
  if s.configured f then s.nextTurn f else s

/-- The Alignment Engine at a soft reset (R31). -/
def alnSoftReset (s : State) : State := s.modAln fun e => { e with inflight := none, waiting := ⟨none, none⟩ }

/-- A Release Supervisor at a soft reset: the input level is read again, and a restore close is asked for again (R151). -/
def releaseSoftReset (s : State) (f : Face) (level : Level) : State :=
  let s := s.modRelease f fun r => { r with input := level }
  if (s.face f).release.state = .restoring then s.restoreClose f else s

/-- The Table Store at a soft reset: a validation abandoned, a copy begun again (R180). -/
def tbsSoftReset (s : State) : State :=
  s.modTbs fun t => { t with validation := none, copy := t.copy.map fun c => { c with beganAt := s.ms } }

/-- Every block's soft reset. The zones are UNKNOWN before the doors' hand-on brings a Proof Unit's first decision, so that only a face
without zones can be proven by it (R119, R164, R194). -/
def softReset (s : State) (evac : PerFace Level) : State :=
  let s := s.lifSoftReset.raiseDevice .reset
  let s := (s.proofSoftReset .A).proofSoftReset .B
  let s := s.alnSoftReset.gapSoftReset
  let s := (s.faceSoftReset .A).faceSoftReset .B
  let s := (s.lineSoftReset .A).lineSoftReset .B
  let s := (s.decide .A).decide .B
  let s := (s.releaseSoftReset .A evac.a).releaseSoftReset .B evac.b
  let s := (s.tbsSoftReset.testAdoption .A).testAdoption .B
  ((s.testEvacuation .A).testEvacuation .B).refreshAlerts

/-- SOFT_RESET: it receives no reply; a payload with further bytes is refused (R194, R196, notes/assumptions/21.md). -/
def takeSoftReset (evac : PerFace Level) (r : Request) (s : State) : State := s.withNoFields r (s.softReset evac)

end State

end Sys2Proof.Machine
end

