-- ==== Sys2Proof/Machine/DoorCommands.lean ====
section
/-! DEFINITION. The meanings of the requests that the Door Sequencer, the Release Supervisor and the Door Line Controller take
(Chapters 3, 4, 6 and 7). -/

namespace Sys2Proof.Machine

/-- OPEN_FACE (R54). -/
def execOpenFace (t : Micros) (s : State) : Host.Outcome State Fault Refusal :=
  .next (s.event t fun s => s.takeRequest (some .openFace) State.takeOpenFace)

/-- CLOSE_FACE (R55, R126). -/
def execCloseFace (t : Micros) (s : State) : Host.Outcome State Fault Refusal :=
  .next (s.event t fun s => s.takeRequest (some .closeFace) State.takeCloseFace)

/-- REOPEN_DOOR (R56). -/
def execReopenDoor (t : Micros) (s : State) : Host.Outcome State Fault Refusal :=
  .next (s.event t fun s => s.takeRequest (some .reopenDoor) State.takeReopenDoor)

/-- CLOSE_DOOR (R57). -/
def execCloseDoor (t : Micros) (s : State) : Host.Outcome State Fault Refusal :=
  .next (s.event t fun s => s.takeRequest (some .closeDoor) State.takeCloseDoor)

/-- ISOLATE_DOOR (R58). -/
def execIsolateDoor (t : Micros) (s : State) : Host.Outcome State Fault Refusal :=
  .next (s.event t fun s => s.takeRequest (some .isolateDoor) State.takeIsolateDoor)

/-- RETURN_DOOR (R59). -/
def execReturnDoor (t : Micros) (s : State) : Host.Outcome State Fault Refusal :=
  .next (s.event t fun s => s.takeRequest (some .returnDoor) State.takeReturnDoor)

/-- HOLD_ADD (R123). -/
def execHoldAdd (t : Micros) (s : State) : Host.Outcome State Fault Refusal :=
  .next (s.event t fun s => s.takeRequest (some .holdAdd) State.takeHoldAdd)

/-- HOLD_CANCEL (R124). -/
def execHoldCancel (t : Micros) (s : State) : Host.Outcome State Fault Refusal :=
  .next (s.event t fun s => s.takeRequest (some .holdCancel) State.takeHoldCancel)

/-- RESTORE (R142). -/
def execRestore (t : Micros) (s : State) : Host.Outcome State Fault Refusal :=
  .next (s.event t fun s => s.takeRequest (some .restore) State.takeRestore)

/-- EVACUATE (R138). -/
def execEvacuate (t : Micros) (s : State) : Host.Outcome State Fault Refusal :=
  .next (s.event t fun s => s.takeRequest (some .evacuate) State.takeEvacuate)

/-- TUNNEL (R96). -/
def execTunnel (t : Micros) (s : State) : Host.Outcome State Fault Refusal :=
  .next (s.event t fun s => s.takeRequest (some .tunnel) State.takeTunnel)

end Sys2Proof.Machine
end

