-- ==== Sys2Proof/Machine/FieldCommands.lean ====
section
/-! DEFINITION. The meanings of what the door lines and the sensor line bring (Chapters 4 and 5). -/

namespace Sys2Proof.Machine

/-- TURN_ANSWER (R87). -/
def execTurnAnswer (t : Micros) (face : Face) (bytes : List Byte) (parityOk : Bool) (s : State) : Host.Outcome State Fault Refusal :=
  .next (s.event t fun s => s.takeAnswer face bytes parityOk)

/-- ANSWER_WINDOW_EXPIRY (R81). -/
def execAnswerWindowExpiry (t : Micros) (face : Face) (s : State) : Host.Outcome State Fault Refusal :=
  .next (s.event t fun s => s.windowExpiry face)

/-- LATE_FRAME_DISCARDED: a frame outside every answer window is discarded (R81). -/
def execLateFrameDiscarded (t : Micros) (_face : Face) (s : State) : Host.Outcome State Fault Refusal :=
  .next (s.event t fun s => s)

/-- TUNNEL_TIMEOUT (R99). -/
def execTunnelTimeout (t : Micros) (face : Face) (s : State) : Host.Outcome State Fault Refusal :=
  .next (s.event t fun s => s.tunnelLapse face)

/-- SCAN_FRAME_ARRIVAL (R105). -/
def execScanFrameArrival (t : Micros) (bytes : List Byte) (parityOk : Bool) (s : State) : Host.Outcome State Fault Refusal :=
  .next (s.event t fun s => s.takeScan bytes parityOk)

/-- SENSOR_CYCLE_END (R114). -/
def execSensorCycleEnd (t : Micros) (s : State) : Host.Outcome State Fault Refusal :=
  .next (s.event t State.cycleEnd)

/-- OBSTRUCTION_REPORT (R115). -/
def execObstructionReport (t : Micros) (face : Face) (door : Nat) (s : State) : Host.Outcome State Fault Refusal :=
  .next (s.event t fun s => s.takeObstruction face door)

end Sys2Proof.Machine
end

