-- ==== Sys2Proof/Machine/LinkCommands.lean ====
section
/-! DEFINITION. The meanings of the inbound station-link frames, of the end of an outbound frame and of the silence timer
(Chapters 1 and 10). -/

namespace Sys2Proof.Machine

/-- INBOUND_FRAME_DAMAGED (R181, R183). -/
def execInboundFrameDamaged (t : Micros) (s : State) : Host.Outcome State Fault Refusal :=
  .next (s.event t State.damagedFrame)

/-- TRAIN_FRAME_DISCARDED (R182). -/
def execTrainFrameDiscarded (t : Micros) (s : State) : Host.Outcome State Fault Refusal :=
  .next (s.event t fun s => s.intactFrame.discardTrain)

/-- ARRIVAL (R11). -/
def execArrival (t : Micros) (face : Face) (body : List Byte) (s : State) : Host.Outcome State Fault Refusal :=
  .next (s.event t fun s => s.intactFrame.takeArrival face body)

/-- POSITION (R15). -/
def execPosition (t : Micros) (face : Face) (body : List Byte) (s : State) : Host.Outcome State Fault Refusal :=
  .next (s.event t fun s => s.intactFrame.takePosition face body)

/-- DEPARTURE (R13). -/
def execDeparture (t : Micros) (face : Face) (body : List Byte) (s : State) : Host.Outcome State Fault Refusal :=
  .next (s.event t fun s => s.intactFrame.takeDeparture face body)

/-- CLEARED (R14). -/
def execCleared (t : Micros) (face : Face) (body : List Byte) (s : State) : Host.Outcome State Fault Refusal :=
  .next (s.event t fun s => s.intactFrame.takeCleared face body)

/-- REQUEST_FRAME_RECEIVED (R182, R184). -/
def execRequestFrameReceived (t : Micros) (request : Request) (s : State) : Host.Outcome State Fault Refusal :=
  .next (s.event t fun s => s.intactFrame.joinIntake request)

/-- TRANSMIT_FRAME_END (R191). -/
def execTransmitFrameEnd (t : Micros) (s : State) : Host.Outcome State Fault Refusal :=
  .next (s.event t State.frameEnd)

/-- UPLINK_SILENCE_EXPIRY (R183). -/
def execUplinkSilenceExpiry (t : Micros) (s : State) : Host.Outcome State Fault Refusal :=
  .next (s.event t State.silenceLapse)

end Sys2Proof.Machine
end

