-- ==== Sys2Proof/Machine/ManageCommands.lean ====
section
/-! DEFINITION. The meanings of the management requests (Chapters 9 and 10). -/

namespace Sys2Proof.Machine

/-- REQUEST_UNDEFINED_KIND: refused with BAD_ARGUMENT (R182). -/
def execRequestUndefinedKind (t : Micros) (s : State) : Host.Outcome State Fault Refusal :=
  .next (s.event t fun s => s.takeRequest none fun r s => s.refuseUndefined r)

/-- WRITE_ENTRY (R172). -/
def execWriteEntry (t : Micros) (s : State) : Host.Outcome State Fault Refusal :=
  .next (s.event t fun s => s.takeRequest (some .writeEntry) State.takeWriteEntry)

/-- READ_ENTRY (R173). -/
def execReadEntry (t : Micros) (s : State) : Host.Outcome State Fault Refusal :=
  .next (s.event t fun s => s.takeRequest (some .readEntry) State.takeReadEntry)

/-- ACTIVATE (R174). -/
def execActivate (t : Micros) (s : State) : Host.Outcome State Fault Refusal :=
  .next (s.event t fun s => s.takeRequest (some .activate) State.takeActivate)

/-- READ_STATUS (R187). -/
def execReadStatus (t : Micros) (s : State) : Host.Outcome State Fault Refusal :=
  .next (s.event t fun s => s.takeRequest (some .readStatus) State.takeReadStatus)

/-- READ_DOOR (R187). -/
def execReadDoor (t : Micros) (s : State) : Host.Outcome State Fault Refusal :=
  .next (s.event t fun s => s.takeRequest (some .readDoor) State.takeReadDoor)

/-- SET_DEVICE (R186). -/
def execSetDevice (t : Micros) (s : State) : Host.Outcome State Fault Refusal :=
  .next (s.event t fun s => s.takeRequest (some .setDevice) State.takeSetDevice)

/-- READ_EVENTS (R189). -/
def execReadEvents (t : Micros) (s : State) : Host.Outcome State Fault Refusal :=
  .next (s.event t fun s => s.takeRequest (some .readEvents) State.takeReadEvents)

/-- SNAPSHOT_COUNTERS (R192). -/
def execSnapshotCounters (t : Micros) (s : State) : Host.Outcome State Fault Refusal :=
  .next (s.event t fun s => s.takeRequest (some .snapshotCounters) State.takeSnapshot)

/-- READ_COUNTERS (R192). -/
def execReadCounters (t : Micros) (s : State) : Host.Outcome State Fault Refusal :=
  .next (s.event t fun s => s.takeRequest (some .readCounters) State.takeReadCounters)

/-- CLEAR_COUNTERS (R193). -/
def execClearCounters (t : Micros) (s : State) : Host.Outcome State Fault Refusal :=
  .next (s.event t fun s => s.takeRequest (some .clearCounters) State.takeClear)

/-- SOFT_RESET (R194). -/
def execSoftReset (t : Micros) (evac : PerFace Level) (s : State) : Host.Outcome State Fault Refusal :=
  .next (s.event t fun s => s.takeRequest (some .softReset) (State.takeSoftReset evac))

end Sys2Proof.Machine
end

