-- ==== Sys2Proof/Machine/PowerCommands.lean ====
section
/-! DEFINITION. The meanings of the power and pin commands (R137, R201). -/

namespace Sys2Proof.Machine

/-- POWER_ON: the supply has settled, every block takes its power-on state (R195, R201). -/
def execPowerOn (t : Micros) (evac : PerFace Level) (s : State) : Host.Outcome State Fault Refusal :=
  .next ((s.advance t).powerUp evac)

/-- RESET_PIN_ASSERT: the part is held in reset (R201). -/
def execResetPinAssert (t : Micros) (s : State) : Host.Outcome State Fault Refusal :=
  .next ((s.advance t).assertPin)

/-- RESET_PIN_RELEASE: every block takes its reset-pin state (R195, R201). -/
def execResetPinRelease (t : Micros) (evac : PerFace Level) (s : State) : Host.Outcome State Fault Refusal :=
  .next ((s.advance t).releasePin evac)

/-- POWER_LOSS: the loop outputs are open while the part is unpowered (R201). -/
def execPowerLoss (t : Micros) (s : State) : Host.Outcome State Fault Refusal :=
  .next ((s.advance t).powerDown)

/-- EVAC_INPUT_CHANGE (R137, R201). -/
def execEvacInputChange (t : Micros) (face : Face) (level : Level) (s : State) : Host.Outcome State Fault Refusal :=
  .next (s.event t fun s => s.takeInput face level)

end Sys2Proof.Machine
end

