-- ==== Sys2Proof/Machine/TimerCommands.lean ====
section
/-! DEFINITION. The meanings of the timers and of the ends of timed work. -/

namespace Sys2Proof.Machine

/-- SUPERVISION_EXPIRY (R22). -/
def execSupervisionExpiry (t : Micros) (face : Face) (s : State) : Host.Outcome State Fault Refusal :=
  .next (s.event t fun s => s.supervisionLapse face)

/-- ALIGNMENT_COMPLETE (R30). -/
def execAlignmentComplete (t : Micros) (s : State) : Host.Outcome State Fault Refusal :=
  .next (s.event t State.completeAlignment)

/-- OPEN_TIMEOUT_EXPIRY (R66). -/
def execOpenTimeoutExpiry (t : Micros) (face : Face) (door : Nat) (s : State) : Host.Outcome State Fault Refusal :=
  .next (s.event t fun s => s.doorTimeout face door .openTimeout)

/-- CLOSE_TIMEOUT_EXPIRY (R66). -/
def execCloseTimeoutExpiry (t : Micros) (face : Face) (door : Nat) (s : State) : Host.Outcome State Fault Refusal :=
  .next (s.event t fun s => s.doorTimeout face door .closeTimeout)

/-- RECYCLE_DWELL_EXPIRY (R67). -/
def execRecycleDwellExpiry (t : Micros) (face : Face) (door : Nat) (s : State) : Host.Outcome State Fault Refusal :=
  .next (s.event t fun s => s.dwellLapse face door)

/-- HOLD_MAXIMUM_EXPIRY (R128). -/
def execHoldMaximumExpiry (t : Micros) (face : Face) (s : State) : Host.Outcome State Fault Refusal :=
  .next (s.event t fun s => s.holdMaximumLapse face)

/-- PARTNER_DWELL_EXPIRY (R127). -/
def execPartnerDwellExpiry (t : Micros) (face : Face) (s : State) : Host.Outcome State Fault Refusal :=
  .next (s.event t fun s => s.partnerDwellLapse face)

/-- PERIODIC_PROOF_EXPIRY (R162). -/
def execPeriodicProofExpiry (t : Micros) (face : Face) (s : State) : Host.Outcome State Fault Refusal :=
  .next (s.event t fun s => s.periodicExpiry face)

/-- VALIDATION_COMPLETE (R175, R176). -/
def execValidationComplete (t : Micros) (s : State) : Host.Outcome State Fault Refusal :=
  .next (s.event t State.endValidation)

/-- COPY_COMPLETE (R179). -/
def execCopyComplete (t : Micros) (s : State) : Host.Outcome State Fault Refusal :=
  .next (s.event t State.endCopy)

/-- SNAPSHOT_READY (R192). -/
def execSnapshotReady (t : Micros) (s : State) : Host.Outcome State Fault Refusal :=
  .next (s.event t State.snapshotDone)

/-- COUNTER_CLEAR_COMPLETE (R193). -/
def execCounterClearComplete (t : Micros) (s : State) : Host.Outcome State Fault Refusal :=
  .next (s.event t State.clearDone)

end Sys2Proof.Machine
end

