-- ==== Sys2Proof/Machine/Dispatch.lean ====
section
/-! DEFINITION. One arm for each command: one direct call of its meaning. -/

namespace Sys2Proof.Machine

/-- The effect of a command on everything but the queue. -/
def exec (i : Instr) (s : State) : Host.Outcome State Fault Refusal :=
  match i with
  | .powerOn t evac => Sys2Proof.Machine.execPowerOn t evac s
  | .resetPinAssert t => Sys2Proof.Machine.execResetPinAssert t s
  | .resetPinRelease t evac => Sys2Proof.Machine.execResetPinRelease t evac s
  | .evacInputChange t face level => Sys2Proof.Machine.execEvacInputChange t face level s
  | .inboundFrameDamaged t => Sys2Proof.Machine.execInboundFrameDamaged t s
  | .trainFrameDiscarded t => Sys2Proof.Machine.execTrainFrameDiscarded t s
  | .arrival t face body => Sys2Proof.Machine.execArrival t face body s
  | .position t face body => Sys2Proof.Machine.execPosition t face body s
  | .departure t face body => Sys2Proof.Machine.execDeparture t face body s
  | .cleared t face body => Sys2Proof.Machine.execCleared t face body s
  | .requestFrameReceived t request => Sys2Proof.Machine.execRequestFrameReceived t request s
  | .requestUndefinedKind t => Sys2Proof.Machine.execRequestUndefinedKind t s
  | .openFace t => Sys2Proof.Machine.execOpenFace t s
  | .closeFace t => Sys2Proof.Machine.execCloseFace t s
  | .reopenDoor t => Sys2Proof.Machine.execReopenDoor t s
  | .closeDoor t => Sys2Proof.Machine.execCloseDoor t s
  | .isolateDoor t => Sys2Proof.Machine.execIsolateDoor t s
  | .returnDoor t => Sys2Proof.Machine.execReturnDoor t s
  | .holdAdd t => Sys2Proof.Machine.execHoldAdd t s
  | .holdCancel t => Sys2Proof.Machine.execHoldCancel t s
  | .restore t => Sys2Proof.Machine.execRestore t s
  | .evacuate t => Sys2Proof.Machine.execEvacuate t s
  | .tunnel t => Sys2Proof.Machine.execTunnel t s
  | .writeEntry t => Sys2Proof.Machine.execWriteEntry t s
  | .readEntry t => Sys2Proof.Machine.execReadEntry t s
  | .activate t => Sys2Proof.Machine.execActivate t s
  | .readStatus t => Sys2Proof.Machine.execReadStatus t s
  | .readDoor t => Sys2Proof.Machine.execReadDoor t s
  | .setDevice t => Sys2Proof.Machine.execSetDevice t s
  | .readEvents t => Sys2Proof.Machine.execReadEvents t s
  | .snapshotCounters t => Sys2Proof.Machine.execSnapshotCounters t s
  | .readCounters t => Sys2Proof.Machine.execReadCounters t s
  | .clearCounters t => Sys2Proof.Machine.execClearCounters t s
  | .softReset t evac => Sys2Proof.Machine.execSoftReset t evac s
  | .transmitFrameEnd t => Sys2Proof.Machine.execTransmitFrameEnd t s
  | .uplinkSilenceExpiry t => Sys2Proof.Machine.execUplinkSilenceExpiry t s
  | .supervisionExpiry t face => Sys2Proof.Machine.execSupervisionExpiry t face s
  | .alignmentComplete t => Sys2Proof.Machine.execAlignmentComplete t s
  | .openTimeoutExpiry t face door => Sys2Proof.Machine.execOpenTimeoutExpiry t face door s
  | .closeTimeoutExpiry t face door => Sys2Proof.Machine.execCloseTimeoutExpiry t face door s
  | .recycleDwellExpiry t face door => Sys2Proof.Machine.execRecycleDwellExpiry t face door s
  | .obstructionReport t face door => Sys2Proof.Machine.execObstructionReport t face door s
  | .holdMaximumExpiry t face => Sys2Proof.Machine.execHoldMaximumExpiry t face s
  | .partnerDwellExpiry t face => Sys2Proof.Machine.execPartnerDwellExpiry t face s
  | .turnAnswer t face bytes parityOk => Sys2Proof.Machine.execTurnAnswer t face bytes parityOk s
  | .answerWindowExpiry t face => Sys2Proof.Machine.execAnswerWindowExpiry t face s
  | .lateFrameDiscarded t face => Sys2Proof.Machine.execLateFrameDiscarded t face s
  | .tunnelTimeout t face => Sys2Proof.Machine.execTunnelTimeout t face s
  | .scanFrameArrival t bytes parityOk => Sys2Proof.Machine.execScanFrameArrival t bytes parityOk s
  | .sensorCycleEnd t => Sys2Proof.Machine.execSensorCycleEnd t s
  | .periodicProofExpiry t face => Sys2Proof.Machine.execPeriodicProofExpiry t face s
  | .validationComplete t => Sys2Proof.Machine.execValidationComplete t s
  | .copyComplete t => Sys2Proof.Machine.execCopyComplete t s
  | .snapshotReady t => Sys2Proof.Machine.execSnapshotReady t s
  | .counterClearComplete t => Sys2Proof.Machine.execCounterClearComplete t s
  | .powerLoss t => Sys2Proof.Machine.execPowerLoss t s

end Sys2Proof.Machine
end

