-- ==== Sys2Proof/Safety.lean ====
section
/-! DEFINITION. The terms that the statements use: what a command is taken on and what it leaves alone, and what counts as a safe
state of the part. -/

namespace Sys2Proof

/-- The time at which a command's event falls (notes/assumptions/1.md). -/
def Instr.time : Instr → Micros
  | .powerOn t _ => t
  | .resetPinAssert t => t
  | .resetPinRelease t _ => t
  | .evacInputChange t _ _ => t
  | .inboundFrameDamaged t => t
  | .trainFrameDiscarded t => t
  | .arrival t _ _ => t
  | .position t _ _ => t
  | .departure t _ _ => t
  | .cleared t _ _ => t
  | .requestFrameReceived t _ => t
  | .requestUndefinedKind t => t
  | .openFace t => t
  | .closeFace t => t
  | .reopenDoor t => t
  | .closeDoor t => t
  | .isolateDoor t => t
  | .returnDoor t => t
  | .holdAdd t => t
  | .holdCancel t => t
  | .restore t => t
  | .evacuate t => t
  | .tunnel t => t
  | .writeEntry t => t
  | .readEntry t => t
  | .activate t => t
  | .readStatus t => t
  | .readDoor t => t
  | .setDevice t => t
  | .readEvents t => t
  | .snapshotCounters t => t
  | .readCounters t => t
  | .clearCounters t => t
  | .softReset t _ => t
  | .transmitFrameEnd t => t
  | .uplinkSilenceExpiry t => t
  | .supervisionExpiry t _ => t
  | .alignmentComplete t => t
  | .openTimeoutExpiry t _ _ => t
  | .closeTimeoutExpiry t _ _ => t
  | .recycleDwellExpiry t _ _ => t
  | .obstructionReport t _ _ => t
  | .holdMaximumExpiry t _ => t
  | .partnerDwellExpiry t _ => t
  | .turnAnswer t _ _ _ => t
  | .answerWindowExpiry t _ => t
  | .lateFrameDiscarded t _ => t
  | .tunnelTimeout t _ => t
  | .scanFrameArrival t _ _ => t
  | .sensorCycleEnd t => t
  | .periodicProofExpiry t _ => t
  | .validationComplete t => t
  | .copyComplete t => t
  | .snapshotReady t => t
  | .counterClearComplete t => t
  | .powerLoss t => t

namespace Machine

/-! ## Taking a request -/

/-- A running part whose oldest request is of a kind and may be handed on (R184). -/
def Takes (s : State) (r : Request) (rest : List Request) (k : Option RequestKind) : Prop :=
  s.running = true ∧ s.lif.intake = r :: rest ∧ r.kind? = k ∧ s.heldBack = false

/-- The reply of a request, ready to join the reply list (R185). -/
def replyTo (r : Request) (result : Result) (data : List Byte) : Reply :=
  { kind := r.kindByte, tag := r.tag, result := result, data := data, nextPart := 0 }

/-- A request has left the intake queue, and its reply has joined the reply list (R184, R185). -/
def Answered (s u : State) (r : Request) (rest : List Request) (result : Result) (data : List Byte) : Prop :=
  u.lif.intake = rest ∧ u.lif.replies = s.lif.replies ++ [replyTo r result data]

/-- The state as it stands when a command takes effect: its time has come, and the arbiter has used an idle link (R191). -/
def State.opened (s : State) (t : Micros) : State := (s.advance t).arbitrate

/-- The intake queue's rest, with a reply at the newest end of the reply list (R184, R185). -/
def State.answered (s : State) (rest : List Request) (x : Reply) : State :=
  s.modLif fun l => { l with intake := rest, replies := l.replies ++ [x] }

/-- A command answers `u` with a reply and the arbiter's turn, and does nothing else: `u` is the state as the request's effect
leaves it. -/
def Answers (c : Instr) (s u : State) (r : Request) (rest : List Request) (result : Result) (data : List Byte) : Prop :=
  exec c s = .next (u.answered rest (replyTo r result data)).arbitrate

/-- A command refuses its request, and leaves the part's state as it was (R3). -/
def Refuses (c : Instr) (s : State) (r : Request) (rest : List Request) (reason : Reason) : Prop :=
  Answers c s (s.opened c.time) r rest (.refused reason) []

/-! ## Frames -/

/-- What a face's blocks hold, but for its Proof Unit. -/
structure FaceBlocks where
  berth : Berth
  doors : List Door
  deferral : Deferral
  reports : List ObstructionReport
  line : DoorLine
  release : Release
  deriving DecidableEq, Repr

/-- What the part holds beside the Link Interface, the Proof Units and the clock. -/
structure Blocks where
  powered : Bool
  resetPin : Bool
  faces : PerFace FaceBlocks
  holds : Vector (Option HoldEntry) 8
  aln : Engine
  gap : GapMonitor
  tbs : TableStore
  pending : List Instr
  deriving DecidableEq, Repr

/-- A face's blocks but for its Proof Unit. -/
def FaceState.blocks (x : FaceState) : FaceBlocks := ⟨x.berth, x.doors, x.deferral, x.reports, x.line, x.release⟩

/-- What a state holds beside the Link Interface, the Proof Units and the clock: the frame of most statements. -/
def State.blocks (s : State) : Blocks :=
  ⟨s.powered, s.resetPin, s.faces.map FaceState.blocks, s.holds, s.aln, s.gap, s.tbs, s.pending⟩

/-- The blocks of one face changed. -/
def Blocks.modFace (b : Blocks) (f : Face) (g : FaceBlocks → FaceBlocks) : Blocks := { b with faces := b.faces.modify f g }

/-- A TRAIN telegram refused: counted, its kind and reason kept, and nothing else changed in the blocks; no request is touched and no
event flag is set (R10). -/
def RefusedTelegram (c : Instr) (s : State) (f : Face) (k : TelegramKind) (reason : Reason) : Prop :=
  ∃ u, exec c s = .next u ∧ u.lif.intake = s.lif.intake ∧ u.lif.replies = s.lif.replies ∧ u.lif.flags = s.lif.flags ∧
    u.blocks = s.blocks.modFace f fun b =>
      { b with berth := { b.berth with
          lastRefusal := some (k, reason), telegramsRefused := s.bump b.berth.telegramsRefused } }

/-- A door record whose face's enable set has been emptied: not enabled, and no OPEN in its slot (R52). -/
def Door.disabled (d : Door) : Door :=
  { d with enabled := false, link := { d.link with slot := if d.slotCommand = some .openCmd then none else d.link.slot } }

/-- A door record after the acknowledgement that a status carries, if it carries one: the slot is empty, and the timeout of an OPEN or a
CLOSE starts where the status does not already report the command's end (R51, R90). -/
def Door.acked (d : Door) (ctx : DoorContext) (st : Status) : Door :=
  match d.link.slot with
  | none => d
  | some c =>
    if c.seq = some st.echo then
      { d with
        link := { d.link with slot := none }
        timer :=
          if c.command = .openCmd ∧ (d.state = .opening ∨ d.state = .recycling) ∧ st.position ≠ .opened then
            some ⟨.openTimeout, ctx.ms + ctx.openTimeout⟩
          else if c.command = .closeCmd ∧ d.state = .closing ∧ st.position ≠ .closedLocked then
            some ⟨.closeTimeout, ctx.ms + ctx.closeTimeout⟩
          else d.timer }
    else d

/-- A command that brings the good frame of a turn: the door record becomes that of the outcome `o`, but for a first send that the next
turn may make; the outcome's events and its latch are taken; a tunnel turn of the outstanding exchange ends it with DONE and the
unit's reply; the next turn begins; nothing else of the part changes (R81, R88, R98, R134). -/
def GivesStatus (c : Instr) (s : State) (f : Face) (x : Turn) (d : Door) (o : DoorOutcome) (echo : BitVec 4)
    (reply : Option (List Byte)) : Prop :=
  ∃ u, exec c s = .next u ∧ u.lif.intake = s.lif.intake ∧
    (∃ d', u.findDoor f d.number = some d' ∧ { d' with link := o.door.link } = o.door ∧ d'.slotCommand = o.door.slotCommand ∧
      d'.link.badCount = 0 ∧ d'.link.lost = false ∧ d'.link.base = some echo ∧ d'.link.badFrames = d.link.badFrames) ∧
    (∀ y ∈ (s.face f).doors, y.number ≠ d.number → ∃ y', u.findDoor f y.number = some y' ∧ { y' with link := y.link } = y ∧
      y'.slotCommand = y.slotCommand ∧ y'.link.base = y.link.base ∧ y'.link.lost = y.link.lost) ∧
    (∀ k ∈ o.events, k ∈ u.lif.flags.get (.face f)) ∧
    (DoorReport.latchSet ∈ o.reports → (u.face f).release.seq = (s.face f).release.seq + 1 ∧
      EventKind.manualRelease ∈ u.lif.flags.get (.face f)) ∧
    (∃ x', (u.face f).line.turn = some x' ∧ max s.now c.time + 800 < x'.windowEnd) ∧
    (x.kind = .tunnel → ∀ y, (s.face f).line.tunnel = some y → y.sent = true →
      (u.face f).line.tunnel = none ∧
      u.lif.replies = s.lif.replies ++ [⟨0x30, y.tag, .done, u8 (reply.getD []).length ++ reply.getD [], 0⟩]) ∧
    (x.kind ≠ .tunnel → u.lif.replies = s.lif.replies) ∧
    (u.face f).berth = (s.face f).berth ∧ (u.face f).deferral = (s.face f).deferral ∧ u.holds = s.holds ∧ u.aln = s.aln ∧
    u.gap = s.gap ∧ u.tbs = s.tbs

/-- A deferral record whose deferral has ended at a time with a cause (R127 to R129, notes/assumptions/30.md). -/
def Deferral.ended (d : Deferral) (cause : EndCause) (now : Millis) : Deferral :=
  { d with
    used := none, start := none, maximum := none, partnerSeen := false, partnerTimer := none, lastEnd := some (cause, now) }

/-- The ring entry of a reported position and speed (R16). -/
def sampleEntry (p : FaceParams) (position speed : Nat) : Sample :=
  { position := if position < p.extentLow then p.extentLow else if p.extentHigh < position then p.extentHigh else position
    speed := min 30000 speed
    clamped := decide (position < p.extentLow) || decide (p.extentHigh < position) }

/-- The berth record after an accepted sample, before the tests of its state: the last sample time, the clamp's count, the ring and
the supervision timer (R15 to R17, R22). -/
def Berth.sampled (b : Berth) (now : Millis) (p : FaceParams) (x : Sample) (clamps : Counter) : Berth :=
  { b with
    lastSample := some now, clampedSamples := if x.clamped then clamps else b.clampedSamples
    train := b.train.map fun t => { t with ring := if t.ring.length < 4 then t.ring ++ [x] else t.ring.tail ++ [x] }
    supervision := some (now + p.supervision) }

/-- A POSITION telegram that a face accepts as a sample: configured, not VACANT, fields in range, 40 ms or more after the last one
(R15). `x` is its ring entry and `now` its time. -/
def SampleAccepted (s : State) (t : Micros) (f : Face) (body : List Byte) (p : FaceParams) (x : Sample) : Prop :=
  s.running = true ∧ s.params? f = some p ∧ (s.face f).berth.state ≠ .vacant ∧
    (∃ position speed, parsePosition body = some (position, speed) ∧ x = sampleEntry p position speed) ∧
    ∀ l, (s.face f).berth.lastSample = some l → l + 40 ≤ (s.advance t).ms

/-- No bank is staged that a face would adopt on becoming VACANT (R177). -/
def NoAdoption (s : State) (f : Face) : Prop :=
  ∀ b, s.tbs.staged = some b → s.tbs.active.get f = some b ∨ (s.face f).release.state ≠ .normal

/-- The berth record of a face that has become VACANT (R5, R6, R14, R22). -/
def Berth.emptied (b : Berth) : Berth :=
  { b with state := .vacant, train := none, stop := none, stopError := none, enable := [], pairing := [], dwellStart := none,
           supervision := none }

/-! ## Fresh states -/

/-- A face at power-on and the reset pin: no train, no door record, no deferral, an idle line, NORMAL, NOT_HELD with the loop output
open (R23, R77, R100, R125, R150, R164). -/
def freshFace (level : Level) (now : Millis) (x : FaceState) : Prop :=
  x.berth = { state := .vacant, train := none, stop := none, stopError := none, enable := [], pairing := [], ticket := 0,
              dwellStart := none, supervision := none, lastSample := none, lastRefusal := none, policed := 0,
              clampedSamples := 0, telegramsRefused := 0 } ∧
    x.doors = [] ∧ x.reports = [] ∧
    (x.deferral.used = none ∧ x.deferral.start = none ∧ x.deferral.maximum = none ∧ x.deferral.partnerTimer = none ∧
      x.deferral.partnerView = .notDwelling ∧ x.deferral.lastEnd = none ∧ x.deferral.count = 0) ∧
    x.line = { running := false, turn := none, rotation := none, tunnel := none } ∧
    x.release = { state := .normal, seq := 0, latch := false, input := level, set := [], lastRestore := none, refused := 0 } ∧
    (x.proof.held = false ∧ x.proof.blockers = ⟨true, false, false, false, false⟩ ∧ x.proof.active = noConditions ∧
      x.proof.withhold = noConditions ∧ x.proof.holdClosed = noConditions ∧ x.proof.loopClosed = false ∧
      x.proof.alertDriven = false ∧ x.proof.periodicAt = now + 200 ∧ x.proof.pending = none ∧ x.proof.losses = 0)

/-- The Link Interface at power-on and the reset pin (R183, R186, R191, R195). -/
def freshLink (cause : ResetCause) (now : Millis) (l : LinkInterface) : Prop :=
  l.intake = [] ∧ l.replies = [] ∧ l.changed = [] ∧ l.sending = none ∧ l.flags = ⟨[.reset], [], []⟩ ∧
    l.notices = ⟨some [.reset], none, none⟩ ∧ l.lastNotice = .face .B ∧ l.badCount = 0 ∧ l.goodStreak = 0 ∧
    l.silence = some (now + 2000) ∧ l.degraded = false ∧ l.resetCause = cause ∧ l.errorLimit = 4 ∧ l.afterReset = true ∧
    l.routes = defaultRoutes ∧ l.uplinkErrors = 0 ∧ l.framesDiscarded = 0 ∧ l.requestsDropped = 0 ∧ l.snapshot = none ∧
    l.preparing = none ∧ l.clearing = none

/-- The shared blocks at power-on and the reset pin (R31, R104, R118, R122, R166). -/
def freshShared (u : State) : Prop :=
  (∀ i : Fin 8, u.holds[i] = none) ∧
    (u.aln.inflight = none ∧ u.aln.waiting = ⟨none, none⟩ ∧ u.aln.computations = ⟨0, 0⟩ ∧ u.aln.withdrawn = ⟨0, 0⟩) ∧
    (u.gap.cycle = 0 ∧ u.gap.cycleStart = u.now ∧ u.gap.zones = ⟨[], []⟩ ∧ u.gap.heads.map (fun h => h.slot) = List.range 16 ∧
      ∀ h ∈ u.gap.heads, h.serves = ⟨false, false⟩ ∧ h.state = .unused ∧ h.window = [] ∧ h.missingStreak = 0 ∧
        h.goodStreak = 0 ∧ h.missingScans = 0) ∧
    (u.tbs.bank0.state = .empty ∧ u.tbs.bank1.state = .empty ∧ u.tbs.active = ⟨none, none⟩ ∧ u.tbs.edit = some .b0 ∧
      u.tbs.staged = none ∧ u.tbs.validation = none ∧ u.tbs.copy = none ∧
      ∀ b, ∀ f, ((u.tbs.bank b).tables.params.get f = none ∧ (∀ i : Fin 32, ((u.tbs.bank b).tables.doors.get f)[i] = none)) ∧
        (∀ i : Fin 16, (u.tbs.bank b).tables.profiles[i] = none) ∧
        (∀ i : Fin 32, (u.tbs.bank b).tables.consist[i] = MatchEntry.absent) ∧
        ∀ i : Fin 64, (u.tbs.bank b).tables.zones[i] = none)

/-- Every block in its power-on and reset-pin state. -/
def freshState (cause : ResetCause) (evac : PerFace Level) (u : State) : Prop :=
  (∀ f, freshFace (evac.get f) u.ms (u.face f)) ∧ freshLink cause u.ms u.lif ∧ freshShared u

/-! ## Safe states -/

/-- Proof is HELD exactly without blockers, and the loop output of a running part is closed exactly while it holds; the loop
outputs of any other part are open (R153, R160). -/
def proofSafe (s : State) : Prop :=
  ∀ f, (s.face f).proof.held = (s.face f).proof.blockers.isEmpty ∧
    (s.face f).proof.loopClosed = ((s.face f).proof.held && s.running)

/-- The withhold set holds the active conditions whose action is not REPORT, the hold-closed set those whose action is HOLD_CLOSED, by the
Face Parameter Record of the face's active bank; both are empty for a face without one (R157, R158). -/
def setsFormed (s : State) : Prop :=
  ∀ f c, (s.face f).proof.withhold.get c =
      ((s.face f).proof.active.get c && (s.params? f).any fun p => decide (p.actions.get c ≠ .report)) ∧
    (s.face f).proof.holdClosed.get c =
      ((s.face f).proof.active.get c && (s.params? f).any fun p => decide (p.actions.get c = .holdClosed))

/-- The requirements of R154 that fail for a face as the state stands: a Face Parameter Record in its active bank; every door CLOSED with
isolation NONE, or ISOLATED and either locked out or closed and locked by its last status (R155); every zone in force CLEAR; release
NORMAL; an empty withhold set. -/
def failingRequirements (s : State) (f : Face) : Blockers :=
  { unconfigured := (s.params? f).isNone
    doors := (s.face f).doors.any fun d =>
      !((decide (d.state = .closed) && decide (d.isolation = .none)) ||
        (decide (d.state = .isolated) && (decide (d.isolation = .lockedOut) ||
          (decide (d.isolation = .localSwitch) &&
            match d.lastStatus with | some st => decide (st.position = .closedLocked) | none => false))))
    zones := (s.gap.zones.get f).any fun z => decide (z.state ≠ .clear)
    release := decide ((s.face f).release.state ≠ .normal)
    forcing := (s.face f).proof.withhold.nonempty }

/-- The blockers of a running part are the requirements that fail in the state as it stands, not in an earlier one (R154, R156). -/
def blockersCurrent (s : State) : Prop := s.running = true → ∀ f, (s.face f).proof.blockers = failingRequirements s f

/-- The enable set is empty unless the berth is STOPPED or DWELLING, the doors' enabled fields follow it, and an OPEN waits only
in the slot of a door of the set (R7, R52). -/
def enableSafe (s : State) : Prop :=
  ∀ f, ((s.face f).berth.enable ≠ [] → (s.face f).berth.state = .stopped ∨ (s.face f).berth.state = .dwelling) ∧
    ∀ d ∈ (s.face f).doors, d.enabled = (s.face f).berth.enable.contains d.number ∧
      (d.slotCommand = some .openCmd → d.enabled = true)

/-- A face in NORMAL has an empty release set and a clear evacuation latch; the latch is clear in RESTORING too (R133, R145). -/
def releaseSafe (s : State) : Prop :=
  ∀ f, ((s.face f).release.state = .normal → (s.face f).release.set = [] ∧ (s.face f).release.latch = false) ∧
    ((s.face f).release.state = .restoring → (s.face f).release.latch = false)

/-- The release set mirrors the marks of the door records: each door stands in it once, in increasing number, with exactly the marks its
record bears (R132, R133). -/
def marksMirrored (s : State) : Prop :=
  ∀ f, ((s.face f).release.set.map fun m => m.door).Pairwise (· < ·) ∧
    (∀ m ∈ (s.face f).release.set, m.latched = true ∨ m.evacOpened = true) ∧
    ∀ n, ((∃ m ∈ (s.face f).release.set, m.door = n ∧ m.latched = true) ↔
        ∃ d ∈ (s.face f).doors, d.number = n ∧ d.latched = true) ∧
      ((∃ m ∈ (s.face f).release.set, m.door = n ∧ m.evacOpened = true) ↔
        ∃ d ∈ (s.face f).doors, d.number = n ∧ d.evacOpened = true)

/-- The bank that may be edited and the bank that a copy writes are active for neither face, at most one of editing, staging and
copying goes on, and a validation judges the edit bank (R166, R167, R174, R178, R179). -/
def bankSafe (s : State) : Prop :=
  (∀ b, s.tbs.edit = some b → s.tbs.staged = none ∧ s.tbs.copy = none ∧ ∀ f, s.tbs.active.get f ≠ some b) ∧
    (∀ b, s.tbs.staged = some b → s.tbs.copy = none ∧ ¬∀ f, s.tbs.active.get f = some b) ∧
    (∀ v, s.tbs.validation = some v → s.tbs.edit = some v.bank) ∧
    (∀ c, s.tbs.copy = some c → c.written = c.source.other ∧ ∀ f, s.tbs.active.get f = some c.source)

/-- The intake queue holds at most 8 requests, and the replies held and awaited together number at most 8, so that every reply finds
a place (R184, R185). -/
def queueSafe (s : State) : Prop := s.lif.intake.length ≤ 8 ∧ s.lif.replies.length + s.timedRequests ≤ 8

/-- A running part's alert outputs are driven exactly while an alert-routed flag of the face or the device is set; any other part's
are released (R163, R201). -/
def alertSafe (s : State) : Prop := ∀ f, (s.face f).proof.alertDriven = (alertDue s.lif f && s.running)

/-- A zone is CLEAR only while its head is LIVE, and a LIVE head's window holds 8 scans (R109, R113). -/
def gapSafe (s : State) : Prop :=
  (∀ f, ∀ z ∈ s.gap.zones.get f, z.state = .clear →
      (s.gap.heads.find? fun h => h.slot = z.head).map (fun h => h.state) = some .live) ∧
    ∀ h ∈ s.gap.heads, h.goodStreak ≤ h.window.length ∧ h.window.length ≤ 8 ∧ (h.state = .live → h.window.length = 8)

/-- Door records stand in strictly increasing door number, from 1 to 32 (R47, R169). -/
def doorsOrdered (s : State) : Prop :=
  ∀ f, ((s.face f).doors.map fun d => d.number).Pairwise (· < ·) ∧ ∀ d ∈ (s.face f).doors, 1 ≤ d.number ∧ d.number ≤ 32

end Machine

end Sys2Proof
end

