-- ==== Sys2Proof/Certificates/Slice0/Obligations.lean ====
section
/-! DEFINITION. The statements for the provers. What a statement calls `blocks` is everything but the Link Interface, the Proof Units and
the clock; a command's own text says what the uplink and the Proof Units take from it. -/

open Sys2Proof Sys2Proof.Machine

/-! ## The queue of commands -/

/-- A step takes the command at the front of the queue and runs it with the queue's rest. That the block idles on an empty queue is
the model's choice (notes/assumptions/2.md). -/
def Obligations.StepTakesTheFrontCommand : Prop :=
  ∀ s : State, (s.pending = [] → step s = .next s) ∧
    ∀ (c : Instr) (rest : List Instr), s.pending = c :: rest → step s = exec c { s with pending := rest }

/-- RESET_PIN_ASSERT and POWER_LOSS open the loop outputs, release the alert outputs and silence the lines, and change nothing else.
While the part is unpowered or held in reset every command but the four of the supply and the pin changes the clock alone: frames
that arrive are discarded and not counted (R160, R201). The alert outputs and the lines of an unpowered part, and the end of the frame
being sent, are the model's choice (notes/assumptions/27.md); that every other command, not frames alone, changes only the clock is read
from R201 by inference (notes/assumptions/6.md). -/
def Obligations.HeldInResetNothingHappens : Prop :=
  (∀ (s : State) (t : Micros),
    (∃ u, exec (.resetPinAssert t) s = .next u ∧ u.running = false ∧ u.lif = { s.lif with sending := none } ∧
      (∀ f, (u.face f).proof = { (s.face f).proof with loopClosed := false, alertDriven := false } ∧
        (u.face f).line.turn = none) ∧
      u.blocks = { s.blocks with
        resetPin := true, faces := s.blocks.faces.map fun b => { b with line := { b.line with turn := none } } }) ∧
    (∃ u, exec (.powerLoss t) s = .next u ∧ u.running = false ∧ u.lif = { s.lif with sending := none } ∧
      (∀ f, (u.face f).proof = { (s.face f).proof with loopClosed := false, alertDriven := false } ∧
        (u.face f).line.turn = none) ∧
      u.blocks = { s.blocks with
        powered := false, faces := s.blocks.faces.map fun b => { b with line := { b.line with turn := none } } })) ∧
  (∀ (c : Instr) (s : State), s.running = false → (∀ t e, c ≠ .powerOn t e) → (∀ t, c ≠ .resetPinAssert t) →
    (∀ t e, c ≠ .resetPinRelease t e) → (∀ t, c ≠ .powerLoss t) → exec c s = .next (s.advance c.time))

/-! ## Power, pins and resets -/

/-- POWER_ON, and RESET_PIN_RELEASE of a powered part, put every block into its power-on and reset-pin state, with the last reset
cause POWER_ON or PIN and the evacuation inputs as found (R23, R31, R77, R100, R118, R150, R164, R166, R195, R201). That a pin released while the
part is unpowered changes the pin alone is the model's reading (notes/assumptions/33.md). -/
def Obligations.PowerOnAndPinReleaseResetEveryBlock : Prop :=
  ∀ (s : State) (t : Micros) (evac : PerFace Level),
    (∃ u, exec (.powerOn t evac) s = .next u ∧ freshState .powerOn evac u ∧ u.powered = true ∧ u.resetPin = s.resetPin ∧
      u.pending = s.pending) ∧
    (s.powered = true → ∃ u, exec (.resetPinRelease t evac) s = .next u ∧ freshState .pin evac u ∧ u.powered = true ∧
      u.resetPin = false ∧ u.pending = s.pending) ∧
    (s.powered = false → exec (.resetPinRelease t evac) s = .next { s.advance t with resetPin := false })

/-- SOFT_RESET returns every block. The Link Interface empties its lists without a reply, sets RESET and the after-reset mark, and keeps
routes, error limit and snapshot; both berths are VACANT with tickets and counters kept; the engine is empty; a new sensor cycle starts,
heads in use and zones are UNKNOWN; a validation is dropped and a copy begun again, the banks kept; holds and release records are kept.
Where neither an adoption nor an evacuation follows in the step, each door record keeps latch, marks, counters and lock-out and is
RELEASED, ISOLATED or UNKNOWN, CLOSING where a restore close is asked for again; its link starts afresh; the line's next turn polls the
smallest drop address; the Proof Unit keeps its losses, and proof is held only by a NORMAL face without zones whose every door is locked
out (R24, R31, R78, R101, R104, R119, R122, R125, R151, R164, R180, R194). These are the model's choices: the order inside the step
(notes/assumptions/25.md), that obstruction reports on their way are discarded (notes/assumptions/19.md), and that the deferral's start
and partner-seen mark are cleared (notes/assumptions/30.md). -/
def Obligations.SoftResetReturnsEveryBlock : Prop :=
  (∀ (s : State) (t : Micros) (evac : PerFace Level) (r : Request) (rest : List Request),
    Takes s r rest (some .softReset) → r.body = [] →
    ∃ u, exec (.softReset t evac) s = .next u ∧
      (u.lif.intake = [] ∧ u.lif.replies = [] ∧ EventKind.reset ∈ u.lif.flags.device ∧ u.lif.badCount = 0 ∧
        u.lif.goodStreak = 0 ∧ u.lif.degraded = false ∧ u.lif.silence = some (u.ms + 2000) ∧ u.lif.resetCause = .soft ∧
        u.lif.afterReset = true ∧ u.lif.routes = s.lif.routes ∧ u.lif.errorLimit = s.lif.errorLimit ∧
        u.lif.snapshot = s.lif.snapshot ∧ u.lif.preparing = none) ∧
      (∀ f, (u.face f).berth = { (s.face f).berth with
          state := .vacant, train := none, stop := none, stopError := none, enable := [], pairing := [], dwellStart := none,
          supervision := none, lastSample := none, lastRefusal := none } ∧
        (u.face f).reports = [] ∧ (u.face f).deferral.used = none ∧ (u.face f).deferral.lastEnd = (s.face f).deferral.lastEnd ∧
        (u.face f).release.seq = (s.face f).release.seq ∧ (u.face f).release.input = evac.get f) ∧
      u.aln = { s.aln with inflight := none, waiting := ⟨none, none⟩ } ∧
      (u.gap.cycle = s.gap.cycle + 1 ∧ u.gap.cycleStart = u.now) ∧ u.tbs.validation = none ∧ u.holds = s.holds) ∧
  (∀ (s : State) (t : Micros) (evac : PerFace Level) (r : Request) (rest : List Request), doorsOrdered s →
    Takes s r rest (some .softReset) → r.body = [] →
    ∃ u, exec (.softReset t evac) s = .next u ∧
      u.gap.heads = s.gap.heads.map (fun h =>
        if h.serves.a = true ∨ h.serves.b = true then
          { h with state := .unknown, window := [], missingStreak := 0, goodStreak := 0, scan := .empty }
        else { h with scan := .empty }) ∧
      u.gap.zones = s.gap.zones.map (fun zs => zs.map fun z => { z with state := .unknown, metric := none }) ∧
      ((∀ f, NoAdoption s f) → u.tbs = { s.tbs with
        validation := none, copy := s.tbs.copy.map fun c => { c with beganAt := u.ms } }) ∧
      ∀ f, NoAdoption s f →
        evac.get f = .deasserted ∨ s.configured f = false ∨ (s.face f).release.state = .evacuating →
        let x := s.face f
        let y := u.face f
        (y.doors = x.doors.map fun d =>
          let z : Door := { d with
            state := if d.latched = true then .released else if d.isolation = .lockedOut then .isolated else .unknown
            isolation := if d.isolation = .lockedOut then .lockedOut else .none
            enabled := false, recycleCount := 0, lastStatus := none, timer := none
            link := { d.link with badCount := 0, lost := false, base := none, lastIssued := none, slot := none } }
          if x.release.state = .restoring ∧ (d.latched = true ∨ d.evacOpened = true ∧ d.isolation ≠ .lockedOut) then
            { z with state := .closing, link := { z.link with slot := some ⟨.closeCmd, .routine, none, 4⟩ } }
          else z) ∧
        y.deferral = { x.deferral with
          used := none, start := none, maximum := none, partnerSeen := false, partnerTimer := none
          partnerView := .notDwelling } ∧
        (s.configured f = false → y.line = { running := false, turn := none, rotation := none, tunnel := none }) ∧
        (s.configured f = true → ∀ d ∈ x.doors, (∀ e ∈ x.doors, d.drop ≤ e.drop) →
          y.line = {
            running := true, rotation := some d.drop, tunnel := none
            turn := some { drop := d.drop, kind := .poll, carried := .nothing 0, orphan := false
                           windowEnd := max s.now t + dropFrameTime d.drop (.nothing 0) + 800 } }) ∧
        y.release = { x.release with input := evac.get f } ∧
        (y.proof.losses = x.proof.losses ∧ y.proof.pending = none ∧ y.proof.periodicAt = u.ms + 200 ∧
          y.proof.active = noConditions ∧ y.proof.withhold = noConditions ∧ y.proof.holdClosed = noConditions ∧
          y.proof.stalledCount = 0 ∧ y.proof.heldCount = 0 ∧ y.proof.loopClosed = y.proof.held ∧
          (y.proof.held = true ↔ s.configured f = true ∧ x.release.state = .normal ∧ s.gap.zones.get f = [] ∧
            ∀ d ∈ x.doors, d.isolation = .lockedOut ∧ d.latched = false)))

/-! ## The uplink's health and the intake queue -/

/-- A damaged frame counts in UPLINK_ERRORS, raises the bad count to at most 15, ends the good streak and degrades the uplink at the error
limit. An intact frame, be it a TRAIN telegram taken or refused, a request frame, or a TRAIN frame that is discarded and counted, clears
the bad count, restarts the silence timer for 2,000 ms and ends UPLINK_DEGRADED at a streak of 8. The silence timer's expiry degrades the uplink (R181 to R183); that the timer
then stands stopped is the model's reading (notes/assumptions/34.md). -/
def Obligations.FramesAndSilenceDecideTheUplinksHealth : Prop :=
  (∀ (s : State) (t : Micros), s.running = true →
    ∃ u, exec (.inboundFrameDamaged t) s = .next u ∧ u.lif.uplinkErrors = s.bump s.lif.uplinkErrors ∧
      u.lif.badCount = min 15 (s.lif.badCount + 1) ∧ u.lif.goodStreak = 0 ∧
      u.lif.degraded = (s.lif.degraded || decide (s.lif.errorLimit ≤ min 15 (s.lif.badCount + 1))) ∧
      (s.lif.degraded = false → u.lif.degraded = true →
        EventKind.uplinkDegraded ∈ u.lif.flags.device ∧ ∀ f, (u.face f).proof.active.uplinkDegraded = true) ∧
      u.lif.intake = s.lif.intake ∧ u.lif.replies = s.lif.replies ∧ u.lif.silence = s.lif.silence ∧ u.blocks = s.blocks) ∧
  (∀ (s : State) (t : Micros), s.running = true →
    ∃ u, exec (.trainFrameDiscarded t) s = .next u ∧ u.lif.framesDiscarded = s.bump s.lif.framesDiscarded ∧
      u.lif.badCount = 0 ∧ u.lif.goodStreak = min 8 (s.lif.goodStreak + 1) ∧ u.lif.silence = some (u.ms + 2000) ∧
      u.lif.degraded = (s.lif.degraded && decide (s.lif.goodStreak < 7)) ∧
      (s.lif.degraded = true → 7 ≤ s.lif.goodStreak → ∀ f, (u.face f).proof.active.uplinkDegraded = false) ∧
      u.lif.intake = s.lif.intake ∧ u.lif.replies = s.lif.replies ∧ u.blocks = s.blocks) ∧
  (∀ (s : State) (t : Micros) (f : Face) (body : List Byte) (r : Request) (c : Instr), s.running = true →
    c = .arrival t f body ∨ c = .position t f body ∨ c = .departure t f body ∨ c = .cleared t f body ∨
      c = .requestFrameReceived t r →
    ∃ u, exec c s = .next u ∧ u.lif.badCount = 0 ∧ u.lif.goodStreak = min 8 (s.lif.goodStreak + 1) ∧
      u.lif.silence = some (u.ms + 2000) ∧ u.lif.degraded = (s.lif.degraded && decide (s.lif.goodStreak < 7)) ∧
      (s.lif.degraded = true → 7 ≤ s.lif.goodStreak → ∀ g, (u.face g).proof.active.uplinkDegraded = false) ∧
      u.lif.uplinkErrors = s.lif.uplinkErrors) ∧
  (∀ (s : State) (t : Micros) (e : Millis), s.running = true → s.lif.silence = some e → e ≤ max s.now t / 1000 →
    ∃ u, exec (.uplinkSilenceExpiry t) s = .next u ∧ u.lif.silence = none ∧ u.lif.goodStreak = 0 ∧ u.lif.degraded = true ∧
      u.lif.badCount = s.lif.badCount ∧
      (s.lif.degraded = false → EventKind.uplinkDegraded ∈ u.lif.flags.device ∧
        ∀ f, (u.face f).proof.active.uplinkDegraded = true) ∧
      u.lif.intake = s.lif.intake ∧ u.lif.replies = s.lif.replies ∧ u.blocks = s.blocks)

/-- An intact request frame joins the intake queue at its newest end while fewer than 8 are held; otherwise it is dropped without a
reply, counted, and INTAKE_OVERRUN is raised (R184). -/
def Obligations.RequestFrameJoinsTheIntakeQueue : Prop :=
  ∀ (s : State) (t : Micros) (r : Request), s.running = true →
    ∃ u, exec (.requestFrameReceived t r) s = .next u ∧ u.lif.replies = s.lif.replies ∧ u.blocks = s.blocks ∧
      (s.lif.intake.length < 8 → u.lif.intake = s.lif.intake ++ [r] ∧ u.lif.requestsDropped = s.lif.requestsDropped) ∧
      (8 ≤ s.lif.intake.length → u.lif.intake = s.lif.intake ∧ u.lif.requestsDropped = s.bump s.lif.requestsDropped ∧
        EventKind.intakeOverrun ∈ u.lif.flags.device)

/-! ## The transmit arbiter -/

/-- With the link idle the arbiter begins the first of: the oldest changed-proof telegram; the oldest reply, filled in with the
status summary as it stands and clearing the after-reset mark; the next notice of the rotation, whose record becomes absent;
the pending periodic telegram formed earlier. A frame begun is sent whole, and the blocks are left alone (R185, R190,
R191). That a telegram or a notice leaves its place, and the after-reset mark clears, as the sending begins is read from the rules by
inference (notes/assumptions/10.md); the face field of a reply is the model's choice (notes/assumptions/47.md). -/
def Obligations.ArbiterFollowsItsPriorities : Prop :=
  ∀ s : State,
    (s.lif.sending ≠ none → s.arbitrate = s) ∧ s.arbitrate.blocks = s.blocks ∧
    (s.lif.sending = none → ∀ p rest, s.lif.changed = p :: rest →
      s.arbitrate.lif.sending = some ⟨.changed, proofFrame p⟩ ∧ s.arbitrate.lif.changed = rest) ∧
    (s.lif.sending = none → s.lif.changed = [] → ∀ r rest, s.lif.replies = r :: rest →
      s.arbitrate.lif.sending = some ⟨.reply (r.isLast r.nextPart), s.replyFrame r⟩ ∧ s.arbitrate.lif.replies = r :: rest ∧
        s.arbitrate.lif.afterReset = false) ∧
    (s.lif.sending = none → s.lif.changed = [] → s.lif.replies = [] → ∀ c kinds, s.lif.notices.get c = some kinds →
      (∀ x, x ≠ c → (s.lif.notices.get x).isSome → c = State.nextScope s.lif.lastNotice ∨
        (c = State.nextScope (State.nextScope s.lif.lastNotice) ∧ x = s.lif.lastNotice)) →
      s.arbitrate.lif.sending = some ⟨.notice, noticeFrame c kinds⟩ ∧ s.arbitrate.lif.notices.get c = none ∧
        s.arbitrate.lif.lastNotice = c) ∧
    (s.lif.sending = none → s.lif.changed = [] → s.lif.replies = [] → (∀ c, s.lif.notices.get c = none) →
      ∀ f p, (s.face f).proof.pending = some p → (∀ q, (s.face f.partner).proof.pending = some q → p.formedAt < q.formedAt) →
      s.arbitrate.lif.sending = some ⟨.periodic, proofFrame p⟩ ∧ (s.arbitrate.face f).proof.pending = none)

/-- At the end of a frame the link is idle and the arbiter chooses afresh; a reply stays at the list's oldest end until its last part has
been sent. Each part holds at most 243 bytes of data, the last part is the first that reaches the data's end, and the parts in order
give the data again (R191, R197). -/
def Obligations.FrameEndMovesTheReplyOn : Prop :=
  (∀ (s : State) (t : Micros) (x : Sending), s.running = true → s.lif.sending = some x →
    exec (.transmitFrameEnd t) s = .next ((s.advance t).modLif fun l =>
      { l with
        sending := none
        replies :=
          if x.item = .reply true then l.replies.drop 1
          else if x.item = .reply false then
            (l.replies.take 1).map (fun r => { r with nextPart := r.nextPart + 1 }) ++ l.replies.drop 1
          else l.replies }).arbitrate) ∧
  (∀ r : Reply, ∀ n, (∀ k < n, r.isLast k = false) → r.isLast n = true →
    (List.range (n + 1)).flatMap r.partData = r.data ∧ ∀ k ≤ n, (r.partData k).length ≤ 243)

/-! ## The berth -/

/-- A TRAIN telegram is refused with NOT_CONFIGURED on an unconfigured face, with BERTH_OCCUPIED or BAD_STATE in a berth state that does not
take it, and then with BAD_ARGUMENT for fields out of range; a refusal is counted and kept, no event flag is set, and nothing else
changes (R10, R11, R13, R14, R15). -/
def Obligations.TrainTelegramsAreRefusedInOrder : Prop :=
  ∀ (s : State) (t : Micros) (f : Face) (body : List Byte), s.running = true →
    (s.configured f = false →
      RefusedTelegram (.arrival t f body) s f .arrival .notConfigured ∧
      RefusedTelegram (.position t f body) s f .position .notConfigured ∧
      RefusedTelegram (.departure t f body) s f .departure .notConfigured ∧
      RefusedTelegram (.cleared t f body) s f .cleared .notConfigured) ∧
    (s.configured f = true →
      ((s.face f).berth.state ≠ .vacant → RefusedTelegram (.arrival t f body) s f .arrival .berthOccupied) ∧
      ((s.face f).berth.state = .vacant → parseArrival body = none → RefusedTelegram (.arrival t f body) s f .arrival .badArgument) ∧
      ((s.face f).berth.state = .vacant → RefusedTelegram (.position t f body) s f .position .badState) ∧
      ((s.face f).berth.state ≠ .vacant → parsePosition body = none →
        RefusedTelegram (.position t f body) s f .position .badArgument) ∧
      ((s.face f).berth.state = .vacant ∨ (s.face f).berth.state = .departing →
        RefusedTelegram (.departure t f body) s f .departure .badState) ∧
      ((s.face f).berth.state ≠ .vacant → (s.face f).berth.state ≠ .departing → body ≠ [] →
        RefusedTelegram (.departure t f body) s f .departure .badArgument) ∧
      ((s.face f).berth.state ≠ .departing → RefusedTelegram (.cleared t f body) s f .cleared .badState) ∧
      ((s.face f).berth.state = .departing → body ≠ [] → RefusedTelegram (.cleared t f body) s f .cleared .badArgument))

/-- An accepted ARRIVAL builds the train record, gives each unit its profile index, empties the ring and starts the supervision timer;
the berth becomes APPROACHING, and its ticket and last sample time stand. A unit's profile is the one that the valid entry of lowest
index names whose key agrees with the identifier under the entry's mask; without such an entry, and where that profile is absent, its
profile index is absent (R11, R12, R22). -/
def Obligations.ArrivalBuildsTheTrain : Prop :=
  (∀ (s : State) (t : Micros) (f : Face) (body : List Byte) (p : FaceParams) (tb : Tables) (dir : Direction)
    (units : List (Word32 × Orientation)),
    s.running = true → s.params? f = some p → s.tables? f = some tb → (s.face f).berth.state = .vacant →
    parseArrival body = some (dir, units) →
    ∃ u, exec (.arrival t f body) s = .next u ∧ u.lif.intake = s.lif.intake ∧ u.lif.replies = s.lif.replies ∧
      u.blocks = s.blocks.modFace f fun b =>
        { b with berth := { b.berth with
            state := .approaching, stop := none, stopError := none, enable := [], pairing := []
            supervision := some ((s.advance t).ms + p.supervision)
            train := some { direction := dir, ring := [], gapMark := false
                            units := units.map fun x => ⟨x.1, x.2, matchProfile tb x.1⟩ } } }) ∧
  (∀ (tb : Tables) (ident : Word32),
    let hits : Nat → MatchEntry → Prop := fun i m =>
      tb.consist[i]? = some m ∧ m.valid = true ∧ ident &&& m.mask = m.key &&& m.mask
    ((∀ i m, ¬hits i m) → matchProfile tb ident = none) ∧
    ∀ i m, hits i m → (∀ j < i, ∀ x, ¬hits j x) →
      (∀ q, tb.profiles[m.profile]? = some (some q) → matchProfile tb ident = some m.profile) ∧
      ((∀ q, tb.profiles[m.profile]? ≠ some (some q)) → matchProfile tb ident = none))

/-- Standstill is detected exactly on 4 unclamped entries of speed 0 whose positions span at most the creep limit; the stop position is
their mean rounded half up and lies between the smallest and the largest; movement is a speed other than 0 or a position more than
the creep limit from the stop position. A sample less than 40 ms after the last accepted one is dropped and counted. An accepted one
that shows neither joins the ring, restarts the supervision timer and ends POSITION_STALE (R15 to R18, R20, R22). -/
def Obligations.SampleIsPolicedClampedAndTested : Prop :=
  ((∀ (creep : Nat) (ring : List Sample), standstill creep ring = true ↔
    ring.length = 4 ∧ (∀ x ∈ ring, x.clamped = false ∧ x.speed = 0) ∧ ∀ x ∈ ring, ∀ y ∈ ring, x.position ≤ y.position + creep) ∧
  (∀ a b c d : Sample,
    stopOf [a, b, c, d] = (a.position + b.position + c.position + d.position + 2) / 4) ∧
  (∀ (ring : List Sample) (low high : Nat), ring.length = 4 → (∀ x ∈ ring, low ≤ x.position ∧ x.position ≤ high) →
    low ≤ stopOf ring ∧ stopOf ring ≤ high) ∧
  ∀ (creep stop : Nat) (x : Sample), moved creep (some stop) x = true ↔
    x.speed ≠ 0 ∨ (creep : Int) < |(x.position : Int) - (stop : Int)|) ∧
  (∀ (s : State) (t : Micros) (f : Face) (body : List Byte) (p : FaceParams),
    (∀ q, s.running = true → s.params? f = some p → (s.face f).berth.state ≠ .vacant → parsePosition body = some q →
      (∃ l, (s.face f).berth.lastSample = some l ∧ (s.advance t).ms < l + 40) →
      ∃ u, exec (.position t f body) s = .next u ∧ u.lif.intake = s.lif.intake ∧ u.lif.replies = s.lif.replies ∧
        u.blocks = s.blocks.modFace f fun b => { b with berth := { b.berth with policed := s.bump b.berth.policed } }) ∧
    (∀ x, SampleAccepted s t f body p x →
      let b' := (s.face f).berth.sampled (s.advance t).ms p x (s.bump (s.face f).berth.clampedSamples)
      ((s.face f).berth.state = .approaching ∧ standstill p.creep ((b'.train.map fun r => r.ring).getD []) = false ∨
        (s.face f).berth.state ≠ .approaching ∧ moved p.creep (s.face f).berth.stop x = false ∨
        (s.face f).berth.state = .departing) →
      ∃ u, exec (.position t f body) s = .next u ∧ u.lif.intake = s.lif.intake ∧ u.lif.replies = s.lif.replies ∧
        (u.face f).proof.active.positionStale = false ∧
        u.blocks = s.blocks.modFace f fun b => { b with berth := b' }))

/-- Standstill in APPROACHING fixes the stop position and stop error, makes the berth ALIGNING under the next ticket, and asks the
Alignment Engine, which takes the request with its inputs if it is idle and keeps it waiting otherwise, counting one it displaces as
withdrawn. The inputs are the stop position, the train's direction and its units' orientations, and the unit profiles, platform doors and
extent of the face's active bank, a profile that is absent there leaving its unit without one. Movement in ALIGNING or STOPPED returns the berth to APPROACHING with an empty enable set and the moving sample alone in the
ring; no door is enabled or keeps an OPEN in its slot, NO_PROFILE ceases, and a waiting request is withdrawn (R17, R18, R20, R27, R28,
R32, R52). -/
def Obligations.StandstillAndMovementMoveTheBerth : Prop :=
  (∀ (s : State) (t : Micros) (f : Face) (body : List Byte) (p : FaceParams) (x : Sample),
    SampleAccepted s t f body p x → (s.face f).berth.state = .approaching →
    let b' := (s.face f).berth.sampled (s.advance t).ms p x (s.bump (s.face f).berth.clampedSamples)
    let ring := (b'.train.map fun r => r.ring).getD []
    let ticket := (s.face f).berth.ticket + 1
    standstill p.creep ring = true →
    ∃ u, exec (.position t f body) s = .next u ∧ u.lif.intake = s.lif.intake ∧ u.lif.replies = s.lif.replies ∧
      u.blocks = { (s.blocks.modFace f fun b =>
          { b with berth := { b' with
              state := .aligning, stop := some (stopOf ring), stopError := some ((stopOf ring : Int) - p.target)
              ticket := ticket } }) with
        aln :=
          if s.aln.inflight.isNone then
            { s.aln with inflight := some ⟨f, ticket, { s.alignInput f with stop := stopOf ring }⟩ }
          else
            { s.aln with
              waiting := s.aln.waiting.set f (some ⟨ticket, (s.advance t).ms⟩)
              withdrawn := if (s.aln.waiting.get f).isSome then s.aln.withdrawn.modify f s.bump else s.aln.withdrawn } }) ∧
  (∀ (s : State) (f : Face) (b : BankId) (p : FaceParams) (tr : Train) (stop : Nat), s.tbs.active.get f = some b →
    let tb := (s.tbs.bank b).tables
    tb.params.get f = some p → (s.face f).berth.train = some tr → (s.face f).berth.stop = some stop →
    let i := s.alignInput f
    i.stop = stop ∧ i.direction = tr.direction ∧ i.extentLow = p.extentLow ∧ i.extentHigh = p.extentHigh ∧
      i.units.length = tr.units.length ∧
      (∀ (k : Nat) (x : TrainUnit), tr.units[k]? = some x → ∃ q, i.units[k]? = some (x.orientation, q) ∧
        (x.profile = none → q = none) ∧
        ∀ n, x.profile = some n →
          (∀ y, tb.profiles[n]? = some (some y) → q = some y) ∧ ((∀ y, tb.profiles[n]? ≠ some (some y)) → q = none)) ∧
      (∀ n e, (n, e) ∈ i.doors ↔ ∃ j : Fin 32, j.val + 1 = n ∧ (tb.doors.get f)[j] = some e) ∧
      (i.doors.map fun x => x.1).Pairwise (· < ·)) ∧
  (∀ (s : State) (t : Micros) (f : Face) (body : List Byte) (p : FaceParams) (x : Sample),
    SampleAccepted s t f body p x → (s.face f).berth.state = .aligning ∨ (s.face f).berth.state = .stopped →
    moved p.creep (s.face f).berth.stop x = true →
    let b' := (s.face f).berth.sampled (s.advance t).ms p x (s.bump (s.face f).berth.clampedSamples)
    ∃ u, exec (.position t f body) s = .next u ∧ u.lif.intake = s.lif.intake ∧ u.lif.replies = s.lif.replies ∧
      (u.face f).proof.active.positionStale = false ∧ (u.face f).proof.active.noProfile = false ∧
      u.blocks = { (s.blocks.modFace f fun b =>
          { b with
            doors := b.doors.map Door.disabled
            berth := { b' with
              state := .approaching, stop := none, stopError := none, enable := [], pairing := []
              train := (s.face f).berth.train.map fun r => { r with ring := [x], gapMark := false } } }) with
        aln :=
          if (s.face f).berth.state = .aligning ∧ (s.aln.waiting.get f).isSome then
            { s.aln with waiting := s.aln.waiting.set f none, withdrawn := s.aln.withdrawn.modify f s.bump }
          else s.aln })

/-- Movement in DWELLING makes the berth DEPARTING, empties the enable set and cancels a deferral. Where proof held nothing more is
done to the doors; otherwise MOVEMENT_UNPROVEN is raised and each door in OPENING, OPEN or RECYCLING that is not latched and has isolation
NONE receives an URGENT CLOSE (R21, R52, R73, R129). These are the model's choices: proof is read once the telegram's frame has been
counted for the uplink (notes/assumptions/35.md), a deferral's end clears its start and its partner-seen mark (notes/assumptions/30.md),
and an OPEN that the CLOSE replaces counts in SUPERSEDED (notes/assumptions/16.md). -/
def Obligations.MovementInDwellingDeparts : Prop :=
  (∀ (s : State) (t : Micros) (f : Face) (body : List Byte) (p : FaceParams) (x : Sample), doorsOrdered s →
    SampleAccepted s t f body p x → (s.face f).berth.state = .dwelling → moved p.creep (s.face f).berth.stop x = true →
    let b' := (s.face f).berth.sampled (s.advance t).ms p x (s.bump (s.face f).berth.clampedSamples)
    let held := ((s.opened t).intactFrame.face f).proof.held
    ∃ u, exec (.position t f body) s = .next u ∧ u.lif.intake = s.lif.intake ∧ u.lif.replies = s.lif.replies ∧
      (u.face f).berth = { b' with state := .departing, enable := [], pairing := [], dwellStart := none } ∧
      (u.face f).deferral.used = none ∧
      ((s.face f).deferral.used ≠ none → (u.face f).deferral = (s.face f).deferral.ended .cancelled (s.advance t).ms ∧
        EventKind.holdEnded ∈ u.lif.flags.get (.face f)) ∧
      (u.face f.partner).deferral.partnerView = .notDwelling ∧
      (held = true → (u.face f).doors = (s.face f).doors.map Door.disabled) ∧
      (held = false → EventKind.movementUnproven ∈ u.lif.flags.get (.face f) ∧
        (u.face f).doors = (s.face f).doors.map fun d =>
          if d.closable then ({ d with enabled := false }.startClose ((s.advance t).doorContext f d.number) .urgent).door
          else d.disabled) ∧
      (u.face f).release = (s.face f).release ∧ (u.face f).line = (s.face f).line ∧ u.holds = s.holds ∧ u.aln = s.aln ∧
      u.gap = s.gap ∧ u.tbs = s.tbs) ∧
  (∀ d : Door, d.closable = true ↔
    (d.state = .opening ∨ d.state = .opened ∨ d.state = .recycling) ∧ d.latched = false ∧ d.isolation = .none)

/-- An accepted DEPARTURE makes the berth DEPARTING, empties the enable set, withdraws a waiting alignment request from ALIGNING,
cancels a deferral, raises DEPARTURE_UNPROVEN where proof did not hold and a door was neither CLOSED nor ISOLATED, and carries out
the departure close: an unlatched door of isolation NONE in UNKNOWN, OPENING, OPEN, RECYCLING, HELD or STALLED is closed with an URGENT
CLOSE, and one in LOST is given it and keeps its state. Stop position and stop error stand (R13, R28, R52, R73, R129). These are the
model's choices: proof is read once the telegram's frame has been counted for the uplink (notes/assumptions/35.md), a deferral's end clears
its start and its partner-seen mark (notes/assumptions/30.md), and an OPEN that the CLOSE replaces counts in SUPERSEDED
(notes/assumptions/16.md). -/
def Obligations.DepartureClosesTheDoors : Prop :=
  (∀ (s : State) (t : Micros) (f : Face) (p : FaceParams), doorsOrdered s → s.running = true → s.params? f = some p →
    (s.face f).berth.state ≠ .vacant → (s.face f).berth.state ≠ .departing →
    ∃ u, exec (.departure t f []) s = .next u ∧ u.lif.intake = s.lif.intake ∧ u.lif.replies = s.lif.replies ∧
      (u.face f).berth = { (s.face f).berth with
        state := .departing, enable := [], pairing := [], dwellStart := none
        supervision := some ((s.advance t).ms + p.supervision) } ∧
      (u.face f).proof.active.positionStale = false ∧ (u.face f).deferral.used = none ∧
      ((s.face f).deferral.used ≠ none → (u.face f).deferral = (s.face f).deferral.ended .cancelled (s.advance t).ms ∧
        EventKind.holdEnded ∈ u.lif.flags.get (.face f)) ∧
      (((s.opened t).intactFrame.face f).proof.held = false →
        (∃ d ∈ (s.face f).doors, d.state ≠ .closed ∧ d.state ≠ .isolated) →
        EventKind.departureUnproven ∈ u.lif.flags.get (.face f)) ∧
      (u.face f).doors = (s.face f).doors.map (fun d =>
        if d.departing then ({ d with enabled := false }.departureClose ((s.advance t).doorContext f d.number)).door
        else d.disabled) ∧
      u.aln = (if (s.face f).berth.state = .aligning ∧ (s.aln.waiting.get f).isSome then
          { s.aln with waiting := s.aln.waiting.set f none, withdrawn := s.aln.withdrawn.modify f s.bump }
        else s.aln) ∧
      (u.face f).release = (s.face f).release ∧ (u.face f).line = (s.face f).line ∧ u.holds = s.holds ∧ u.gap = s.gap ∧
      u.tbs = s.tbs) ∧
  (∀ (d : Door) (ctx : DoorContext),
    (d.departing = true ↔ d.latched = false ∧ d.isolation = .none ∧
      (d.state = .unknown ∨ d.state = .opening ∨ d.state = .opened ∨ d.state = .recycling ∨ d.state = .held ∨ d.state = .stalled ∨
        d.state = .lost)) ∧
    (d.state = .lost → d.departureClose ctx = ⟨d.place ctx .closeCmd .urgent, [], []⟩) ∧
    (d.state ≠ .lost → d.departureClose ctx = d.startClose ctx .urgent))

/-- An accepted CLEARED, and the lapse of the departure supervision, return the berth to VACANT: the train record goes, the supervision
timer stops, POSITION_STALE and NO_PROFILE cease, and where no bank waits to be adopted nothing else changes in the blocks; the step otherwise
ends in the test for adoption. In
APPROACHING, ALIGNING, STOPPED and DWELLING the supervision timer's expiry makes POSITION_STALE active with its flag raised, and the
berth stands (R14, R22, R177). -/
def Obligations.ClearedAndLapsesEndTheTrain : Prop :=
  (∀ (s : State) (t : Micros) (f : Face) (c : Instr), s.running = true → (s.face f).berth.state = .departing → NoAdoption s f →
    (c = .cleared t f [] ∧ s.configured f = true ∨
      c = .supervisionExpiry t f ∧ ∃ e, (s.face f).berth.supervision = some e ∧ e ≤ (s.advance t).ms) →
    ∃ u, exec c s = .next u ∧ u.lif.intake = s.lif.intake ∧ u.lif.replies = s.lif.replies ∧
      (u.face f).proof.active.positionStale = false ∧ (u.face f).proof.active.noProfile = false ∧
      u.blocks = s.blocks.modFace f fun b => { b with berth := b.berth.emptied, doors := b.doors.map Door.disabled }) ∧
  (∀ (s : State) (t : Micros) (f : Face) (c : Instr), s.running = true → (s.face f).berth.state = .departing →
    (c = .cleared t f [] ∧ s.configured f = true ∨
      c = .supervisionExpiry t f ∧ ∃ e, (s.face f).berth.supervision = some e ∧ e ≤ (s.advance t).ms) →
    ∃ v : State, exec c s = .next (v.testAdoption f).arbitrate ∧ v.lif.intake = s.lif.intake ∧ v.lif.replies = s.lif.replies ∧
      (v.face f).proof.active.positionStale = false ∧ (v.face f).proof.active.noProfile = false ∧
      v.blocks = s.blocks.modFace f fun b => { b with berth := b.berth.emptied, doors := b.doors.map Door.disabled }) ∧
  (∀ (s : State) (t : Micros) (f : Face) (e : Millis), s.running = true → (s.face f).berth.supervision = some e →
    e ≤ (s.advance t).ms → (s.face f).berth.state ≠ .departing → (s.face f).berth.state ≠ .vacant →
    ∃ u, exec (.supervisionExpiry t f) s = .next u ∧ u.lif.intake = s.lif.intake ∧ u.lif.replies = s.lif.replies ∧
      (u.face f).proof.active.positionStale = true ∧
      ((s.face f).proof.active.positionStale = false → EventKind.positionStale ∈ u.lif.flags.get (.face f)) ∧
      u.blocks = s.blocks.modFace f fun b => { b with berth := { b.berth with supervision := none } })

/-- A face adopts the staged bank when it has not adopted it, its berth is VACANT and its release state NORMAL, and in no other case. The door
records follow the new table by drop address: a kept one takes its new number and is otherwise as it was, a new one starts afresh.
BANK_ADOPTED is raised and the Gap Monitor notes the face. The second adoption makes the bank ACTIVE and begins its copy; until then it
stays staged. The line starts, goes on or stops with the face's configuration; an exchange to a drop address that leaves ends with
NOT_NOW, or NOT_CONFIGURED with the face. An ASSERTED input begins evacuation on a face that the bank configures (R79, R102, R120, R137,
R177 to R179). The turn that runs on to a removed address is the model's reading (notes/assumptions/24.md). -/
def Obligations.AdoptionTakesTheStagedBank : Prop :=
  (∀ (s : State) (f : Face),
    (NoAdoption s f ∨ (s.face f).berth.state ≠ .vacant → s.testAdoption f = s) ∧
    ∀ b, s.tbs.staged = some b → s.tbs.active.get f ≠ some b → (s.face f).berth.state = .vacant →
      (s.face f).release.state = .normal → (s.face f).release.input = .deasserted →
      let u := s.testAdoption f
      let tb := (s.tbs.bank b).tables
      u.tbs.active = s.tbs.active.set f (some b) ∧ EventKind.bankAdopted ∈ u.lif.flags.get (.face f) ∧ u.gap.adopted.get f = true ∧
        ((u.face f).doors.map fun d => (d.number, d.drop)) =
          (if (tb.params.get f).isSome then (State.tableDoors tb f).map fun e => (e.1, e.2.drop) else []) ∧
        (∀ d ∈ (u.face f).doors, ∀ o, (s.face f).doors.find? (fun x => x.drop = d.drop) = some o →
          d.state = o.state ∧ d.isolation = o.isolation ∧ d.latched = o.latched ∧ d.lastStatus = o.lastStatus ∧
            d.openCycles = o.openCycles ∧ d.link.base = o.link.base ∧ d.link.lost = o.link.lost ∧ d.recycleCount = 0) ∧
        (∀ d ∈ (u.face f).doors, (s.face f).doors.find? (fun x => x.drop = d.drop) = none →
          d.state = .unknown ∧ d.isolation = .none ∧ d.latched = false ∧ d.lastStatus = none ∧ d.openCycles = 0 ∧
            d.link.base = none ∧ d.link.lost = false ∧ d.recycleCount = 0) ∧
        (s.tbs.active.get f.partner = some b →
          u.tbs.staged = none ∧ u.tbs.copy = some ⟨b.other, b, s.ms⟩ ∧ (u.tbs.bank b).state = .active ∧
            (u.tbs.bank b.other).state = .copying ∧ (u.tbs.bank b).tables = tb ∧
            (u.tbs.bank b.other).tables = (s.tbs.bank b.other).tables) ∧
        (s.tbs.active.get f.partner ≠ some b →
          u.tbs = { s.tbs with active := s.tbs.active.set f (some b) }) ∧
        (u.face f).berth = (s.face f).berth ∧ (u.face f).release = (s.face f).release ∧
        (u.face f.partner).blocks = (s.face f.partner).blocks ∧ u.holds = s.holds ∧ u.aln = s.aln) ∧
  (∀ (s : State) (f : Face) (b : BankId), s.tbs.staged = some b → s.tbs.active.get f ≠ some b →
    (s.face f).berth.state = .vacant → (s.face f).release.state = .normal →
    let u := s.testAdoption f
    let keeps := ((s.tbs.bank b).tables.params.get f).isSome
    let turn' := (s.face f).line.turn.map fun x =>
      if (u.face f).doors.any fun d => d.drop = x.drop then x else { x with orphan := true }
    ((s.face f).release.input = .deasserted →
      (∀ d ∈ (u.face f).doors, ∀ o, (s.face f).doors.find? (fun x => x.drop = d.drop) = some o →
        d.slotCommand = o.slotCommand ∧ d.timer = o.timer ∧ d.evacOpened = o.evacOpened ∧ d.recycles = o.recycles ∧
          d.obstructions = o.obstructions ∧ d.superseded = o.superseded ∧ d.link.badFrames = o.link.badFrames ∧
          d.link.badCount = o.link.badCount ∧
          (s.configured f = true → d = { o with number := d.number, recycleCount := 0 })) ∧
      (∀ d ∈ (u.face f).doors, (s.face f).doors.find? (fun x => x.drop = d.drop) = none →
        d.slotCommand = none ∧ d.timer = none ∧ d.evacOpened = false ∧ d.recycles = 0 ∧ d.obstructions = 0 ∧
          d.superseded = 0 ∧ d.link.badFrames = 0 ∧ d.link.badCount = 0)) ∧
    ((s.face f).release.input = .asserted →
      u.tbs.active = s.tbs.active.set f (some b) ∧ EventKind.bankAdopted ∈ u.lif.flags.get (.face f) ∧
        (u.face f).berth = (s.face f).berth ∧
        (keeps = true → (u.face f).release.state = .evacuating ∧ EventKind.evacuationStart ∈ u.lif.flags.get (.face f)) ∧
        (keeps = false → (u.face f).release = (s.face f).release)) ∧
    (keeps = true → s.configured f = true →
      (u.face f).line.running = (s.face f).line.running ∧ (u.face f).line.turn = turn' ∧
        (u.face f).line.rotation = (s.face f).line.rotation ∧
        ((s.face f).line.tunnel = none → (u.face f).line.tunnel = none ∧ u.lif.replies = s.lif.replies) ∧
        ∀ x, (s.face f).line.tunnel = some x →
          ((∃ d ∈ (u.face f).doors, d.drop = x.drop) → (u.face f).line.tunnel = some x ∧ u.lif.replies = s.lif.replies) ∧
          ((∀ d ∈ (u.face f).doors, d.drop ≠ x.drop) → (u.face f).line.tunnel = none ∧
            u.lif.replies = s.lif.replies ++ [⟨0x30, x.tag, .refused .notNow, [], 0⟩])) ∧
    (keeps = true → s.configured f = false →
      (u.face f).line.running = true ∧ (u.face f).line.tunnel = none ∧ u.lif.replies = s.lif.replies ∧
        ((s.face f).line.turn ≠ none → (u.face f).line.turn = turn' ∧ (u.face f).line.rotation = none) ∧
        ((s.face f).line.turn = none → (s.face f).doors = [] → ∀ d ∈ (u.face f).doors,
          (∀ e ∈ (u.face f).doors, d.drop ≤ e.drop) →
          (u.face f).line.rotation = some d.drop ∧
            (u.face f).line.turn = some { drop := d.drop, kind := .poll, carried := .nothing 0, orphan := false
                                          windowEnd := s.now + dropFrameTime d.drop (.nothing 0) + 800 })) ∧
    (keeps = false →
      (u.face f).doors = [] ∧ (u.face f).line.running = ((s.face f).line.running && (s.face f).line.turn.isSome) ∧
        (u.face f).line.turn = turn' ∧ (u.face f).line.tunnel = none ∧
        ((s.face f).line.tunnel = none → u.lif.replies = s.lif.replies) ∧
        ∀ x, (s.face f).line.tunnel = some x →
          u.lif.replies = s.lif.replies ++ [⟨0x30, x.tag, .refused .notConfigured, [], 0⟩]))

/-! ## The alignment computation -/

/-- The doors of unit i + 1 stand behind the stop position by the unit's lead distance, which sums length and coupling allowance of the
units ahead, and by their distance within the unit, which is the offset, or the length less the offset when end 2 leads. A platform
door's best train door has the greatest overlap with it, and among those it is the one of lowest unit number and then of lowest door
number (R34 to R38). -/
def Obligations.TrainDoorsArePlacedAndMatched : Prop :=
  (∀ (stop : Nat) (dir : Direction) (units : List (Orientation × Profile)) (x : PlacedDoor),
    x ∈ placeUnits stop dir 1 0 units ↔
      ∃ (i k : Nat) (o : Orientation) (p : Profile) (d : ProfileDoor), units[i]? = some (o, p) ∧ p.doors[k]? = some d ∧
        x.unitNo = i + 1 ∧ x.door = k + 1 ∧ x.halfWidth = d.halfWidth ∧
        let lead : Int := (((units.take i).map fun q => q.2.length + q.2.coupling).sum : Nat)
        let within : Int := match o with
          | .end1Leading => d.offset
          | .end2Leading => (p.length : Int) - d.offset
        x.centre = match dir with
          | .up => (stop : Int) - (lead + within)
          | .down => (stop : Int) + (lead + within)) ∧
  ((∀ (e : DoorEntry) (x : PlacedDoor), (overlap e x : Int) =
    max 0 (min ((e.centre : Int) + e.halfWidth) (x.centre + x.halfWidth) - max ((e.centre : Int) - e.halfWidth) (x.centre - x.halfWidth))) ∧
  (∀ (stop : Nat) (dir : Direction) (units : List (Orientation × Profile)),
    (placeUnits stop dir 1 0 units).Pairwise fun x y => x.unitNo < y.unitNo ∨ x.unitNo = y.unitNo ∧ x.door < y.door) ∧
  ∀ (e : DoorEntry) (placed : List PlacedDoor), (bestDoor e placed = none ↔ placed = []) ∧
    ∀ b, bestDoor e placed = some b → ∃ l r, placed = l ++ b :: r ∧ (∀ x ∈ l, overlap e x < overlap e b) ∧
      ∀ x ∈ r, overlap e x ≤ overlap e b)

/-- With every unit profiled, exactly the platform doors with a train door that overlaps them by their minimum clear width are enabled,
each with one pairing entry; MISALIGNED is the empty set's finding, PARTIAL_ALIGN that of a train door within the extent that no
pairing names beside a non-empty set. A unit without a profile leaves an empty set with the no-profile finding alone (R33, R39 to
R42). -/
def Obligations.EnableSetNeedsTheClearWidth : Prop :=
  ∀ i : AlignInput,
    ((∃ o, (o, none) ∈ i.units) → align i = ⟨[], [], true, false, false⟩) ∧
    ∀ units : List (Orientation × Profile), i.units = units.map (fun u => (u.1, some u.2)) →
      let placed := placeUnits i.stop i.direction 1 0 units
      let r := align i
      r.enable = (i.doors.filter fun p => placed.any fun x => decide (p.2.minClear ≤ overlap p.2 x)).map (fun p => p.1) ∧
        r.enable = r.pairing.map (fun p => p.door) ∧
        (∀ q ∈ r.pairing, ∃ e b, (q.door, e) ∈ i.doors ∧ bestDoor e placed = some b ∧ e.minClear ≤ q.overlap ∧
          q.overlap = overlap e b ∧ q.unitNo = b.unitNo ∧ q.trainDoor = b.door) ∧
        r.noProfile = false ∧ (r.misaligned = true ↔ r.enable = []) ∧
        (r.partialAlign = true ↔ r.enable ≠ [] ∧ ∃ x ∈ placed, (i.extentLow : Int) ≤ x.centre ∧ x.centre ≤ i.extentHigh ∧
          ∀ q ∈ r.pairing, ¬(q.unitNo = x.unitNo ∧ q.trainDoor = x.door))

/-- A completion delivers its result: an ALIGNING berth with the result's ticket takes the set, the pairing and the gap mark and becomes
STOPPED with its findings raised, its doors following the set; in any other case the result leaves no trace in the berth. The
computation is counted and the waiting request placed first is taken, face A's of two placed in one millisecond (R19, R29, R30,
R44, R52). What a face under evacuation takes from it, whose doors then open (R140), is stated by EvacuationInForceOpensOnlyAStoppedTrain. -/
def Obligations.CompletionIsTakenByItsTicket : Prop :=
  ∀ (s : State) (t : Micros) (i : InFlight), s.running = true → s.aln.inflight = some i →
    let f := i.face
    let r := align i.input
    let accepted := (s.face f).berth.state = .aligning ∧ (s.face f).berth.ticket = i.ticket
    let aln' : Engine :=
      match s.aln.waiting.a, s.aln.waiting.b with
      | none, none => { s.aln with inflight := none, computations := s.aln.computations.modify f s.bump }
      | some x, none =>
        { s.aln with
          inflight := some ⟨.A, x.ticket, s.alignInput .A⟩, waiting := ⟨none, none⟩
          computations := s.aln.computations.modify f s.bump }
      | none, some y =>
        { s.aln with
          inflight := some ⟨.B, y.ticket, s.alignInput .B⟩, waiting := ⟨none, none⟩
          computations := s.aln.computations.modify f s.bump }
      | some x, some y =>
        if y.placedAt < x.placedAt then
          { s.aln with
            inflight := some ⟨.B, y.ticket, s.alignInput .B⟩, waiting := ⟨some x, none⟩
            computations := s.aln.computations.modify f s.bump }
        else
          { s.aln with
            inflight := some ⟨.A, x.ticket, s.alignInput .A⟩, waiting := ⟨none, some y⟩
            computations := s.aln.computations.modify f s.bump }
    ∃ u, exec (.alignmentComplete t) s = .next u ∧ u.aln = aln' ∧ u.lif.intake = s.lif.intake ∧ u.lif.replies = s.lif.replies ∧
      (¬accepted → u.blocks = { s.blocks with aln := aln' } ∧ u.lif.flags = s.lif.flags) ∧
      (accepted → (s.face f).release.state ≠ .evacuating →
        u.blocks = { (s.blocks.modFace f fun b =>
          { b with
            doors := b.doors.map fun d => ({ d with enabled := r.enable.contains d.number } : Door).dropOpen
            berth := { b.berth with
              state := .stopped, enable := r.enable, pairing := r.pairing
              train := b.berth.train.map fun y => { y with gapMark := y.gapMark || r.noProfile } } }) with aln := aln' } ∧
        (r.misaligned = true → EventKind.misaligned ∈ u.lif.flags.get (.face f)) ∧
        (r.partialAlign = true → EventKind.partialAlign ∈ u.lif.flags.get (.face f)) ∧
        (r.noProfile = true → (u.face f).proof.active.noProfile = true))

/-! ## Door requests -/

/-- A request that needs a configured face is refused with BAD_ARGUMENT where it names none and with NOT_CONFIGURED where its face is
unconfigured, and one that needs a door with BAD_ARGUMENT where the table has none. OPEN_FACE, CLOSE_FACE, REOPEN_DOOR, CLOSE_DOOR and
RETURN_DOOR then make their own tests in order; the first that fails refuses the request, and the state is otherwise what it was.
HOLD_CANCEL, EVACUATE and RESTORE without a face are refused with BAD_ARGUMENT too (R53 to R57, R59, R96, R123, R124, R138, R142, R182;
READ_DOOR's tests are R187's). -/
def Obligations.DoorRequestsTestInOrder : Prop :=
  (∀ (s : State) (t : Micros) (r : Request) (rest : List Request),
    (∀ q ∈ [(Instr.openFace t, RequestKind.openFace), (.closeFace t, .closeFace), (.reopenDoor t, .reopenDoor),
        (.closeDoor t, .closeDoor), (.isolateDoor t, .isolateDoor), (.returnDoor t, .returnDoor), (.holdAdd t, .holdAdd),
        (.tunnel t, .tunnel), (.readDoor t, .readDoor)],
      Takes s r rest (some q.2) →
        (r.face? = none → Refuses q.1 s r rest .badArgument) ∧
        ∀ f, r.face? = some f → s.configured f = false → Refuses q.1 s r rest .notConfigured) ∧
    ∀ q ∈ [(Instr.reopenDoor t, RequestKind.reopenDoor), (.closeDoor t, .closeDoor), (.isolateDoor t, .isolateDoor),
        (.returnDoor t, .returnDoor), (.readDoor t, .readDoor)],
      Takes s r rest (some q.2) → ∀ f, r.face? = some f → s.configured f = true →
        (∀ b, r.body = [b] → ∀ d ∈ (s.face f).doors, d.number ≠ b.toNat) → Refuses q.1 s r rest .badArgument) ∧
  (∀ (s : State) (t : Micros) (r : Request) (rest : List Request),
    ∀ q ∈ [(Instr.holdCancel t, RequestKind.holdCancel), (.evacuate t, .evacuate), (.restore t, .restore)],
      Takes s r rest (some q.2) → r.face? = none → Refuses q.1 s r rest .badArgument) ∧
  (∀ (s : State) (t : Micros) (r : Request) (rest : List Request) (f : Face), r.face? = some f → s.configured f = true →
    (Takes s r rest (some .openFace) → r.body = [] →
      let b := (s.face f).berth
      ((b.state ≠ .stopped ∧ b.state ≠ .dwelling) → Refuses (.openFace t) s r rest .badState) ∧
      (b.state = .stopped ∨ b.state = .dwelling →
        (b.enable = [] → Refuses (.openFace t) s r rest .notEnabled) ∧
        (b.enable ≠ [] →
          ((s.face f).release.state = .evacuating → Refuses (.openFace t) s r rest .evacuating) ∧
          ((s.face f).release.state = .restoring → Refuses (.openFace t) s r rest .badState) ∧
          ((s.face f).release.state = .normal ∨ (s.face f).release.state = .released →
            (s.face f).proof.holdClosed.nonempty = true → Refuses (.openFace t) s r rest .holdClosedActive)))) ∧
    (Takes s r rest (some .closeFace) → r.body = [] → (s.face f).release.state = .evacuating →
      Refuses (.closeFace t) s r rest .evacuating) ∧
    ∀ (n : Byte) (d : Door), r.body = [n] → s.findDoor f n.toNat = some d →
      (Takes s r rest (some .reopenDoor) →
        ((s.face f).berth.state ≠ .dwelling → Refuses (.reopenDoor t) s r rest .badState) ∧
        ((s.face f).berth.state = .dwelling →
          (d.enabled = false → Refuses (.reopenDoor t) s r rest .notEnabled) ∧
          (d.enabled = true →
            ((s.face f).release.state = .evacuating → Refuses (.reopenDoor t) s r rest .evacuating) ∧
            ((s.face f).release.state = .restoring → Refuses (.reopenDoor t) s r rest .badState) ∧
            ((s.face f).release.state = .normal ∨ (s.face f).release.state = .released →
              ((s.face f).proof.holdClosed.nonempty = true → Refuses (.reopenDoor t) s r rest .holdClosedActive) ∧
              ((s.face f).proof.holdClosed.nonempty = false →
                (d.state ≠ .closing ∧ d.state ≠ .held ∧ d.state ≠ .stalled) ∨ d.latched = true →
                Refuses (.reopenDoor t) s r rest .badState))))) ∧
      (Takes s r rest (some .closeDoor) →
        ((s.face f).release.state = .evacuating → Refuses (.closeDoor t) s r rest .evacuating) ∧
        ((s.face f).release.state ≠ .evacuating → d.state ≠ .opened → d.state ≠ .held → d.state ≠ .stalled →
          Refuses (.closeDoor t) s r rest .badState)) ∧
      (Takes s r rest (some .returnDoor) → d.isolation ≠ .lockedOut → Refuses (.returnDoor t) s r rest .badState))

/-- An accepted OPEN_FACE gives every enabled door that is not latched and is in CLOSED or CLOSING a ROUTINE OPEN and OPENING, leaves
every other door as it is, cancels a deferral with CANCELLED, makes a STOPPED berth DWELLING with its dwell start, and is answered DONE.
The partner's Door Sequencer sees the entry to DWELLING: its view follows, and a deferral in progress there has seen its partner dwell
and starts the partner dwell timer, or ends at once with PARTNER_DWELL and its held close where T is 0 (R9, R54, R127, R129). What a
deferral's end clears beside its timers is the model's choice (notes/assumptions/30.md). An open and a close of a door are as
ReopenAndCloseDoorActOnOneDoor states them. -/
def Obligations.OpenFaceOpensTheEnabledDoors : Prop :=
  ∀ (s : State) (t : Micros) (r : Request) (rest : List Request) (f : Face), doorsOrdered s →
    Takes s r rest (some .openFace) → r.face? = some f → r.body = [] → s.configured f = true →
    (s.face f).berth.state = .stopped ∨ (s.face f).berth.state = .dwelling → (s.face f).berth.enable ≠ [] →
    (s.face f).release.state = .normal ∨ (s.face f).release.state = .released → (s.face f).proof.holdClosed.nonempty = false →
    let now := (s.advance t).ms
    ∃ u, exec (.openFace t) s = .next u ∧ Answered s u r rest .done [] ∧
      (u.face f).deferral.used = none ∧
      ((s.face f).deferral.used.isSome → EventKind.holdEnded ∈ u.lif.flags.get (.face f)) ∧
      ((s.face f).deferral.used = none → (u.face f).deferral = (s.face f).deferral) ∧
      ((s.face f).deferral.used ≠ none → (u.face f).deferral = (s.face f).deferral.ended .cancelled now) ∧
      ((s.face f).berth.state ≠ .stopped → (u.face f.partner).deferral = (s.face f.partner).deferral) ∧
      (u.face f.partner).deferral.partnerView =
        (if (s.face f).berth.state = .stopped then .dwelling now else (s.face f.partner).deferral.partnerView) ∧
      u.blocks = (s.blocks.modFace f fun b =>
        { b with
          berth := { b.berth with
            state := .dwelling
            dwellStart := if b.berth.state = .stopped then some now else b.berth.dwellStart }
          deferral := (u.face f).deferral
          doors := b.doors.map fun d =>
            if d.enabled = true ∧ d.latched = false ∧ (d.state = .closed ∨ d.state = .closing) then
              d.startOpen ((s.advance t).doorContext f d.number) .routine
            else d }).modFace f.partner fun b =>
        if (s.face f).berth.state = .stopped then
          match b.deferral.used with
          | none => { b with deferral := { b.deferral with partnerView := .dwelling now } }
          | some y =>
            if y.entry.minDwell = 0 then
              { b with
                deferral := { b.deferral with partnerView := .dwelling now }.ended .partnerDwell now
                doors := b.doors.map fun d =>
                  if d.closable then (d.startClose ((s.advance t).doorContext f.partner d.number) .routine).door else d }
            else
              { b with deferral := { b.deferral with
                  partnerView := .dwelling now, partnerSeen := true, partnerTimer := some (now + y.entry.minDwell) } }
        else b

/-- A CLOSE_FACE outside EVACUATING that finds a deferral in progress is answered DEFERRED and changes nothing. One that no hold entry
matches, or whose berth is not DWELLING, closes at once: every door in OPENING, OPEN or RECYCLING, not latched and of isolation
NONE, gets a ROUTINE CLOSE with its recycle count 0; every other door is left as it is; the answer is DONE (R55, R126). A close
of a door is as ReopenAndCloseDoorActOnOneDoor states it. -/
def Obligations.CloseFaceClosesTheDoors : Prop :=
  ∀ (s : State) (t : Micros) (r : Request) (rest : List Request) (f : Face), doorsOrdered s →
    Takes s r rest (some .closeFace) → r.face? = some f → r.body = [] → s.configured f = true →
    (s.face f).release.state ≠ .evacuating →
    ((s.face f).deferral.used ≠ none → Answers (.closeFace t) s (s.opened t) r rest .deferred []) ∧
    ((s.face f).deferral.used = none →
      ((s.face f).berth.state = .dwelling → ∀ x, s.firstUnit f = some x →
        ∀ i : Fin 8, ∀ h, s.holds[i] = some h → h.face = f → x &&& h.mask ≠ h.key &&& h.mask) →
      ∃ u, exec (.closeFace t) s = .next u ∧ Answered s u r rest .done [] ∧
        u.blocks = s.blocks.modFace f fun b =>
          { b with doors := b.doors.map fun d =>
              if (d.state = .opening ∨ d.state = .opened ∨ d.state = .recycling) ∧ d.latched = false ∧ d.isolation = .none then
                (d.startClose ((s.advance t).doorContext f d.number) .routine).door
              else d })

/-- A CLOSE_FACE in DWELLING whose train's unit 1 matches a hold entry of the face begins a deferral with the entry of lowest slot: the
slot empties, the maximum timer runs for H, the partner dwell timer for what T has left of the partner's dwell, and the answer is
DEFERRED. Where the partner has already dwelt for T the deferral ends in the same step with PARTNER_DWELL, and the held close is
carried out (R122, R125 to R127). -/
def Obligations.CloseFaceBeginsADeferral : Prop :=
  ∀ (s : State) (t : Micros) (r : Request) (rest : List Request) (f : Face) (x : Word32) (i : Fin 8) (h : HoldEntry),
    doorsOrdered s → Takes s r rest (some .closeFace) → r.face? = some f → r.body = [] → s.configured f = true →
    (s.face f).release.state ≠ .evacuating → (s.face f).deferral.used = none → (s.face f).berth.state = .dwelling →
    s.firstUnit f = some x → s.holds[i] = some h → h.face = f → x &&& h.mask = h.key &&& h.mask →
    (∀ j : Fin 8, j < i → ∀ g, s.holds[j] = some g → g.face = f → x &&& g.mask ≠ g.key &&& g.mask) →
    let now := (s.advance t).ms
    ∃ u, exec (.closeFace t) s = .next u ∧ Answered s u r rest .deferred [] ∧ u.holds = s.holds.set i none ∧
      (∀ p, (s.face f).deferral.partnerView = .dwelling p → p + h.minDwell ≤ now →
        (u.face f).deferral.used = none ∧ (u.face f).deferral.lastEnd = some (.partnerDwell, now) ∧
        (u.face f).deferral.count = s.bump (s.face f).deferral.count ∧ EventKind.holdEnded ∈ u.lif.flags.get (.face f) ∧
        (u.face f).doors = (s.face f).doors.map fun d =>
          if d.closable then (d.startClose ((s.advance t).doorContext f d.number) .routine).door else d) ∧
      ((s.face f).deferral.partnerView = .notDwelling ∨
          (∃ p, (s.face f).deferral.partnerView = .dwelling p ∧ now < p + h.minDwell) →
        u.blocks = { (s.blocks.modFace f fun b =>
          { b with deferral := { b.deferral with
              used := some ⟨i, h⟩, start := some now, maximum := some (now + h.maxHold)
              partnerSeen := match b.deferral.partnerView with | .dwelling _ => true | .notDwelling => false
              partnerTimer := match b.deferral.partnerView with | .dwelling p => some (p + h.minDwell) | .notDwelling => none
              count := s.bump b.deferral.count } }) with holds := s.holds.set i none })

/-- An accepted REOPEN_DOOR gives its door a ROUTINE OPEN and OPENING with the recycle count kept; an accepted CLOSE_DOOR gives its door
a ROUTINE CLOSE with the recycle count 0, whatever the berth state; no other door and nothing else of the blocks changes. A placed command
stands in the slot with its class, four sends and no sequence number, and one that it displaces counts in SUPERSEDED unless a counter
clear runs. An open makes the door OPENING and stops its timer; a close makes it CLOSING, stops its timer and sets the recycle count to 0,
and where a RECYCLE-policy zone of the door is OCCUPIED it is obstructed at once: recycled with a count of 1, or held (R50, R54 to R57,
R68, R69, R83, R193). -/
def Obligations.ReopenAndCloseDoorActOnOneDoor : Prop :=
  (∀ (s : State) (t : Micros) (r : Request) (rest : List Request) (f : Face) (n : Byte) (d : Door),
    r.face? = some f → s.configured f = true → r.body = [n] → s.findDoor f n.toNat = some d →
    (Takes s r rest (some .reopenDoor) → (s.face f).berth.state = .dwelling → d.enabled = true →
      (s.face f).release.state = .normal ∨ (s.face f).release.state = .released → (s.face f).proof.holdClosed.nonempty = false →
      d.state = .closing ∨ d.state = .held ∨ d.state = .stalled → d.latched = false →
      ∃ u, exec (.reopenDoor t) s = .next u ∧ Answered s u r rest .done [] ∧
        u.blocks = s.blocks.modFace f fun b =>
          { b with doors := b.doors.map fun x =>
              if x.number = n.toNat then d.startOpen ((s.advance t).doorContext f n.toNat) .routine else x }) ∧
    (Takes s r rest (some .closeDoor) → (s.face f).release.state ≠ .evacuating →
      d.state = .opened ∨ d.state = .held ∨ d.state = .stalled →
      ∃ u, exec (.closeDoor t) s = .next u ∧ Answered s u r rest .done [] ∧
        u.blocks = s.blocks.modFace f fun b =>
          { b with doors := b.doors.map fun x =>
              if x.number = n.toNat then (d.startClose ((s.advance t).doorContext f n.toNat) .routine).door else x })) ∧
  (∀ (d : Door) (ctx : DoorContext) (cmd : DoorCommand) (urgency : Urgency),
    let counted : Counter → Counter := fun k => if ctx.clearing = true then k else k + 1
    let placed : Door → DoorCommand → Urgency → Door := fun x c u => { x with
      superseded := if x.link.slot = none then x.superseded else counted x.superseded
      link := { x.link with slot := some ⟨c, u, none, 4⟩ } }
    d.place ctx cmd urgency = placed d cmd urgency ∧
    d.startOpen ctx urgency = { placed d .openCmd urgency with state := .opening, timer := none } ∧
    (let closing : Door := { placed d .closeCmd urgency with state := .closing, timer := none, recycleCount := 0 }
     let o := d.startClose ctx urgency
     (ctx.occupied = false → o = ⟨closing, [], []⟩) ∧
     (ctx.occupied = true →
       (d.enabled = true ∧ 0 < ctx.maxRecycles ∧ ctx.evacuating = false →
         o = ⟨{ placed closing .openCmd .urgent with
           state := .recycling, recycleCount := 1, recycles := counted d.recycles, obstructions := counted d.obstructions }, [], []⟩) ∧
       (¬(d.enabled = true ∧ 0 < ctx.maxRecycles ∧ ctx.evacuating = false) →
         o = ⟨{ placed closing .haltCmd .urgent with state := .held, obstructions := counted d.obstructions }, [.doorHeld], []⟩))))

/-- ISOLATE_DOOR locks a door out in every state: slot emptied, timer stopped, recycle count 0, latch and evac-opened mark cleared here
and in the release set, enabled kept; on a LOCKED_OUT door it changes nothing. RETURN_DOOR makes the isolation NONE and gives the
door LOST, the settled state of its last status, or UNKNOWN. In RESTORING a cleared mark that leaves the release set empty
completes the restore, and the step goes on to the test for adoption (R58, R59, R63, R146, R177). -/
def Obligations.IsolateAndReturnDoor : Prop :=
  ∀ (s : State) (t : Micros) (r : Request) (rest : List Request) (f : Face) (n : Byte) (d : Door),
    r.face? = some f → s.configured f = true → r.body = [n] → s.findDoor f n.toNat = some d →
    (Takes s r rest (some .isolateDoor) →
      (d.isolation = .lockedOut → ∃ u, exec (.isolateDoor t) s = .next u ∧ Answered s u r rest .done [] ∧
        u.blocks = s.blocks.modFace f fun b =>
          { b with doors := b.doors.map fun x => if x.number = n.toNat then d else x }) ∧
      (d.isolation ≠ .lockedOut →
        let out : Door := { d with
          state := .isolated, isolation := .lockedOut, recycleCount := 0, latched := false, evacOpened := false, timer := none
          link := { d.link with slot := none } }
        let set' := if d.latched ∨ d.evacOpened then clearMark n.toNat d.latched d.evacOpened (s.face f).release.set
          else (s.face f).release.set
        let ends := (s.face f).release.state = .restoring ∧ (d.latched ∨ d.evacOpened) ∧ set' = []
        (ends → ∃ v : State, exec (.isolateDoor t) s = .next ((v.testAdoption f).modLif fun l =>
            { l with replies := l.replies ++ [replyTo r .done []] }).arbitrate ∧
          v.lif.intake = rest ∧ v.lif.replies = s.lif.replies ∧ EventKind.restored ∈ v.lif.flags.get (.face f) ∧
          v.blocks = s.blocks.modFace f fun b =>
            { b with
              doors := b.doors.map fun x => if x.number = n.toNat then out else x
              release := { b.release with set := set', state := .normal } }) ∧
        (s.tbs.staged = none ∨ ¬ends →
        ∃ u, exec (.isolateDoor t) s = .next u ∧ Answered s u r rest .done [] ∧
          (ends → EventKind.restored ∈ u.lif.flags.get (.face f)) ∧
          u.blocks = s.blocks.modFace f fun b =>
            { b with
              doors := b.doors.map fun x => if x.number = n.toNat then out else x
              release := { b.release with set := set', state := if ends then .normal else b.release.state } }))) ∧
    (Takes s r rest (some .returnDoor) → d.isolation = .lockedOut → d.latched = false → d.evacOpened = false →
      let back : Door := { d with isolation := .none, timer := none }
      ∃ u, exec (.returnDoor t) s = .next u ∧ Answered s u r rest .done [] ∧
        (∀ st, d.link.lost = false → d.lastStatus = some st → st.settled = .stalled →
          EventKind.doorStalled ∈ u.lif.flags.get (.face f)) ∧
        u.blocks = s.blocks.modFace f fun b =>
          { b with doors := b.doors.map fun x =>
              if x.number = n.toNat then
                if d.link.lost then { back with state := .lost }
                else
                  match d.lastStatus with
                  | none => { back with state := .unknown }
                  | some st =>
                    if st.settled = .isolated then
                      { back with state := .isolated, isolation := .localSwitch, link := { d.link with slot := none } }
                    else if st.settled = .stalled then
                      { back with state := .stalled, link := { d.link with slot := none } }
                    else { back with state := st.settled }
              else x })

/-- HOLD_ADD places its entry in the lowest empty slot of the one list and answers with the slot; a full list refuses it with FULL, and
fields out of range with BAD_ARGUMENT. HOLD_CANCEL empties a slot that holds an entry of its face and is refused with BAD_STATE
otherwise, with BAD_ARGUMENT for a slot above 7. Neither touches a deferral in progress (R122 to R124). -/
def Obligations.HoldsAreAddedAndCancelled : Prop :=
  ∀ (s : State) (t : Micros) (r : Request) (rest : List Request) (f : Face), r.face? = some f →
    (Takes s r rest (some .holdAdd) → s.configured f = true →
      (parseHold f r.body = none → Refuses (.holdAdd t) s r rest .badArgument) ∧
      ∀ h, parseHold f r.body = some h →
        ((∀ i : Fin 8, s.holds[i] ≠ none) → Refuses (.holdAdd t) s r rest .full) ∧
        ∀ i : Fin 8, s.holds[i] = none → (∀ j : Fin 8, j < i → s.holds[j] ≠ none) →
          Answers (.holdAdd t) s { s.opened t with holds := s.holds.set i (some h) } r rest .done [BitVec.ofNat 8 i]) ∧
    (Takes s r rest (some .holdCancel) →
      ((∀ b, r.body = [b] → 8 ≤ b.toNat) → Refuses (.holdCancel t) s r rest .badArgument) ∧
      ∀ i : Fin 8, r.body = [BitVec.ofNat 8 i] →
        ((∀ h, s.holds[i] = some h → h.face ≠ f) → Refuses (.holdCancel t) s r rest .badState) ∧
        ∀ h, s.holds[i] = some h → h.face = f →
          Answers (.holdCancel t) s { s.opened t with holds := s.holds.set i none } r rest .done [])

/-! ## Release, evacuation and restore -/

/-- A latch advances the release sequence, from 255 to 0, puts the door into the release set as LATCHED, makes NORMAL and RESTORING
RELEASED and keeps RELEASED and EVACUATING, and raises MANUAL_RELEASE; no door record and no other face is touched (R134). -/
def Obligations.LatchAdvancesTheReleaseSequence : Prop :=
  ∀ (s : State) (f : Face) (n : Nat),
    let u := s.takeLatch f n
    (u.face f).release.seq.toNat = ((s.face f).release.seq.toNat + 1) % 256 ∧
      (∃ m ∈ (u.face f).release.set, m.door = n ∧ m.latched = true) ∧
      (∀ k, k ≠ n → ∀ m, m.door = k → (m ∈ (u.face f).release.set ↔ m ∈ (s.face f).release.set)) ∧
      (u.face f).release.state =
        (match (s.face f).release.state with
          | .normal => .released
          | .restoring => .released
          | .released => .released
          | .evacuating => .evacuating) ∧
      EventKind.manualRelease ∈ u.lif.flags.get (.face f) ∧
      u.blocks = s.blocks.modFace f fun b =>
        { b with release := { b.release with
            seq := b.release.seq + 1, set := (u.face f).release.set, state := (u.face f).release.state } }

/-- On a configured face that is not EVACUATING an EVACUATE, which sets the evacuation latch, and the assertion of the evacuation input,
which is recorded, begin evacuation: the state becomes EVACUATING, EVACUATION_START is raised, a STOPPED or DWELLING face is
opened and dwells with a deferral cancelled, and any other face is closed. The opening takes every enabled, unlatched door of isolation
NONE that is not LOST, marks it, and acts by its state: an URGENT OPEN and OPENING, the mark alone for OPENING and OPEN, and OPEN or OPENING
for RECYCLING (R9, R73, R74, R129, R137 to R139). What a deferral's end clears beside its timers is the model's choice
(notes/assumptions/30.md). -/
def Obligations.EvacuationBegins : Prop :=
  (∀ (s : State) (t : Micros) (f : Face) (c : Instr), doorsOrdered s → s.configured f = true →
    (s.face f).release.state ≠ .evacuating →
    (c = .evacInputChange t f .asserted ∧ s.running = true ∨
      c = .evacuate t ∧ ∃ r rest, Takes s r rest (some .evacuate) ∧ r.face? = some f ∧ r.body = []) →
    let ctx := fun n => { (s.advance t).doorContext f n with evacuating := true }
    ∃ u, exec c s = .next u ∧
      (∀ r rest, c = .evacuate t → s.lif.intake = r :: rest → Answered s u r rest .done []) ∧
      (u.face f).release.state = .evacuating ∧ (u.face f).release.seq = (s.face f).release.seq ∧
      (u.face f).release.latch = ((s.face f).release.latch || decide (c = .evacuate t)) ∧
      (u.face f).release.input = (if c = .evacuate t then (s.face f).release.input else .asserted) ∧
      EventKind.evacuationStart ∈ u.lif.flags.get (.face f) ∧
      ((s.face f).berth.state = .stopped ∨ (s.face f).berth.state = .dwelling →
        (u.face f).berth = { (s.face f).berth with
          state := .dwelling
          dwellStart := if (s.face f).berth.state = .stopped then some (s.advance t).ms else (s.face f).berth.dwellStart } ∧
        (u.face f).deferral.used = none ∧
        ((s.face f).deferral.used ≠ none → (u.face f).deferral = (s.face f).deferral.ended .cancelled (s.advance t).ms ∧
          EventKind.holdEnded ∈ u.lif.flags.get (.face f)) ∧
        (u.face f).doors = (s.face f).doors.map (fun d => if d.evacuable then (d.evacuationOpen (ctx d.number)).door else d) ∧
        ∀ d ∈ (s.face f).doors, d.evacuable = true → d.state ≠ .released → d.state ≠ .isolated →
          ∃ m ∈ (u.face f).release.set, m.door = d.number ∧ m.evacOpened = true) ∧
      ((s.face f).berth.state ≠ .stopped → (s.face f).berth.state ≠ .dwelling →
        (u.face f).berth = (s.face f).berth ∧ (u.face f).release.set = (s.face f).release.set ∧
        (u.face f).doors = (s.face f).doors.map fun d => if d.departing then (d.departureClose (ctx d.number)).door else d) ∧
      (u.face f).line = (s.face f).line ∧ u.holds = s.holds ∧ u.aln = s.aln ∧ u.gap = s.gap ∧ u.tbs = s.tbs) ∧
  (∀ (d : Door) (ctx : DoorContext),
    (d.evacuable = true ↔ d.enabled = true ∧ d.latched = false ∧ d.isolation = .none ∧ d.state ≠ .lost) ∧
    (d.state = .closed ∨ d.state = .closing ∨ d.state = .held ∨ d.state = .stalled ∨ d.state = .unknown →
      d.evacuationOpen ctx =
        ⟨{ d.place ctx .openCmd .urgent with state := .opening, timer := none, evacOpened := true }, [], [.evacSet]⟩) ∧
    (d.state = .opening ∨ d.state = .opened → d.evacuationOpen ctx = ⟨{ d with evacOpened := true }, [], [.evacSet]⟩) ∧
    (d.state = .recycling →
      ((∃ e, d.timer = some ⟨.recycleDwell, e⟩) →
        d.evacuationOpen ctx = ⟨{ d with state := .opened, timer := none, evacOpened := true }, [], [.evacSet]⟩) ∧
      ((∀ e, d.timer ≠ some ⟨.recycleDwell, e⟩) →
        d.evacuationOpen ctx = ⟨{ d with state := .opening, evacOpened := true }, [], [.evacSet]⟩)))

/-- An EVACUATE on a face already EVACUATING sets the latch and does nothing else; an input level on an unconfigured face, a level on a
face already EVACUATING, and a deassertion are recorded and begin nothing; an EVACUATE of an unconfigured face is refused. A berth
that reaches STOPPED under evacuation is opened at once against its new enable set and dwells: an alignment completion that an ALIGNING
berth accepts there takes the set and the pairing, opens and marks the doors that R74 names, raises its findings and makes the berth
DWELLING with its dwell start, which the partner sees (R9, R19, R44, R52, R74, R127, R137, R138, R140). What the end of a deferral then
clears is the model's choice (notes/assumptions/30.md). -/
def Obligations.EvacuationInForceOpensOnlyAStoppedTrain : Prop :=
  (∀ (s : State) (t : Micros) (f : Face) (level : Level), 
    (s.running = true → s.configured f = false ∨ (s.face f).release.state = .evacuating ∨ level = .deasserted →
      exec (.evacInputChange t f level) s =
        .next ((s.opened t).modRelease f fun x => { x with input := level }).arbitrate) ∧
    ∀ r rest, Takes s r rest (some .evacuate) → r.face? = some f → r.body = [] →
      (s.configured f = false → Refuses (.evacuate t) s r rest .notConfigured) ∧
      (s.configured f = true → (s.face f).release.state = .evacuating →
        Answers (.evacuate t) s ((s.opened t).modRelease f fun x => { x with latch := true }) r rest .done [])) ∧
  (∀ (s : State) (f : Face) (r : AlignResult), doorsOrdered s → (s.face f).release.state = .evacuating →
    let u := s.acceptAlignment f r
    (u.face f).berth.state = .dwelling ∧ (u.face f).berth.dwellStart = some s.ms ∧ (u.face f).berth.enable = r.enable ∧
      (u.face f).berth.pairing = r.pairing ∧ (u.face f).release.state = .evacuating ∧
      (u.face f).doors = (s.face f).doors.map fun d =>
        let x := ({ d with enabled := r.enable.contains d.number } : Door).dropOpen
        if x.evacuable then (x.evacuationOpen (s.doorContext f d.number)).door else x) ∧
  (∀ (s : State) (t : Micros) (i : InFlight), doorsOrdered s → s.running = true → s.aln.inflight = some i →
    let f := i.face
    let r := align i.input
    let now := (s.advance t).ms
    (s.face f).berth.state = .aligning → (s.face f).berth.ticket = i.ticket → (s.face f).release.state = .evacuating →
    ∃ u, exec (.alignmentComplete t) s = .next u ∧ u.lif.intake = s.lif.intake ∧ u.lif.replies = s.lif.replies ∧
      (u.face f).berth = { (s.face f).berth with
        state := .dwelling, dwellStart := some now, enable := r.enable, pairing := r.pairing
        train := (s.face f).berth.train.map fun y => { y with gapMark := y.gapMark || r.noProfile } } ∧
      (u.face f).doors = ((s.face f).doors.map fun d =>
        let x := ({ d with enabled := r.enable.contains d.number } : Door).dropOpen
        if x.evacuable then (x.evacuationOpen ((s.advance t).doorContext f d.number)).door else x) ∧
      (∀ d ∈ (s.face f).doors, r.enable.contains d.number = true → d.latched = false → d.isolation = .none →
        d.state ≠ .lost → d.state ≠ .released → d.state ≠ .isolated →
        ∃ m ∈ (u.face f).release.set, m.door = d.number ∧ m.evacOpened = true) ∧
      (u.face f).release = { (s.face f).release with set := (u.face f).release.set } ∧
      (u.face f).deferral =
        (if (s.face f).deferral.used = none then (s.face f).deferral else (s.face f).deferral.ended .cancelled now) ∧
      (u.face f.partner).deferral.partnerView = .dwelling now ∧ (u.face f.partner).berth = (s.face f.partner).berth ∧
      (r.misaligned = true → EventKind.misaligned ∈ u.lif.flags.get (.face f)) ∧
      (r.partialAlign = true → EventKind.partialAlign ∈ u.lif.flags.get (.face f)) ∧
      (r.noProfile = true → (u.face f).proof.active.noProfile = true) ∧
      u.aln.computations = s.aln.computations.modify f s.bump ∧ (u.face f).line = (s.face f).line ∧ u.holds = s.holds ∧
      u.gap = s.gap ∧ u.tbs = s.tbs)

/-- RESTORE makes its tests in order: fields, configured face, release state, the pair of sequence and inverse, the input, the levers.
The pair's failure is PROTECT: counted, raised, answered with the current sequence; every other refusal leaves the part's state as it
was (R142, R143). -/
def Obligations.RestoreIsRefusedInOrder : Prop :=
  ∀ (s : State) (t : Micros) (r : Request) (rest : List Request), Takes s r rest (some .restore) →
    (r.face? = none → Refuses (.restore t) s r rest .badArgument) ∧
    ∀ f, r.face? = some f →
      (r.body.length ≠ 2 → Refuses (.restore t) s r rest .badArgument) ∧
      ∀ seq inverse, r.body = [seq, inverse] →
        (s.configured f = false → Refuses (.restore t) s r rest .notConfigured) ∧
        (s.configured f = true →
          ((s.face f).release.state = .normal ∨ (s.face f).release.state = .restoring → Refuses (.restore t) s r rest .badState) ∧
          ((s.face f).release.state = .released ∨ (s.face f).release.state = .evacuating →
            (¬(seq = (s.face f).release.seq ∧ inverse.toNat = 255 - seq.toNat) →
              Answers (.restore t) s
                (((s.opened t).modRelease f fun x => { x with refused := s.bump x.refused }).raiseFace f .restoreRefused)
                r rest (.refused .protect) [(s.face f).release.seq]) ∧
            (seq = (s.face f).release.seq → inverse.toNat = 255 - seq.toNat →
              ((s.face f).release.input = .asserted → Refuses (.restore t) s r rest .inputActive) ∧
              ((s.face f).release.input = .deasserted →
                (∃ m ∈ (s.face f).release.set, m.latched = true ∧
                  ∃ d st, s.findDoor f m.door = some d ∧ d.lastStatus = some st ∧ st.releaseActuated = true) →
                Refuses (.restore t) s r rest .releaseActive))))

/-- An accepted RESTORE clears the evacuation latch and keeps the quoted sequence with the time. With an empty release set the state
becomes NORMAL, RESTORED is raised, and the step goes on to the test for adoption; otherwise the state becomes RESTORING, and every latched
door and every evac-opened door not in CLOSED is closed with a ROUTINE CLOSE, but that one in CLOSING is left as it is and one in LOST is
given the CLOSE and keeps its state. The answer is DONE (R75, R142, R145, R177). -/
def Obligations.RestoreClosesTheReleasedDoors : Prop :=
  (∀ (s : State) (t : Micros) (r : Request) (rest : List Request) (f : Face) (seq inverse : Byte), doorsOrdered s →
    Takes s r rest (some .restore) → r.face? = some f → r.body = [seq, inverse] → s.configured f = true →
    (s.face f).release.state = .released ∨ (s.face f).release.state = .evacuating →
    seq = (s.face f).release.seq → inverse.toNat = 255 - seq.toNat → (s.face f).release.input = .deasserted →
    (∀ m ∈ (s.face f).release.set, m.latched = true → ∀ d st, s.findDoor f m.door = some d → d.lastStatus = some st →
      st.releaseActuated = false) →
    ((s.face f).release.set = [] → ∃ v : State, exec (.restore t) s = .next ((v.testAdoption f).modLif fun l =>
        { l with replies := l.replies ++ [replyTo r .done []] }).arbitrate ∧
      v.lif.intake = rest ∧ v.lif.replies = s.lif.replies ∧ EventKind.restored ∈ v.lif.flags.get (.face f) ∧
      v.blocks = s.blocks.modFace f fun b =>
        { b with release := { b.release with
            state := .normal, latch := false, lastRestore := some (seq, (s.advance t).ms) } }) ∧
    (s.tbs.staged = none ∨ (s.face f).release.set ≠ [] →
    ∃ u, exec (.restore t) s = .next u ∧ Answered s u r rest .done [] ∧
      ((s.face f).release.set = [] → EventKind.restored ∈ u.lif.flags.get (.face f) ∧
        u.blocks = s.blocks.modFace f fun b =>
          { b with release := { b.release with
              state := .normal, latch := false, lastRestore := some (seq, (s.advance t).ms) } }) ∧
      ((s.face f).release.set ≠ [] →
        u.blocks = s.blocks.modFace f fun b =>
          { b with
            release := { b.release with
              state := .restoring, latch := false, lastRestore := some (seq, (s.advance t).ms) }
            doors := b.doors.map fun d =>
              if d.restorable then
                (d.restoreClose { (s.advance t).doorContext f d.number with evacuating := false }).door
              else d }))) ∧
  (∀ (d : Door) (ctx : DoorContext),
    (d.restorable = true ↔ (d.latched = true ∨ d.evacOpened = true ∧ d.state ≠ .closed) ∧
      (d.state = .released ∨ d.state = .opening ∨ d.state = .opened ∨ d.state = .recycling ∨ d.state = .held ∨ d.state = .stalled ∨
        d.state = .unknown ∨ d.state = .lost)) ∧
    (d.state = .lost → d.restoreClose ctx = ⟨d.place ctx .closeCmd .routine, [], []⟩) ∧
    (d.state ≠ .lost → d.restoreClose ctx = d.startClose ctx .routine))

/-! ## Tunnels -/

/-- A TUNNEL to a door that is ISOLATED, or on a face whose berth is VACANT, becomes the line's exchange, WAITING and without a reply;
any other is refused, with NOT_NOW before BUSY and BAD_ARGUMENT before both. An exchange outstanding 200 ms after its forwarding
ends with TIMEOUT (R96, R97, R99). -/
def Obligations.TunnelIsForwardedOrRefused : Prop :=
  ∀ (s : State) (t : Micros) (f : Face),
    (∀ (r : Request) (rest : List Request), Takes s r rest (some .tunnel) → r.face? = some f → s.configured f = true →
      (r.body.length < 2 ∨ 33 < r.body.length → Refuses (.tunnel t) s r rest .badArgument) ∧
      ∀ (n : Byte) (payload : List Byte), r.body = n :: payload → 1 ≤ payload.length → payload.length ≤ 32 →
        ((∀ d ∈ (s.face f).doors, d.number ≠ n.toNat) → Refuses (.tunnel t) s r rest .badArgument) ∧
        ∀ d, s.findDoor f n.toNat = some d →
          (d.state ≠ .isolated → (s.face f).berth.state ≠ .vacant → Refuses (.tunnel t) s r rest .notNow) ∧
          (d.state = .isolated ∨ (s.face f).berth.state = .vacant →
            ((s.face f).line.tunnel ≠ none → Refuses (.tunnel t) s r rest .busy) ∧
            ((s.face f).line.tunnel = none →
              exec (.tunnel t) s = .next (((s.opened t).modLif fun l => { l with intake := rest }).modLine f fun l =>
                { l with tunnel := some { tag := r.tag, drop := d.drop, payload := payload,
                                          forwardedAt := (s.advance t).ms, sent := false } }).arbitrate))) ∧
    (s.running = true → ∀ x, (s.face f).line.tunnel = some x → x.forwardedAt + 200 ≤ (s.advance t).ms →
      exec (.tunnelTimeout t f) s = .next ((((s.opened t).modLine f fun l => { l with tunnel := none }).modLif fun l =>
        { l with replies := l.replies ++
            [{ kind := 0x30, tag := x.tag, result := .refused .timeout, data := [], nextPart := 0 }] }).arbitrate))

/-! ## Door records -/

/-- The settled state of a status is ISOLATED by the local-isolation flag, then STALLED by the drive-fault flag, then CLOSED, OPEN,
STALLED or UNKNOWN by the position. A position is mapped by the door's state: the new state, the count of an open cycle, the recycle
dwell that starts once, DOOR_STALLED at every entry to STALLED, the marks cleared at every entry to CLOSED, and the timer kept where
the state stands. A good status is taken in steps: last status, return decision of a LOST door, acknowledgement with its timeout, end at
a LOCKED_OUT or RELEASED door, latch, local isolation, drive fault, position, obstruction (R51, R60 to R64, R67 to R69, R76). -/
def Obligations.StatusIsMappedByTheDoorState : Prop :=
  (∀ st : Status, st.settled =
    if st.localIsolation = true then .isolated
    else if st.driveFault = true ∨ st.position = .stoppedMid then .stalled
    else if st.position = .closedLocked then .closed
    else if st.position = .opened then .opened
    else .unknown) ∧
  (∀ (d : Door) (ctx : DoorContext) (st : Status),
    let o := d.mapPosition ctx st
    o.door.state =
      (match d.state, st.position with
        | .unknown, .closedLocked => .closed
        | .unknown, .opened => .opened
        | .unknown, .stoppedMid => .stalled
        | .closed, p => if p = .closedLocked then .closed else .stalled
        | .opening, .opened => .opened
        | .closing, .closedLocked => .closed
        | .held, .closedLocked => .closed
        | .stalled, .closedLocked => .closed
        | x, _ => x) ∧
      (o.door.state = .stalled → d.state ≠ .stalled → EventKind.doorStalled ∈ o.events) ∧
      (o.door.state = .closed → d.state ≠ .closed → o.door.latched = false ∧ o.door.evacOpened = false ∧
        (d.latched = true → DoorReport.latchCleared ∈ o.reports) ∧ (d.evacOpened = true → DoorReport.evacCleared ∈ o.reports)) ∧
      o.door.openCycles = (if d.state = .opening ∧ st.position = .opened then ctx.bump d.openCycles else d.openCycles) ∧
      (d.state = .recycling → st.position = .opened → o.door.timer =
        if d.timer.map (fun x => x.kind) = some .recycleDwell then d.timer
        else some ⟨.recycleDwell, ctx.ms + ctx.recycleDwell⟩) ∧
      (o.door.state = d.state → ¬(d.state = .recycling ∧ st.position = .opened) → o = Door.plain d) ∧
      o.door.enabled = d.enabled ∧ o.door.recycleCount = d.recycleCount ∧ o.door.isolation = d.isolation ∧
      o.door.lastStatus = d.lastStatus) ∧
  (∀ (d : Door) (ctx : DoorContext) (st : Status) (returned : Bool),
    let o := d.takeStatus ctx st returned
    let first := if returned then [EventKind.doorReturned] else []
    let x := ({ d with lastStatus := some st } : Door).acked ctx st
    let emptied := { x.link with slot := none }
    let ends := d.isolation = .lockedOut ∨ d.state = .released
    (d.state = .lost → let q := ({ d with lastStatus := some st } : Door).returnDecision ctx st
      o = ⟨q.door.acked ctx st, q.events, q.reports⟩) ∧
    (d.state ≠ .lost →
      (ends → o = ⟨x, first, []⟩) ∧
      (¬ends → st.releaseActuated = true → d.latched = false →
        o = ⟨{ x with state := .released, timer := none, latched := true, link := emptied
                      isolation := if d.isolation = .localSwitch then .none else d.isolation }, first, [.latchSet]⟩) ∧
      (¬ends → st.releaseActuated = false ∨ d.latched = true →
        (d.isolation = .none → d.latched = false → st.localIsolation = true →
          o = ⟨{ x with state := .isolated, timer := none, isolation := .localSwitch, recycleCount := 0, link := emptied },
            first, []⟩) ∧
        (d.isolation = .localSwitch → st.localIsolation = true → o = ⟨x, first, []⟩) ∧
        (d.isolation = .localSwitch → st.localIsolation = false →
          let back : Door := { x with isolation := .none, timer := none, state := st.settled }
          (st.settled = .stalled → o = ⟨{ back with link := emptied }, first ++ [.doorStalled], []⟩) ∧
          (st.settled = .closed → o = ⟨{ back with latched := false, evacOpened := false }, first,
            (if d.latched then [DoorReport.latchCleared] else []) ++ (if d.evacOpened then [DoorReport.evacCleared] else [])⟩) ∧
          (st.settled = .opened ∨ st.settled = .unknown → o = ⟨back, first, []⟩)) ∧
        (d.isolation = .none → st.localIsolation = false ∨ d.latched = true →
          (st.driveFault = true → d.state = .stalled → o = ⟨x, first, []⟩) ∧
          (st.driveFault = true → d.state ≠ .stalled →
            o = ⟨{ x with state := .stalled, timer := none, link := emptied }, first ++ [.doorStalled], []⟩) ∧
          (st.driveFault = false →
            let m := x.mapPosition ctx st
            let h := m.door.obstruct ctx
            (m.door.state = .closing ∧ st.obstruction = true →
              o = ⟨h.door, first ++ m.events ++ h.events, m.reports ++ h.reports⟩) ∧
            (¬(m.door.state = .closing ∧ st.obstruction = true) → o = ⟨m.door, first ++ m.events, m.reports⟩))))))

/-- An obstruction counts and is resolved by one test: an enabled door below the face's max recycles, outside evacuation, gets an URGENT
OPEN and RECYCLING with its recycle count one up; any other gets an URGENT HALT and HELD with DOOR_HELD raised. A door that enters
CLOSING while a RECYCLE-policy zone of it is OCCUPIED is obstructed at once. An obstruction report, once taken, is not kept: a door in
CLOSING is obstructed by it, and any other takes none (R68, R69, R115). -/
def Obligations.ObstructionRecyclesOrHolds : Prop :=
  (∀ (d : Door) (ctx : DoorContext),
    let may := d.enabled = true ∧ d.recycleCount < ctx.maxRecycles ∧ ctx.evacuating = false
    let o := d.obstruct ctx
    (o.door.obstructions = ctx.bump d.obstructions ∧ o.door.latched = d.latched ∧ o.door.evacOpened = d.evacOpened ∧
      o.door.timer = none ∧ o.reports = [] ∧ o.door.enabled = d.enabled) ∧
    (may → o.door.state = .recycling ∧ o.events = [] ∧ o.door.recycleCount = d.recycleCount + 1 ∧
      o.door.recycles = ctx.bump d.recycles ∧ o.door.link.slot = some ⟨.openCmd, .urgent, none, 4⟩) ∧
    (¬may → o.door.state = .held ∧ o.events = [.doorHeld] ∧ o.door.recycleCount = d.recycleCount ∧
      o.door.recycles = d.recycles ∧ o.door.link.slot = some ⟨.haltCmd, .urgent, none, 4⟩) ∧
    (ctx.occupied = true → d.enterClosing ctx = (d.goTo .closing).obstruct ctx) ∧
    (ctx.occupied = false → d.enterClosing ctx = Door.plain (d.goTo .closing))) ∧
  (∀ (s : State) (t : Micros) (f : Face) (n : Nat) (d : Door) (pre post : List ObstructionReport) (x : ObstructionReport),
    s.running = true → (s.face f).reports = pre ++ x :: post → x.door = n → (∀ y ∈ pre, y.door ≠ n) → s.findDoor f n = some d →
    ∃ u, exec (.obstructionReport t f n) s = .next u ∧ u.lif.intake = s.lif.intake ∧ u.lif.replies = s.lif.replies ∧
      u.blocks = s.blocks.modFace f fun b =>
        { b with
          reports := pre ++ post
          doors := b.doors.map fun y =>
            if y.number = n then
              if d.state = .closing then (d.obstruct ((s.advance t).doorContext f n)).door else d
            else y })

/-- The first good status of a LOST door decides its state: a latch first, then a latched door's CLOSE, then the settled state, then the
command that waited in its slot. A door in LOCAL whose flag is clear gets isolation NONE, as a latch does. A door that enters CLOSING while
a RECYCLE-policy zone of it is OCCUPIED is obstructed at once. An entry to STALLED or HELD raises its event as anywhere (R61, R68, R72,
R76, R134, R157, R188). -/
def Obligations.ReturnDecisionFollowsItsTable : Prop :=
  ∀ (d : Door) (ctx : DoorContext) (st : Status),
    let o := d.returnDecision ctx st
    let emptied := { d.link with slot := none }
    let back : Door := { d with timer := none, isolation := if d.isolation = .localSwitch then .none else d.isolation }
    let evac := if d.evacOpened then [DoorReport.evacCleared] else []
    let closes := fun x : Door =>
      (ctx.occupied = false → o = ⟨x, [.doorReturned], []⟩) ∧
      (ctx.occupied = true → o = ⟨(x.obstruct ctx).door, .doorReturned :: (x.obstruct ctx).events, []⟩)
    (st.releaseActuated = true → d.latched = false →
      o = ⟨{ back with state := .released, latched := true, link := emptied }, [.doorReturned], [.latchSet]⟩) ∧
    (d.latched = true →
      (d.slotCommand = some .closeCmd → st.position = .closedLocked →
        o = ⟨{ d with state := .closed, timer := none, latched := false, evacOpened := false, link := emptied }, [.doorReturned],
          .latchCleared :: evac⟩) ∧
      (d.slotCommand = some .closeCmd → st.position ≠ .closedLocked → closes { d with state := .closing, timer := none }) ∧
      (d.slotCommand ≠ some .closeCmd → o = ⟨{ d with state := .released, timer := none, link := emptied }, [.doorReturned], []⟩)) ∧
    (d.latched = false → st.releaseActuated = false →
      (st.settled = .isolated →
        o = ⟨{ d with state := .isolated, timer := none, isolation := .localSwitch, link := emptied }, [.doorReturned], []⟩) ∧
      (st.settled = .stalled → o = ⟨{ back with state := .stalled, link := emptied }, [.doorReturned, .doorStalled], []⟩) ∧
      (st.settled = .closed ∨ st.settled = .opened ∨ st.settled = .unknown →
        (st.settled = .closed → d.slotCommand = none ∨ d.slotCommand = some .closeCmd →
          o = ⟨{ back with state := .closed, evacOpened := false, link := emptied }, [.doorReturned], evac⟩) ∧
        (st.settled ≠ .closed → d.slotCommand = none → o = ⟨{ back with state := st.settled }, [.doorReturned], []⟩) ∧
        (d.slotCommand = some .openCmd → st.settled = .opened →
          o = ⟨{ back with state := .opened, link := emptied }, [.doorReturned], []⟩) ∧
        (d.slotCommand = some .openCmd → st.settled ≠ .opened → o = ⟨{ back with state := .opening }, [.doorReturned], []⟩) ∧
        (d.slotCommand = some .closeCmd → st.settled ≠ .closed → closes { back with state := .closing }) ∧
        (d.slotCommand = some .haltCmd → o = ⟨{ back with state := .held }, [.doorReturned, .doorHeld], []⟩)))

/-- A due OPEN_TIMEOUT stalls a door in OPENING or RECYCLING and a due CLOSE_TIMEOUT a door in CLOSING: slot emptied, DOOR_STALLED
raised, recycle count and marks kept. A due RECYCLE_DWELL gives a door in RECYCLING a ROUTINE CLOSE and CLOSING with its recycle
count kept (R66, R67, R68). -/
def Obligations.DoorTimersStallOrClose : Prop :=
  ∀ (s : State) (t : Micros) (f : Face) (n : Nat) (d : Door) (x : DoorTimer), s.running = true → s.findDoor f n = some d →
    d.timer = some x → x.expiry ≤ (s.advance t).ms →
    let stalled : Door := { d with state := .stalled, timer := none, link := { d.link with slot := none } }
    (x.kind = .openTimeout → d.state = .opening ∨ d.state = .recycling →
      ∃ u, exec (.openTimeoutExpiry t f n) s = .next u ∧ EventKind.doorStalled ∈ u.lif.flags.get (.face f) ∧
        (u.face f).proof.active.doorStalled = true ∧ u.lif.intake = s.lif.intake ∧ u.lif.replies = s.lif.replies ∧
        u.blocks = s.blocks.modFace f fun b => { b with doors := b.doors.map fun y => if y.number = n then stalled else y }) ∧
    (x.kind = .closeTimeout → d.state = .closing →
      ∃ u, exec (.closeTimeoutExpiry t f n) s = .next u ∧ EventKind.doorStalled ∈ u.lif.flags.get (.face f) ∧
        (u.face f).proof.active.doorStalled = true ∧ u.lif.intake = s.lif.intake ∧ u.lif.replies = s.lif.replies ∧
        u.blocks = s.blocks.modFace f fun b => { b with doors := b.doors.map fun y => if y.number = n then stalled else y }) ∧
    (x.kind = .recycleDwell → d.state = .recycling →
      let ctx := (s.advance t).doorContext f n
      let closing : Door := { d.place ctx .closeCmd .routine with state := .closing, timer := none }
      ∃ u, exec (.recycleDwellExpiry t f n) s = .next u ∧ u.lif.intake = s.lif.intake ∧ u.lif.replies = s.lif.replies ∧
        u.blocks = s.blocks.modFace f fun b =>
          { b with doors := b.doors.map fun y =>
              if y.number = n then if ctx.occupied then (closing.obstruct ctx).door else closing else y })

/-- The maximum timer and the partner dwell timer end a deferral with MAXIMUM or PARTNER_DWELL: HOLD_ENDED is raised, both timers stop, and
the held close is carried out in the same step, on the doors as CLOSE_FACE would. The partner's leaving DWELLING ends a deferral that
has seen it dwell with PARTNER_LEFT and its held close, and is otherwise only noted; its entry to DWELLING starts the partner dwell timer,
which expires at once where T is already reached (R127, R128). A close of a door is as ReopenAndCloseDoorActOnOneDoor states it. That a deferral's end clears its start and its partner-seen mark is the
model's choice (notes/assumptions/30.md). -/
def Obligations.DeferralEndsWithItsClose : Prop :=
  (∀ (s : State) (t : Micros) (f : Face) (c : Instr) (cause : EndCause), doorsOrdered s → s.running = true →
    (s.face f).deferral.used ≠ none →
    (c = .holdMaximumExpiry t f ∧ cause = .maximum ∧ (∃ e, (s.face f).deferral.maximum = some e ∧ e ≤ (s.advance t).ms) ∨
      c = .partnerDwellExpiry t f ∧ cause = .partnerDwell ∧
        ∃ e, (s.face f).deferral.partnerTimer = some e ∧ e ≤ (s.advance t).ms) →
    ∃ u, exec c s = .next u ∧ u.lif.intake = s.lif.intake ∧ u.lif.replies = s.lif.replies ∧
      EventKind.holdEnded ∈ u.lif.flags.get (.face f) ∧
      u.blocks = s.blocks.modFace f fun b =>
        { b with
          deferral := { b.deferral with
            used := none, start := none, maximum := none, partnerSeen := false, partnerTimer := none
            lastEnd := some (cause, (s.advance t).ms) }
          doors := b.doors.map fun d =>
            if d.closable then (d.startClose ((s.advance t).doorContext f d.number) .routine).door else d }) ∧
  (∀ (s : State) (f : Face), doorsOrdered s →
    let u := s.partnerExits f
    (u.face f).deferral.partnerView = .notDwelling ∧ (u.face f).deferral.partnerTimer = none ∧
    ((s.face f).deferral.used ≠ none → (s.face f).deferral.partnerSeen = true →
      (u.face f).deferral.used = none ∧ (u.face f).deferral.lastEnd = some (.partnerLeft, s.ms) ∧
      EventKind.holdEnded ∈ u.lif.flags.get (.face f) ∧
      (u.face f).doors = (s.face f).doors.map fun d =>
        if d.closable then (d.startClose (s.doorContext f d.number) .routine).door else d) ∧
    ((s.face f).deferral.used = none ∨ (s.face f).deferral.partnerSeen = false →
      u.lif = s.lif ∧ u.blocks = s.blocks.modFace f fun b =>
        { b with deferral := { b.deferral with partnerView := .notDwelling, partnerTimer := none } })) ∧
  (∀ (s : State) (f : Face) (start : Millis), doorsOrdered s →
    let u := s.partnerEnters f start
    ((s.face f).deferral.used = none →
      u.lif = s.lif ∧ u.blocks = s.blocks.modFace f fun b =>
        { b with deferral := { b.deferral with partnerView := .dwelling start } }) ∧
    ∀ y, (s.face f).deferral.used = some y →
      (s.ms < start + y.entry.minDwell →
        u.lif = s.lif ∧ u.blocks = s.blocks.modFace f fun b =>
          { b with deferral := { b.deferral with
              partnerView := .dwelling start, partnerSeen := true, partnerTimer := some (start + y.entry.minDwell) } }) ∧
      (start + y.entry.minDwell ≤ s.ms →
        EventKind.holdEnded ∈ u.lif.flags.get (.face f) ∧
        u.blocks = s.blocks.modFace f fun b =>
          { b with
            deferral := { b.deferral with partnerView := .dwelling start }.ended .partnerDwell s.ms
            doors := b.doors.map fun d =>
              if d.closable then (d.startClose (s.doorContext f d.number) .routine).door else d }))

/-! ## Door lines -/

/-- The next turn of a line goes to the lowest drop address with an URGENT command and a link that is not lost, then to a waiting tunnel
exchange, then to the smallest drop address above the rotation position, or the smallest of all. A first send gives its command the
number one above the last issued one, or above the base where none was issued, with a step over the base, and the command keeps it; a
drop frame that sends no command carries the base, or 0 (R84 to R86, R89); the 0 of an urgent turn is the model's choice
(notes/assumptions/43.md). -/
def Obligations.TurnsAndSendsAreChosenInOrder : Prop :=
  (∀ (doors : List Door) (line : DoorLine),
    let urgent : Door → Prop := fun d => d.link.lost = false ∧ ∃ c, d.link.slot = some c ∧ c.urgency = .urgent
    (∀ d ∈ doors, urgent d → (∀ x ∈ doors, urgent x → d.drop ≤ x.drop) → chooseTurn doors line = some (.urgent, d.drop)) ∧
    ((∀ d ∈ doors, ¬urgent d) →
      (∀ x, line.tunnel = some x → x.sent = false → chooseTurn doors line = some (.tunnel, x.drop)) ∧
      ((∀ x, line.tunnel = some x → x.sent = true) →
        (∀ p d, line.rotation = some p → d ∈ doors → p < d.drop → (∀ x ∈ doors, p < x.drop → d.drop ≤ x.drop) →
          chooseTurn doors line = some (.poll, d.drop)) ∧
        (∀ d ∈ doors, (line.rotation = none ∨ ∃ p, line.rotation = some p ∧ ∀ x ∈ doors, x.drop ≤ p) →
          (∀ x ∈ doors, d.drop ≤ x.drop) → chooseTurn doors line = some (.poll, d.drop))))) ∧
  (∀ (l : UnitLink) (kind : TurnKind) (payload : List Byte),
    (kind = .tunnel → l.carries kind payload = .tunnel payload (l.base.getD 0) ∧ l.begun kind = l) ∧
    (∀ c b, l.slot = some c → l.base = some b → l.lost = false →
      (kind = .urgent ∧ c.urgency = .urgent ∨ kind = .poll ∧ c.urgency = .routine) →
      (∀ n, c.seq = some n → l.carries kind payload = .command c.command n ∧ l.begun kind = l) ∧
      (c.seq = none → ∃ n, l.carries kind payload = .command c.command n ∧ n ≠ b ∧
        (l.begun kind).slot = some { c with seq := some n } ∧ (l.begun kind).lastIssued = some n ∧
        (let one := (l.lastIssued.getD b).toNat + 1
         n.toNat = if one % 16 = b.toNat then (one + 1) % 16 else one % 16))) ∧
    (kind ≠ .tunnel → (l.slot = none ∨ l.base = none ∨ l.lost = true ∨
        ∃ c, l.slot = some c ∧ (kind = .urgent ∧ c.urgency = .routine ∨ kind = .poll ∧ c.urgency = .urgent)) →
      l.carries kind payload = .nothing (l.base.getD 0) ∧ l.begun kind = l))

/-- An answer is a good frame exactly when its bytes lay a status out for the drop address of its turn: address, position and flags, echo,
the reply where its bit is set, and the CRC. A good frame within the window clears the unit's bad count, ends a link loss, gives the unit its base and its door the status, with the
events and the reports of R60; a tunnel turn of the outstanding exchange ends it with DONE and the unit's reply; the next turn begins. A
send that it answers without the echo costs one send first, and the last send empties the slot and stalls the door before the status is
taken. A status that completes a restore goes on to the test for adoption (R70, R81, R87, R88, R92, R95, R98, R134, R146, R199), which may
end the exchange first (notes/assumptions/46.md). That a frame's characters follow one another without a gap, so that its length and its
end say whether all of it lies in the window, is the model's choice (notes/assumptions/49.md). -/
def Obligations.GoodFrameGivesTheDoorItsStatus : Prop :=
  (∀ (drop : Nat) (bytes : List Byte) (ok : Bool),
    (∀ (st : Status) (reply : Option (List Byte)), judgeAnswer drop bytes ok = .good st reply ↔
      ok = true ∧ (reply.getD []).length ≤ 32 ∧ ∃ b0 b1 b2 more,
        let body : List Byte := b0 :: b1 :: b2 :: (match reply with | none => [] | some r => BitVec.ofNat 8 r.length :: r)
        bytes = body ++ crc8 body :: more ∧ b0.toNat = drop ∧ b2.toNat = st.echo.toNat ∧
          b1.toNat =
            (match st.position with
              | .closedLocked => 0 | .closedUnlocked => 1 | .opening => 2 | .opened => 3 | .closing => 4 | .stoppedMid => 5) +
            8 * reply.isSome.toNat + 16 * st.obstruction.toNat + 32 * st.releaseActuated.toNat + 64 * st.localIsolation.toNat +
            128 * st.driveFault.toNat) ∧
    (judgeAnswer drop bytes ok = .incomplete ↔ bytes.length < 4 ∨
      ∃ b1, bytes[1]? = some b1 ∧ b1.getLsbD 3 = true ∧ ∀ n, bytes[3]? = some n → bytes.length < 5 + n.toNat)) ∧
  (∀ (s : State) (t : Micros) (f : Face) (bytes : List Byte) (ok : Bool) (x : Turn) (st : Status) (reply : Option (List Byte)) (d : Door),
    doorsOrdered s → ((s.face f).doors.map fun y => y.drop).Nodup → s.running = true → s.configured f = true →
    (s.face f).line.turn = some x → x.orphan = false → max s.now t ≤ x.windowEnd → x.windowEnd + 11 * bytes.length ≤ max s.now t + 800 →
    judgeAnswer x.drop bytes ok = .good st reply → s.findDrop f x.drop = some d →
    (∀ c n k, x.carried = .command c n → d.link.slot = some k → k.seq = some n → st.echo = n) →
    let d1 : Door := { d with link := { d.link with
      badCount := 0, lost := false, base := some st.echo
      slot := if d.link.lost then d.link.slot.map fun c => { c with left := 4 } else d.link.slot } }
    let o := d1.takeStatus ((s.advance t).doorContext f d.number) st d.link.lost
    (s.tbs.staged = none ∨ (s.face f).release.state ≠ .restoring ∨ (∀ q ∈ o.reports, q.clears = false) →
      GivesStatus (.turnAnswer t f bytes ok) s f x d o st.echo reply) ∧
    ((s.face f).release.state = .restoring → DoorReport.latchSet ∉ o.reports → (∃ q ∈ o.reports, q.clears = true) →
      (∀ m ∈ (s.face f).release.set, m.door = d.number ∧ (m.latched = true → DoorReport.latchCleared ∈ o.reports) ∧
        (m.evacOpened = true → DoorReport.evacCleared ∈ o.reports)) →
      ∃ v : State, exec (.turnAnswer t f bytes ok) s = .next (((v.testAdoption f).tunnelAnswered f x reply).nextTurn f).arbitrate ∧
        v.lif.intake = s.lif.intake ∧ v.lif.replies = s.lif.replies ∧ EventKind.restored ∈ v.lif.flags.get (.face f) ∧
        v.blocks = s.blocks.modFace f fun b =>
          { b with
            doors := b.doors.map fun y => if y.number = d.number then o.door else y
            release := { b.release with state := .normal, set := [] } })) ∧
  (∀ (s : State) (t : Micros) (f : Face) (bytes : List Byte) (ok : Bool) (x : Turn) (st : Status) (reply : Option (List Byte)) (d : Door)
    (c : DoorCommand) (n : BitVec 4) (k : SlotCommand),
    doorsOrdered s → ((s.face f).doors.map fun y => y.drop).Nodup → s.running = true → s.configured f = true →
    (s.face f).line.turn = some x → x.orphan = false → max s.now t ≤ x.windowEnd → x.windowEnd + 11 * bytes.length ≤ max s.now t + 800 →
    judgeAnswer x.drop bytes ok = .good st reply → s.findDrop f x.drop = some d →
    x.carried = .command c n → d.link.slot = some k → k.seq = some n → st.echo ≠ n →
    let left := if d.link.lost then 4 else k.left
    let d1 : Door := { d with
      state := if left ≤ 1 then .stalled else d.state
      timer := if left ≤ 1 then none else d.timer
      link := { d.link with
        badCount := 0, lost := false, base := some st.echo
        slot := if left ≤ 1 then none else some { k with left := left - 1 } } }
    let o := d1.takeStatus ((s.advance t).doorContext f d.number) st d.link.lost
    s.tbs.staged = none ∨ (s.face f).release.state ≠ .restoring ∨ (∀ q ∈ o.reports, q.clears = false) →
    GivesStatus (.turnAnswer t f bytes ok) s f x d
      { o with events := (if left ≤ 1 then [EventKind.doorStalled] else []) ++ o.events } st.echo reply)

/-- A window that expires without an answer, and a bad frame within it, are charged to the unit that the turn was sent to: BAD_FRAMES
counts, and the bad count rises below the face's limit. At the limit the link is lost, DOOR_LOST is raised and the door is LOST
unless it is LOCKED_OUT, with its command kept. Otherwise a send of the command in the slot costs one send, and the last one
stalls the door. Another door keeps its state, and the next turn begins. A charged tunnel turn leaves its exchange WAITING, and the exchange
takes the next turn for which no urgent command waits (R81, R84, R87, R92 to R94, R98). That a frame's characters follow one another
without a gap is the model's choice (notes/assumptions/49.md). -/
def Obligations.BadFrameIsChargedToItsUnit : Prop :=
  ∀ (s : State) (t : Micros) (f : Face) (c : Instr) (x : Turn) (d : Door) (p : FaceParams),
    doorsOrdered s → ((s.face f).doors.map fun y => y.drop).Nodup → s.running = true → s.params? f = some p →
    (s.face f).line.turn = some x → x.orphan = false → s.findDrop f x.drop = some d →
    (c = .answerWindowExpiry t f ∧ x.windowEnd ≤ max s.now t ∨
      ∃ bytes ok, c = .turnAnswer t f bytes ok ∧ max s.now t ≤ x.windowEnd ∧ x.windowEnd + 11 * bytes.length ≤ max s.now t + 800 ∧
        judgeAnswer x.drop bytes ok = .bad) →
    let count := if d.link.badCount < p.badFrameLimit then d.link.badCount + 1 else d.link.badCount
    let loses := d.link.lost = false ∧ p.badFrameLimit ≤ count
    ∃ u, exec c s = .next u ∧ u.lif.intake = s.lif.intake ∧ u.lif.replies = s.lif.replies ∧
      (∃ d', u.findDoor f d.number = some d' ∧ d'.link.badCount = count ∧ d'.link.badFrames = s.bump d.link.badFrames ∧
        d'.link.lost = (d.link.lost || decide loses) ∧ d'.link.base = d.link.base ∧ d'.lastStatus = d.lastStatus ∧
        d'.enabled = d.enabled ∧ d'.isolation = d.isolation ∧ d'.latched = d.latched ∧ d'.evacOpened = d.evacOpened ∧
        d'.recycleCount = d.recycleCount ∧
        (loses → d'.link.slot = d.link.slot ∧ EventKind.doorLost ∈ u.lif.flags.get (.face f) ∧
          (d.isolation = .lockedOut → d'.state = d.state) ∧ (d.isolation ≠ .lockedOut → d'.state = .lost ∧ d'.timer = none)) ∧
        (¬loses → (∀ k n cmd, d.link.slot = some k → k.seq = some n → x.carried ≠ .command cmd n) →
          d'.state = d.state ∧ d'.timer = d.timer ∧ d'.slotCommand = d.slotCommand) ∧
        (¬loses → ∀ k n cmd, d.link.slot = some k → k.seq = some n → x.carried = .command cmd n →
          (2 ≤ k.left → d'.state = d.state ∧ d'.timer = d.timer ∧ d'.link.slot = some { k with left := k.left - 1 }) ∧
          (k.left ≤ 1 → d'.state = .stalled ∧ d'.timer = none ∧ d'.link.slot = none ∧
            EventKind.doorStalled ∈ u.lif.flags.get (.face f)))) ∧
      (∀ y ∈ (s.face f).doors, y.number ≠ d.number → ∃ y', u.findDoor f y.number = some y' ∧ { y' with link := y.link } = y ∧
        y'.slotCommand = y.slotCommand ∧ y'.link.base = y.link.base ∧ y'.link.lost = y.link.lost ∧
        y'.link.badCount = y.link.badCount) ∧
      (∃ x', (u.face f).line.turn = some x' ∧ max s.now t + 800 < x'.windowEnd ∧
        ((s.face f).line.tunnel = none → (u.face f).line.tunnel = none) ∧
        (x.kind = .tunnel → ∀ y, (s.face f).line.tunnel = some y →
          (u.face f).line.tunnel = some { y with sent := decide (x'.kind = .tunnel) } ∧
          (x'.kind = .urgent ∨ x'.kind = .tunnel ∧ x'.drop = y.drop))) ∧
      (u.face f).berth = (s.face f).berth ∧ (u.face f).deferral = (s.face f).deferral ∧
      (u.face f).release = (s.face f).release ∧ u.holds = s.holds ∧ u.aln = s.aln ∧ u.gap = s.gap ∧ u.tbs = s.tbs

/-- A frame on a door line outside an open window, and bytes short of a complete frame within it, change nothing; of a run of characters
those that begin before the window opens are discarded, and the rest is judged as if it stood alone. A scan frame joins the
answer slot in which its first byte arrives, slot i from 2,000 + 1,000 i µs for 1,000 µs after the start of the cycle, where a zone in
force refers to the slot's head; a second frame spoils the slot; every other scan frame is discarded (R81, R101, R105, R199). That the
scan of a head without a zone is discarded on arrival, and that incomplete bytes change nothing, are read from the rules by inference
(notes/assumptions/20.md, notes/assumptions/32.md). That the characters of a run follow one another without a gap is the model's choice
(notes/assumptions/49.md). -/
def Obligations.FramesJoinTheirSlotsOrChangeNothing : Prop :=
  (∀ (s : State) (t : Micros) (f : Face) (bytes : List Byte) (ok : Bool), s.running = true →
    exec (.lateFrameDiscarded t f) s = .next (s.opened t).arbitrate ∧
    ((∀ x, (s.face f).line.turn = some x → x.windowEnd < max s.now t ∨ max s.now t + 800 < x.windowEnd ∨
        (x.windowEnd + 11 * bytes.length ≤ max s.now t + 800 ∧ judgeAnswer x.drop bytes ok = .incomplete)) →
      exec (.turnAnswer t f bytes ok) s = .next (s.opened t).arbitrate) ∧
    ∀ early rest, bytes = early ++ rest →
      (∀ x, (s.face f).line.turn = some x → max s.now t + 800 < x.windowEnd + 11 * (rest.length + 1)) →
      exec (.turnAnswer t f bytes ok) s = exec (.turnAnswer t f rest ok) s) ∧
  (∀ (s : State) (t : Micros) (bytes : List Byte) (ok : Bool), s.running = true →
    let offset := max s.now t - s.gap.cycleStart
    (offset < 2000 ∨ 18000 ≤ offset → exec (.scanFrameArrival t bytes ok) s = .next (s.opened t).arbitrate) ∧
    ∀ i, i < 16 → 2000 + 1000 * i ≤ offset → offset < 3000 + 1000 * i →
      exec (.scanFrameArrival t bytes ok) s = .next (((s.opened t).modGap fun g =>
        { g with heads := g.heads.map fun h =>
            if h.slot = i ∧ (h.serves.a = true ∨ h.serves.b = true) then
              { h with scan := if h.scan = .empty then .one bytes ok else .many }
            else h }).arbitrate))

/-! ## The gap -/

/-- A head in use takes one scan at a cycle end: good only for one complete frame that names its slot and the cycle's number, whose CRC
and parity check; anything else enters as all beams blocked and counts as missing. Streaks and state follow: LIVE at 8 good
scans, SILENT from LIVE at 3 missing ones. A zone of a LIVE head moves by its metric, the largest blocked count among its beams, with
K_on and K_off; a zone of any other head is UNKNOWN (R106, R108, R109, R112, R113, R117). -/
def Obligations.HeadsAndZonesFollowTheirScans : Prop :=
  (∀ (slot : Nat) (cycle : BitVec 8) (bytes : List Byte) (ok : Bool) (v : Beams), slot < 16 →
    (judgeScan slot cycle bytes ok = some v ↔
      ok = true ∧ bytes = [BitVec.ofNat 8 slot, cycle, v.extractLsb' 8 8, v.extractLsb' 0 8,
        crc8 [BitVec.ofNat 8 slot, cycle, v.extractLsb' 8 8, v.extractLsb' 0 8]])) ∧
  (∀ (h : Head) (cycle : BitVec 8) (bump : Counter → Counter), h.serves.a = true ∨ h.serves.b = true →
    let u := h.take cycle bump
    (∀ v, h.scanned cycle = some v → u.window = pushScan h.window v ∧ u.missingStreak = 0 ∧
      u.goodStreak = min 8 (h.goodStreak + 1) ∧ u.missingScans = h.missingScans ∧
      u.state = if u.goodStreak = 8 ∧ (h.state = .unknown ∨ h.state = .silent) then .live else h.state) ∧
    (h.scanned cycle = none → u.window = pushScan h.window 0xFFFF#16 ∧ u.goodStreak = 0 ∧
      u.missingStreak = min 3 (h.missingStreak + 1) ∧ u.missingScans = bump h.missingScans ∧
      u.state = if u.missingStreak = 3 ∧ h.state = .live then .silent else h.state)) ∧
  (∀ (beams : Beams) (window : List Beams) (m : Nat), m = metric beams window →
    (∀ i, beams.getLsbD i = true → window.countP (fun v => v.getLsbD i) ≤ m) ∧
    (beams ≠ 0 → ∃ i, beams.getLsbD i = true ∧ m = window.countP fun v => v.getLsbD i)) ∧
  ∀ (z : Zone) (h : Head) (bump : Counter → Counter),
    let u := z.evaluate (some h) bump
    (h.state ≠ .live → u.state = .unknown ∧ u.metric = none ∧ u.entries = z.entries) ∧
    (h.state = .live →
      let m := metric z.beams h.window
      u.metric = some m ∧
      (z.state = .clear → u.state = if z.kOn ≤ m then .occupied else .clear) ∧
      (z.state ≠ .clear → u.state = if m ≤ z.kOff then .clear else .occupied) ∧
      u.entries = if u.state = .occupied ∧ z.state ≠ .occupied then bump z.entries else z.entries)

/-- At the cycle end every head takes its scan and every zone is evaluated, the next cycle number goes out 20,000 µs after the last, a zone
that enters OCCUPIED raises GAP_AFTER_CLOSE where the face's proof held, and each door whose RECYCLE-policy zones entered OCCUPIED gets
one report that names them. After an adoption all this is done on rebuilt records: the face's zones are those its active bank gives it,
UNKNOWN, a kept zone id with its counter, and each head's use follows the zones of both faces, a head that comes into use or leaves it
starting empty. HEAD_SILENT's flag is raised where a SILENT head serves the face after the rebuild or after the scans (R104, R107, R110,
R113 to R116, R120, R121). That the Proof Unit is handed both changes of the condition after the zones is the model's choice
(notes/assumptions/44.md). -/
def Obligations.CycleEndEvaluatesTheGap : Prop :=
  (∀ (s : State) (t : Micros), s.running = true → s.gap.cycleStart + 20000 ≤ max s.now t → s.gap.adopted = ⟨false, false⟩ →
    let heads := s.gap.heads.map fun h => h.take s.gap.cycle s.bump
    let zones := s.gap.zones.map fun zs => zs.map fun z => z.evaluate (heads.find? fun h => h.slot = z.head) s.bump
    let enters := fun (f : Face) (z : Zone) => z ∈ zones.get f ∧ z.state = .occupied ∧
      ¬∃ y ∈ s.gap.zones.get f, y.id = z.id ∧ y.state = .occupied
    ∃ u, exec (.sensorCycleEnd t) s = .next u ∧ u.lif.intake = s.lif.intake ∧ u.lif.replies = s.lif.replies ∧
      u.gap = { s.gap with heads := heads, zones := zones, cycle := s.gap.cycle + 1, cycleStart := s.gap.cycleStart + 20000 } ∧
      (∀ f, ∃ new, (u.face f).reports = (s.face f).reports ++ new ∧ (new.map fun r => r.door).Pairwise (· < ·) ∧
        (∀ r ∈ new, r.zones ≠ []) ∧
        ∀ n id, (∃ r ∈ new, r.door = n ∧ id ∈ r.zones) ↔
          n ≤ 32 ∧ ∃ z, enters f z ∧ z.id = id ∧ z.door = n ∧ z.policy = .recycle) ∧
      (∀ f, (s.face f).proof.held = true → (∃ z, enters f z) → EventKind.gapAfterClose ∈ u.lif.flags.get (.face f)) ∧
      (∀ f, (u.face f).proof.active.headSilent = heads.any fun h => h.serves.get f && decide (h.state = .silent)) ∧
      (∀ f, (s.face f).proof.active.headSilent = false →
        (∃ h, (h ∈ s.gap.heads ∨ h ∈ heads) ∧ h.serves.get f = true ∧ h.state = .silent) →
        EventKind.headSilent ∈ u.lif.flags.get (.face f)) ∧
      (∀ f, (u.face f).proof.blockers.zones = !((zones.get f).all fun z => z.state = .clear)) ∧
      u.blocks = { s.blocks with
        gap := u.gap
        faces := ⟨{ s.blocks.faces.a with reports := (u.face .A).reports }, { s.blocks.faces.b with reports := (u.face .B).reports }⟩ }) ∧
  ((∀ (tb : Tables) (f : Face) (old : List Zone) (z : Zone), z ∈ rebuildZones tb f old ↔
    ∃ (i : Fin 64) (e : ZoneEntry), tb.zones[i] = some e ∧ e.face = f ∧
      z = { id := i, door := e.door, head := e.head, beams := e.beams, kOn := e.kOn, kOff := e.kOff, policy := e.policy
            state := .unknown, metric := none
            entries := match old.find? fun y => y.id = i.val with | some y => y.entries | none => 0 }) ∧
  ∀ (s : State) (t : Micros), s.running = true → s.gap.cycleStart + 20000 ≤ max s.now t → s.gap.adopted ≠ ⟨false, false⟩ →
    let inForce := fun (f : Face) =>
      if s.gap.adopted.get f = true then
        match s.tables? f, s.params? f with
        | some tb, some _ => rebuildZones tb f (s.gap.zones.get f)
        | _, _ => []
      else s.gap.zones.get f
    let serves := fun (h : Head) (f : Face) => (inForce f).any fun z => z.head = h.slot
    exec (.sensorCycleEnd t) s = exec (.sensorCycleEnd t) { s with gap := { s.gap with
      adopted := ⟨false, false⟩
      zones := ⟨inForce .A, inForce .B⟩
      heads := s.gap.heads.map fun h =>
        if (serves h .A || serves h .B) = true ∧ (h.serves.a || h.serves.b) = true then
          { h with serves := ⟨serves h .A, serves h .B⟩ }
        else
          { h with
            serves := ⟨serves h .A, serves h .B⟩, window := [], missingStreak := 0, goodStreak := 0
            state := if (serves h .A || serves h .B) = true then .unknown else .unused } } })

/-! ## Tables, device and counters -/

/-- WRITE_ENTRY is tested for its table, face and index, then for an edit bank without a validation, then for its contents; an accepted
one replaces the whole entry or makes it absent, makes an EMPTY bank EDIT, and answers with the bank's number. READ_ENTRY answers
with the bank's state and the entry, and is refused with BUSY of a bank in COPYING (R172, R173). The layout of READ_ENTRY's data is
the model's choice (notes/assumptions/14.md); that TABLE_LOCKED comes before the presence byte and the contents, for every presence, is
read from R172 by inference (notes/assumptions/38.md). -/
def Obligations.EntriesAreWrittenAndRead : Prop :=
  ∀ (s : State) (t : Micros) (r : Request) (rest : List Request) (table index : Byte),
    (Takes s r rest (some .writeEntry) → ∀ presence, r.body = table :: index :: presence →
      (parseKey r.face? table index = none → Refuses (.writeEntry t) s r rest .badArgument) ∧
      ∀ key, parseKey r.face? table index = some key →
        (s.tbs.edit = none ∨ s.tbs.validation ≠ none → Refuses (.writeEntry t) s r rest .tableLocked) ∧
        ∀ b, s.tbs.edit = some b → s.tbs.validation = none →
          (∀ contents tables', (presence = [0] ∧ contents = none ∨ ∃ bytes, presence = 1 :: bytes ∧ contents = some bytes) →
            (s.tbs.bank b).tables.write key contents = some tables' →
            Answers (.writeEntry t) s ((s.opened t).modTbs fun x => x.setBank b
              { state := if (x.bank b).state = .empty then .edit else (x.bank b).state, tables := tables' }) r rest .done [b.code]) ∧
          (∀ bytes, presence = 1 :: bytes → (s.tbs.bank b).tables.write key (some bytes) = none →
            Refuses (.writeEntry t) s r rest .badArgument)) ∧
    (Takes s r rest (some .readEntry) → ∀ bank, r.body = [bank, table, index] →
      (bankOfCode bank = none ∨ parseKey r.face? table index = none → Refuses (.readEntry t) s r rest .badArgument) ∧
      ∀ b key, bankOfCode bank = some b → parseKey r.face? table index = some key →
        ((s.tbs.bank b).state = .copying → Refuses (.readEntry t) s r rest .busy) ∧
        ((s.tbs.bank b).state ≠ .copying →
          Answers (.readEntry t) s (s.opened t) r rest .done
            (u8 (s.tbs.bank b).state.code ++ (s.tbs.bank b).tables.readEntry key)))

/-- ACTIVATE makes its tests in order and fills the validation record without a reply. At the end of its validation a bank with a failing
check is answered TABLE_INVALID and unlocked, and with a head in conflict while a berth is not VACANT TABLE_CONFLICT; any other is
staged with DONE, and both faces are tested for adoption. The head in conflict is the lowest that the two banks assign to different
faces. The end of a copy makes the bank written EDIT and the edit bank, with exactly the content of the bank in service, and raises
COPY_DONE (R171, R174 to R177, R179). The four data bytes of TABLE_INVALID with a face byte for every finding are the model's choice
(notes/assumptions/22.md), and so is the bank in service of two faces that differ (notes/assumptions/37.md). -/
def Obligations.ActivationValidatesStagesAndCopies : Prop :=
  (∀ (s : State) (t : Micros),
    (∀ (r : Request) (rest : List Request), Takes s r rest (some .activate) →
      ((∀ n, r.body = [n] → bankOfCode n = none) → Refuses (.activate t) s r rest .badArgument) ∧
      ∀ n b, r.body = [n] → bankOfCode n = some b →
        (s.tbs.edit ≠ some b → Refuses (.activate t) s r rest .badState) ∧
        (s.tbs.edit = some b → s.tbs.validation ≠ none → Refuses (.activate t) s r rest .busy) ∧
        (s.tbs.edit = some b → s.tbs.validation = none →
          exec (.activate t) s = .next (((s.opened t).modLif fun l => { l with intake := rest }).modTbs fun x =>
            { x with validation := some { tag := r.tag, bank := b, takenAt := (s.advance t).ms } }).arbitrate)) ∧
    (s.running = true → ∀ v, s.tbs.validation = some v →
      let unlocked := (s.opened t).modTbs fun x => { x with validation := none }
      let replied := fun (u : State) (result : Result) (data : List Byte) => u.modLif fun l =>
        { l with replies := l.replies ++ [⟨0x24, v.tag, result, data, 0⟩] }
      (∀ x, validate (s.tbs.bank v.bank).tables = some x →
        exec (.validationComplete t) s = .next
          (replied unlocked (.refused .tableInvalid) (u8 x.check ++ u8 x.table ++ [x.face] ++ u8 x.entry)).arbitrate) ∧
      (validate (s.tbs.bank v.bank).tables = none →
        (∀ h, s.conflict v.bank = some h →
          exec (.validationComplete t) s = .next (replied unlocked (.refused .tableConflict) (u8 h)).arbitrate) ∧
        (s.conflict v.bank = none → (∀ f, (s.face f).berth.state ≠ .vacant ∨ (s.face f).release.state ≠ .normal) →
          exec (.validationComplete t) s = .next (replied (unlocked.modTbs fun x =>
            { x.setBank v.bank { x.bank v.bank with state := .staged } with staged := some v.bank, edit := none })
            .done []).arbitrate)))) ∧
  (∀ (s : State),
    (∀ (t : Micros) (v : Validation), s.running = true → s.tbs.validation = some v →
      validate (s.tbs.bank v.bank).tables = none → s.conflict v.bank = none →
      exec (.validationComplete t) s = .next ((((((s.opened t).modTbs fun x =>
        { x.setBank v.bank { x.bank v.bank with state := .staged } with
          validation := none, staged := some v.bank, edit := none }).modLif fun l =>
        { l with replies := l.replies ++ [⟨0x24, v.tag, .done, [], 0⟩] }).testAdoption .A).testAdoption .B).arbitrate)) ∧
    ∀ (b : BankId) (h : Nat),
      let gives := fun (c : BankId) (f : Face) (k : Nat) =>
        ∃ (i : Fin 64) (e : ZoneEntry), (s.tbs.bank c).tables.zones[i] = some e ∧ e.face = f ∧ e.head = k
      let clash := fun (k : Nat) => k < 16 ∧ ∃ c f, gives b f k ∧ gives c f.partner k ∧
        (s.tbs.active.a = some c ∨ s.tbs.active.a = none ∧ s.tbs.active.b = some c)
      s.conflict b = some h ↔
        ((s.face .A).berth.state ≠ .vacant ∨ (s.face .B).berth.state ≠ .vacant) ∧ clash h ∧ ∀ k < h, ¬clash k) ∧
  (∀ (s : State) (t : Micros) (c : CopyRecord), s.running = true → s.tbs.copy = some c → c.written = c.source.other →
    ∃ u, exec (.copyComplete t) s = .next u ∧ EventKind.copyDone ∈ u.lif.flags.device ∧ u.lif.intake = s.lif.intake ∧
      u.lif.replies = s.lif.replies ∧ (u.tbs.bank c.written).tables = (s.tbs.bank c.source).tables ∧
      (u.tbs.bank c.written).state = .edit ∧ u.tbs.bank c.source = s.tbs.bank c.source ∧ u.tbs.edit = some c.written ∧
      u.tbs.copy = none ∧ u.tbs.active = s.tbs.active ∧ u.tbs.staged = s.tbs.staged ∧ u.tbs.validation = s.tbs.validation ∧
      u.blocks = { s.blocks with tbs := u.tbs })

/-- SET_DEVICE replaces the error limit and every route: a limit at or below the bad count degrades the uplink, a kind whose notice route
is off leaves the pending notices, a route turned on forms none, and the alert outputs follow. A flag that goes from clear to set with its
notice route on forms or joins its scope's notice record; one already set changes nothing. READ_EVENTS answers with its scope's flags and clears them, but for
those of conditions still active, withdraws the scope's pending notice, and lets the alert outputs follow. Values out of range are
refused (R183, R186, R188 to R190). -/
def Obligations.DeviceRecordAndFlagsAnswerTheirRequests : Prop :=
  (∀ (s : State) (t : Micros) (r : Request) (rest : List Request), Takes s r rest (some .setDevice) →
    (parseDevice r.body = none → Refuses (.setDevice t) s r rest .badArgument) ∧
    ∀ limit routes, parseDevice r.body = some (limit, routes) →
      ∃ u, exec (.setDevice t) s = .next u ∧ Answered s u r rest .done [] ∧ u.lif.errorLimit = limit ∧ u.lif.routes = routes ∧
        u.lif.degraded = (s.lif.degraded || decide (limit ≤ s.lif.badCount)) ∧ u.lif.badCount = s.lif.badCount ∧
        (s.lif.degraded = false → limit ≤ s.lif.badCount → EventKind.uplinkDegraded ∈ u.lif.flags.device ∧
          ∀ f, (u.face f).proof.active.uplinkDegraded = true) ∧
        (s.lif.badCount < limit → u.lif.flags = s.lif.flags) ∧
        (∀ c kinds, u.lif.notices.get c = some kinds → ∀ k ∈ kinds, (u.lif.route k).notice = true) ∧
        (s.lif.badCount < limit → ∀ c k, (∃ kinds, u.lif.notices.get c = some kinds ∧ k ∈ kinds) ↔
          (u.lif.route k).notice = true ∧ ∃ kinds, (s.opened t).lif.notices.get c = some kinds ∧ k ∈ kinds) ∧
        (∀ f, (u.face f).proof.alertDriven = alertDue u.lif f) ∧ u.blocks = s.blocks) ∧
  (∀ (s : State) (c : Scope) (k : EventKind),
    let u := s.raise c k
    (k ∈ s.lif.flags.get c → u = s) ∧
    (k ∉ s.lif.flags.get c →
      (∀ c' x, x ∈ u.lif.flags.get c' ↔ x ∈ s.lif.flags.get c' ∨ c' = c ∧ x = k) ∧
      (∀ c', c' ≠ c → u.lif.notices.get c' = s.lif.notices.get c') ∧
      ((s.lif.route k).notice = false → u.lif.notices = s.lif.notices) ∧
      ((s.lif.route k).notice = true → ∃ kinds, u.lif.notices.get c = some kinds ∧
        ∀ x, x ∈ kinds ↔ x = k ∨ ∃ old, s.lif.notices.get c = some old ∧ x ∈ old) ∧
      (∀ f, (u.face f).proof.alertDriven = alertDue u.lif f) ∧ u.blocks = s.blocks)) ∧
  (∀ (s : State) (t : Micros) (r : Request) (rest : List Request), Takes s r rest (some .readEvents) →
    ((∀ n, r.body = [n] → 3 ≤ n.toNat) → Refuses (.readEvents t) s r rest .badArgument) ∧
    ∀ n c, r.body = [n] → (n = 0 ∧ c = Scope.device ∨ n = 1 ∧ c = .face .A ∨ n = 2 ∧ c = .face .B) →
      ∃ u, exec (.readEvents t) s = .next u ∧
        Answered s u r rest .done (counted (fun k => u8 k.code) (s.lif.flags.get c)) ∧
        (∀ k, k ∈ u.lif.flags.get c ↔ k ∈ s.lif.flags.get c ∧
          ((c = .device ∧ k = .uplinkDegraded ∧ s.lif.degraded = true) ∨
            ∃ f, c = .face f ∧
              ((k = .positionStale ∧ (s.face f).proof.active.positionStale = true) ∨
                (k = .noProfile ∧ (s.face f).proof.active.noProfile = true) ∨
                (k = .headSilent ∧ (s.face f).proof.active.headSilent = true) ∨
                (k = .doorStalled ∧ (s.face f).proof.active.doorStalled = true) ∨
                (k = .doorHeld ∧ (s.face f).proof.active.doorHeld = true) ∨
                (k = .uplinkDegraded ∧ (s.face f).proof.active.uplinkDegraded = true)))) ∧
        (∀ c', c' ≠ c → u.lif.flags.get c' = s.lif.flags.get c') ∧ u.lif.notices.get c = none ∧
        (∀ f, (u.face f).proof.alertDriven = alertDue u.lif f) ∧ u.blocks = s.blocks)

/-- SNAPSHOT_COUNTERS copies every live counter at the moment it is taken and answers when the copy is ready and replaces the readable
snapshot, of which READ_COUNTERS reads a page. CLEAR_COUNTERS begins a clear, during which every increment is lost; at its end every
live counter is 0, the reply is given, COUNTERS_CLEARED is raised and the snapshot stands. SNAPSHOT_COUNTERS and CLEAR_COUNTERS are
refused with BUSY while a snapshot or a clear is in progress, READ_COUNTERS while a snapshot is (R1, R192, R193). The layout of a page,
with its time last, is the model's choice (notes/assumptions/14.md). -/
def Obligations.CountersAreSnappedReadAndCleared : Prop :=
  (∀ (s : State) (t : Micros),
    (∀ (r : Request) (rest : List Request), Takes s r rest (some .snapshotCounters) → r.body = [] →
      (s.lif.preparing ≠ none ∨ s.lif.clearing ≠ none → Refuses (.snapshotCounters t) s r rest .busy) ∧
      (s.lif.preparing = none → s.lif.clearing = none →
        exec (.snapshotCounters t) s = .next ((s.opened t).modLif fun l =>
          { l with intake := rest, preparing := some { tag := r.tag, snapshot := (s.advance t).capture } }).arbitrate)) ∧
    (s.running = true → ∀ p, s.lif.preparing = some p →
      exec (.snapshotReady t) s = .next ((s.opened t).modLif fun l =>
        { l with
          snapshot := some p.snapshot, preparing := none
          replies := l.replies ++ [⟨0x27, p.tag, .done, [], 0⟩] }).arbitrate) ∧
    ∀ (r : Request) (rest : List Request), Takes s r rest (some .readCounters) →
      ((∀ n, r.body = [n] → 6 ≤ n.toNat) → Refuses (.readCounters t) s r rest .badArgument) ∧
      ∀ n, r.body = [n] → n.toNat ≤ 5 →
        (s.lif.preparing ≠ none → Refuses (.readCounters t) s r rest .busy) ∧
        (s.lif.preparing = none → s.lif.snapshot = none → Refuses (.readCounters t) s r rest .badState) ∧
        ∀ x, s.lif.preparing = none → s.lif.snapshot = some x →
          Answers (.readCounters t) s (s.opened t) r rest .done (State.pageBytes x n.toNat)) ∧
  (∀ (s : State) (t : Micros),
    (∀ (r : Request) (rest : List Request), Takes s r rest (some .clearCounters) → r.body = [] →
      (s.lif.preparing ≠ none ∨ s.lif.clearing ≠ none → Refuses (.clearCounters t) s r rest .busy) ∧
      (s.lif.preparing = none → s.lif.clearing = none →
        exec (.clearCounters t) s = .next ((s.opened t).modLif fun l =>
          { l with intake := rest, clearing := some { tag := some r.tag, takenAt := (s.advance t).ms } }).arbitrate)) ∧
    (∀ n : Counter, s.bump n = if s.lif.clearing = none then n + 1 else n) ∧
    (s.running = true → ∀ x, s.lif.clearing = some x →
      ∃ u, exec (.counterClearComplete t) s = .next u ∧ u.lif.clearing = none ∧ EventKind.countersCleared ∈ u.lif.flags.device ∧
        u.lif.snapshot = s.lif.snapshot ∧ u.lif.intake = s.lif.intake ∧
        u.lif.replies = s.lif.replies ++ (match x.tag with | some tag => [⟨0x29, tag, .done, [], 0⟩] | none => []) ∧
        u.lif.uplinkErrors = 0 ∧ u.lif.framesDiscarded = 0 ∧ u.lif.requestsDropped = 0 ∧ u.aln.computations = ⟨0, 0⟩ ∧
        u.aln.withdrawn = ⟨0, 0⟩ ∧ (∀ h ∈ u.gap.heads, h.missingScans = 0) ∧
        ∀ f, (u.face f).berth.policed = 0 ∧ (u.face f).berth.clampedSamples = 0 ∧ (u.face f).berth.telegramsRefused = 0 ∧
          (u.face f).deferral.count = 0 ∧ (u.face f).release.refused = 0 ∧ (u.face f).proof.losses = 0 ∧
          (∀ z ∈ u.gap.zones.get f, z.entries = 0) ∧
          ((u.face f).doors.map fun d => (d.number, d.state)) = ((s.face f).doors.map fun d => (d.number, d.state)) ∧
          ∀ d ∈ (u.face f).doors, d.openCycles = 0 ∧ d.recycles = 0 ∧ d.obstructions = 0 ∧ d.superseded = 0 ∧ d.link.badFrames = 0))

/-- READ_STATUS and READ_DOOR answer with the state as it stands when they are taken and change nothing of it; a part that is not defined
is refused (R187). The layout of their data is the model's choice (notes/assumptions/14.md), and so is that the intake queue is counted
without the request being read (notes/assumptions/48.md). While a counter clear runs, each live counter shown is its value or 0, as a free
value says, and the read draws a new one (R193, notes/assumptions/12.md). A request of an undefined class or kind is refused with
BAD_ARGUMENT (R182). -/
def Obligations.ReadsAnswerAndUndefinedKindsAreRefused : Prop :=
  ∀ (s : State) (t : Micros) (r : Request) (rest : List Request),
    let read : State := { s.opened t with
      freeCount := if s.lif.clearing = none then (s.opened t).freeCount else (s.opened t).freeCount + 1 }
    (Takes s r rest (some .readStatus) →
      ((∀ n, r.body = [n] → 5 ≤ n.toNat) → Refuses (.readStatus t) s r rest .badArgument) ∧
      ∀ n p, r.body = [n] →
        (n = 0 ∧ p = StatusPart.device ∨ n = 1 ∧ p = .face .A ∨ n = 2 ∧ p = .face .B ∨ n = 3 ∧ p = .heads ∨ n = 4 ∧ p = .holds) →
        Answers (.readStatus t) s read r rest .done
          (((s.opened t).modLif fun l => { l with intake := rest }).statusBytes p)) ∧
    (Takes s r rest (some .readDoor) → ∀ f n d, r.face? = some f → s.configured f = true → r.body = [n] →
      s.findDoor f n.toNat = some d →
      Answers (.readDoor t) s read r rest .done ((s.opened t).readDoorBytes f d)) ∧
    (Takes s r rest none → Refuses (.requestUndefinedKind t) s r rest .badArgument)

/-- Tables that pass validation hold what its checks ask: extents in order; for a face with a record doors 1 to n without a gap, in
strictly increasing centres, apart from each other, within the extent and each on a drop address of its own, and none for a face
without one; offsets in order within the length; valid match entries that name a present profile; zones with K_off below K_on, a
door that is present, at most 2 for a door, and every head on one face only (R175). -/
def Obligations.ValidatedTablesHoldTheirChecks : Prop :=
  ∀ tb : Tables, validate tb = none →
    (∀ f p, tb.params.get f = some p → p.extentLow < p.extentHigh) ∧
    (∀ f p, tb.params.get f = some p → ∃ n, 1 ≤ n ∧ n ≤ 32 ∧
      (∀ i : Fin 32, ((tb.doors.get f)[i]).isSome = true ↔ i.val < n) ∧
      (∀ i j : Fin 32, ∀ d e, i < j → (tb.doors.get f)[i] = some d → (tb.doors.get f)[j] = some e →
        d.centre < e.centre ∧ d.drop ≠ e.drop ∧ (i.val + 1 = j.val → d.centre + d.halfWidth + e.halfWidth < e.centre)) ∧
      ∀ i : Fin 32, ∀ d, (tb.doors.get f)[i] = some d →
        p.extentLow + d.halfWidth ≤ d.centre ∧ d.centre + d.halfWidth ≤ p.extentHigh) ∧
    (∀ f, tb.params.get f = none → ∀ i : Fin 32, (tb.doors.get f)[i] = none) ∧
    (∀ i : Fin 16, ∀ p, tb.profiles[i] = some p →
      (p.doors.map fun d => d.offset).Pairwise (· < ·) ∧ ∀ d ∈ p.doors, d.offset ≤ p.length) ∧
    (∀ i : Fin 32, tb.consist[i].valid = true → ∃ p, tb.profiles[tb.consist[i].profile]? = some (some p)) ∧
    (∀ i : Fin 64, ∀ z, tb.zones[i] = some z → z.kOff < z.kOn ∧ (∃ p, tb.params.get z.face = some p) ∧
      (∃ k : Fin 32, k.val + 1 = z.door ∧ ((tb.doors.get z.face)[k]).isSome = true)) ∧
    (∀ i j : Fin 64, ∀ y z, tb.zones[i] = some y → tb.zones[j] = some z → y.head = z.head → y.face = z.face) ∧
    ∀ i j k : Fin 64, i < j → j < k → ∀ x y z, tb.zones[i] = some x → tb.zones[j] = some y → tb.zones[k] = some z →
      ¬(x.face = y.face ∧ y.face = z.face ∧ x.door = y.door ∧ y.door = z.door)

/-! ## The Proof Unit -/

/-- Proof is decided from five requirements: a configured face, every door counted as closed, every zone CLEAR, release NORMAL, no active
condition whose action withholds. The loop output follows in the same step, a loss is counted, and each change of proof joins the
changed-proof list as one CHANGED telegram. The periodic timer's expiry forms a PERIODIC telegram with the values of that step, in
place of one not yet sent, and the timer runs on by 200 ms (R153 to R156, R160 to R162). -/
def Obligations.ProofIsDecidedAndTelegraphed : Prop :=
  (∀ (s : State) (f : Face),
    let u := s.decide f
    let p := (u.face f).proof
    p.blockers =
        { unconfigured := decide ((s.params? f).isNone)
          doors := (s.face f).doors.any fun d =>
            !((decide (d.state = .closed) && decide (d.isolation = .none)) ||
              (decide (d.state = .isolated) && (decide (d.isolation = .lockedOut) ||
                (decide (d.isolation = .localSwitch) &&
                  match d.lastStatus with | some st => decide (st.position = .closedLocked) | none => false))))
          zones := (s.gap.zones.get f).any fun z => decide (z.state ≠ .clear)
          release := decide ((s.face f).release.state ≠ .normal)
          forcing := (s.face f).proof.withhold.nonempty } ∧
      p.held = decide (p.blockers = ⟨false, false, false, false, false⟩) ∧ p.loopClosed = p.held ∧
      p.losses = (if (s.face f).proof.held = true ∧ p.held = false then s.bump (s.face f).proof.losses else (s.face f).proof.losses) ∧
      u.lif = { s.lif with changed :=
        if p.held = (s.face f).proof.held then s.lif.changed else s.lif.changed ++ [u.formTelegram f .changed] } ∧
      u.blocks = s.blocks) ∧
  (∀ (s : State) (t : Micros) (f : Face), s.running = true → (s.face f).proof.periodicAt ≤ (s.advance t).ms →
    let p := (s.face f).proof
    exec (.periodicProofExpiry t f) s = .next ((s.opened t).modProof f fun x =>
      { x with
        periodicAt := x.periodicAt + 200
        pending := some { face := f, kind := .periodic, held := p.held, blockers := p.blockers, berth := (s.face f).berth.state,
                          enableSize := (s.face f).berth.enable.length, release := (s.face f).release.state,
                          releaseSeq := (s.face f).release.seq, stopError := (s.face f).berth.stopError,
                          formedAt := max s.now t } }).arbitrate)

/-! ## Frames -/

/-- Both CRCs give their check values; a sender's CRC after the bytes it covers leaves the remainder 0, most significant byte first, and
a frame whose CRC differs fails: a station-link frame is damaged, a status frame is bad and a scan is missing (R181, R198). -/
def Obligations.CrcsCheckTheirFrames : Prop :=
  crc16 [0x31, 0x32, 0x33, 0x34, 0x35, 0x36, 0x37, 0x38, 0x39] = 0x29B1 ∧
  crc8 [0x31, 0x32, 0x33, 0x34, 0x35, 0x36, 0x37, 0x38, 0x39] = 0x20 ∧
  (∀ bytes : List Byte, crc16 (bytes ++ [(crc16 bytes).extractLsb' 8 8, (crc16 bytes).extractLsb' 0 8]) = 0) ∧
  (∀ bytes : List Byte, crc8 (bytes ++ [crc8 bytes]) = 0) ∧
  (∀ (t : Micros) (cls face tag : Byte) (payload : List Byte) (hi lo : Byte), payload.length ≤ 250 →
    hi ++ lo ≠ crc16 (frameBody cls face tag payload) →
    readFrame t (0xA5 :: (frameBody cls face tag payload ++ [hi, lo])) = some (.inboundFrameDamaged t)) ∧
  (∀ (drop : Nat) (body : List Byte) (ok : Bool) (c : Byte),
    answerLength (body ++ [c]) = some (body.length + 1) → c ≠ crc8 body → judgeAnswer drop (body ++ [c]) ok = .bad) ∧
  ∀ (slot : Nat) (cycle : BitVec 8) (body : List Byte) (ok : Bool) (c : Byte), c ≠ crc8 body →
    judgeScan slot cycle (body ++ [c]) ok = none

/-- An encoded station-link frame with at most 250 payload bytes reads back as the command its class, face, tag and payload spell: a
request with exactly these fields, or a TRAIN telegram by its face and kind byte, or a TRAIN frame to discard. A frame that breaks off
before it is complete, and one whose length field exceeds 250, is damaged. Bytes that follow a complete frame, and bytes before which no
start byte stands, are outside a frame and are discarded (R181, R182, R196). -/
def Obligations.FramesReadBackAsTheyWereEncoded : Prop :=
  (∀ (t : Micros) (cls face tag : Byte) (payload : List Byte), payload.length ≤ 250 →
    let bytes := encodeFrame cls face tag payload
    (cls ≠ 0x01 → readFrame t bytes = some (.requestFrameReceived t ⟨cls, face, tag, payload⟩)) ∧
    (cls = 0x01 → ∀ k body, payload = k :: body →
      ∀ f, (face = 1 ∧ f = Face.A ∨ face = 2 ∧ f = Face.B) →
        (k = 0x01 → readFrame t bytes = some (.arrival t f body)) ∧ (k = 0x02 → readFrame t bytes = some (.position t f body)) ∧
        (k = 0x03 → readFrame t bytes = some (.departure t f body)) ∧ (k = 0x04 → readFrame t bytes = some (.cleared t f body)) ∧
        (k = 0 ∨ 4 < k.toNat → readFrame t bytes = some (.trainFrameDiscarded t))) ∧
    (cls = 0x01 → payload = [] ∨ (face ≠ 1 ∧ face ≠ 2) → readFrame t bytes = some (.trainFrameDiscarded t)) ∧
    (∀ n, 0 < n → n < bytes.length → readFrame t (bytes.take n) = some (.inboundFrameDamaged t)) ∧
    ∀ more, readFrame t (bytes ++ more) = readFrame t bytes) ∧
  (∀ (t : Micros) (cls face tag n : Byte) (rest : List Byte), 250 < n.toNat →
    readFrame t (0xA5 :: cls :: face :: tag :: n :: rest) = some (.inboundFrameDamaged t)) ∧
  ∀ (t : Micros) (bytes : List Byte), bytes.head? ≠ some 0xA5 → readFrame t bytes = none

/-! ## Invariants that every step keeps -/

/-- After every step proof is HELD exactly without blockers and a running part's loop output is closed exactly while proof holds, from every
state in which that is so; and its alert outputs are driven exactly while an alert-routed flag of the face or the device is set, from
every state in which that is so. Any other part's outputs are open and released. The withhold and hold-closed sets hold the active
conditions by the actions in force, and a running part's blockers are the requirements of R154 that fail as the state then stands (R153 to
R158, R160, R163, R188, R201). That the alert outputs of an unpowered part are released is the model's choice (notes/assumptions/27.md). -/
def Obligations.EveryStepKeepsOutputsSafe : Prop :=
  (∀ s u : State, proofSafe s → step s = .next u → proofSafe u) ∧
  (∀ s u : State, alertSafe s → step s = .next u → alertSafe u) ∧
  (∀ s u : State, bankSafe s → setsFormed s → step s = .next u → setsFormed u) ∧
  (∀ s u : State, bankSafe s → blockersCurrent s → step s = .next u → blockersCurrent u)

/-- After every step the enable set is empty in every berth state but STOPPED and DWELLING, the doors' enabled fields follow it, and no
OPEN waits in the slot of a door outside it (R7, R52). -/
def Obligations.EveryStepKeepsEnableSafe : Prop :=
  ∀ s u : State, enableSafe s → step s = .next u → enableSafe u

/-- After every step a face in NORMAL has an empty release set and a clear evacuation latch, and the release set mirrors the latches and
evac-opened marks of the door records (R132, R133, R145). -/
def Obligations.EveryStepKeepsReleaseSafe : Prop :=
  (∀ s u : State, releaseSafe s → step s = .next u → releaseSafe u) ∧
  (∀ s u : State, doorsOrdered s → releaseSafe s → marksMirrored s → step s = .next u → marksMirrored u)

/-- After every step the bank that may be edited and the bank that a copy writes are in service for no face, and a validation judges the
edit bank alone (R166, R174, R178, R179). -/
def Obligations.EveryStepKeepsBanksSafe : Prop :=
  ∀ s u : State, bankSafe s → step s = .next u → bankSafe u

/-- After every step the intake queue holds at most 8 requests, and the replies held and still awaited number at most 8, so that no reply
finds the list full (R184, R185). -/
def Obligations.EveryStepKeepsQueuesSafe : Prop :=
  ∀ s u : State, queueSafe s → step s = .next u → queueSafe u

/-- After every step a zone is CLEAR only while its head is LIVE, and a LIVE head has a full window (R109, R113). -/
def Obligations.EveryStepKeepsGapSafe : Prop :=
  ∀ s u : State, gapSafe s → step s = .next u → gapSafe u

/-- After every step the door records stand in strictly increasing door number within 1 to 32, as the statements about a face's doors
suppose (R47, R169). -/
def Obligations.EveryStepKeepsDoorsOrdered : Prop :=
  ∀ s u : State, doorsOrdered s → step s = .next u → doorsOrdered u

/-- The state right after power-on is safe in every one of these senses. Its evacuation inputs and its time are the model's choice
(notes/assumptions/8.md, notes/assumptions/9.md). -/
def Obligations.ResetIsSafe : Prop :=
  proofSafe State.reset ∧ alertSafe State.reset ∧ enableSafe State.reset ∧ releaseSafe State.reset ∧ bankSafe State.reset ∧
    queueSafe State.reset ∧ gapSafe State.reset ∧ doorsOrdered State.reset ∧ setsFormed State.reset ∧ blockersCurrent State.reset ∧
    marksMirrored State.reset
end

