-- ==== Sys2Proof/Laws/State.lean ====
section
/-! SUPPORT. Reading a field after an update: one lemma per field and update, so that no later proof unfolds a record update. -/

namespace Sys2Proof

@[simp] theorem PerFace.get_set_same {α : Type} (p : PerFace α) (f : Face) (x : α) : (p.set f x).get f = x := by
  cases f <;> rfl

@[simp] theorem PerFace.get_set_partner {α : Type} (p : PerFace α) (f : Face) (x : α) :
    (p.set f x).get f.partner = p.get f.partner := by
  cases f <;> rfl

@[simp] theorem PerFace.get_partner_set {α : Type} (p : PerFace α) (f : Face) (x : α) :
    (p.set f.partner x).get f = p.get f := by
  cases f <;> rfl

theorem PerFace.get_set_ne {α : Type} (p : PerFace α) {f g : Face} (h : g ≠ f) (x : α) : (p.set f x).get g = p.get g := by
  cases f <;> cases g <;> first | rfl | exact absurd rfl h

@[simp] theorem PerFace.get_map {α β : Type} (p : PerFace α) (g : α → β) (f : Face) : (p.map g).get f = g (p.get f) := by
  cases f <;> rfl

@[simp] theorem Face.partner_partner (f : Face) : f.partner.partner = f := by cases f <;> rfl

theorem Face.partner_ne (f : Face) : f.partner ≠ f := by cases f <;> decide

theorem Face.eq_or_partner (f g : Face) : g = f ∨ g = f.partner := by cases f <;> cases g <;> simp [Face.partner]

namespace Machine

namespace State

@[simp] theorem face_A (s : State) : s.faces.a = s.face .A := rfl

@[simp] theorem face_B (s : State) : s.faces.b = s.face .B := rfl

@[simp] theorem face_setFace (s : State) (f : Face) (x : FaceState) : (s.setFace f x).face f = x := by cases f <;> rfl

@[simp] theorem face_setFace_partner (s : State) (f : Face) (x : FaceState) :
    (s.setFace f x).face f.partner = s.face f.partner := by cases f <;> rfl

@[simp] theorem face_partner_setFace (s : State) (f : Face) (x : FaceState) :
    (s.setFace f.partner x).face f = s.face f := by cases f <;> rfl

theorem face_setFace_ne (s : State) {f g : Face} (h : g ≠ f) (x : FaceState) : (s.setFace f x).face g = s.face g := by
  cases f <;> cases g <;> first | rfl | exact absurd rfl h

@[simp] theorem setFace_powered (s : State) (f : Face) (x : FaceState) : (s.setFace f x).powered = s.powered := rfl

@[simp] theorem setFace_resetPin (s : State) (f : Face) (x : FaceState) : (s.setFace f x).resetPin = s.resetPin := rfl

@[simp] theorem setFace_now (s : State) (f : Face) (x : FaceState) : (s.setFace f x).now = s.now := rfl

@[simp] theorem setFace_freeCount (s : State) (f : Face) (x : FaceState) : (s.setFace f x).freeCount = s.freeCount := rfl

@[simp] theorem setFace_holds (s : State) (f : Face) (x : FaceState) : (s.setFace f x).holds = s.holds := rfl

@[simp] theorem setFace_aln (s : State) (f : Face) (x : FaceState) : (s.setFace f x).aln = s.aln := rfl

@[simp] theorem setFace_gap (s : State) (f : Face) (x : FaceState) : (s.setFace f x).gap = s.gap := rfl

@[simp] theorem setFace_tbs (s : State) (f : Face) (x : FaceState) : (s.setFace f x).tbs = s.tbs := rfl

@[simp] theorem setFace_lif (s : State) (f : Face) (x : FaceState) : (s.setFace f x).lif = s.lif := rfl

@[simp] theorem setFace_pending (s : State) (f : Face) (x : FaceState) : (s.setFace f x).pending = s.pending := rfl

@[simp] theorem modBerth_powered (s : State) (f : Face) (g : Berth → Berth) : (s.modBerth f g).powered = s.powered := rfl

@[simp] theorem modBerth_resetPin (s : State) (f : Face) (g : Berth → Berth) : (s.modBerth f g).resetPin = s.resetPin := rfl

@[simp] theorem modBerth_now (s : State) (f : Face) (g : Berth → Berth) : (s.modBerth f g).now = s.now := rfl

@[simp] theorem modBerth_freeCount (s : State) (f : Face) (g : Berth → Berth) : (s.modBerth f g).freeCount = s.freeCount := rfl

@[simp] theorem modBerth_holds (s : State) (f : Face) (g : Berth → Berth) : (s.modBerth f g).holds = s.holds := rfl

@[simp] theorem modBerth_aln (s : State) (f : Face) (g : Berth → Berth) : (s.modBerth f g).aln = s.aln := rfl

@[simp] theorem modBerth_gap (s : State) (f : Face) (g : Berth → Berth) : (s.modBerth f g).gap = s.gap := rfl

@[simp] theorem modBerth_tbs (s : State) (f : Face) (g : Berth → Berth) : (s.modBerth f g).tbs = s.tbs := rfl

@[simp] theorem modBerth_lif (s : State) (f : Face) (g : Berth → Berth) : (s.modBerth f g).lif = s.lif := rfl

@[simp] theorem modBerth_pending (s : State) (f : Face) (g : Berth → Berth) : (s.modBerth f g).pending = s.pending := rfl

@[simp] theorem modBerth_same (s : State) (f : Face) (g : Berth → Berth) :
    ((s.modBerth f g).face f).berth = g (s.face f).berth := by cases f <;> rfl

@[simp] theorem modBerth_face_partner (s : State) (f : Face) (g : Berth → Berth) :
    (s.modBerth f g).face f.partner = s.face f.partner := by cases f <;> rfl

@[simp] theorem modBerth_partner_face (s : State) (f : Face) (g : Berth → Berth) :
    (s.modBerth f.partner g).face f = s.face f := by cases f <;> rfl

theorem modBerth_face_ne (s : State) {f h : Face} (n : h ≠ f) (g : Berth → Berth) :
    (s.modBerth f g).face h = s.face h := face_setFace_ne s n _

@[simp] theorem modBerth_doors (s : State) (f h : Face) (g : Berth → Berth) :
    ((s.modBerth f g).face h).doors = (s.face h).doors := by cases f <;> cases h <;> rfl

@[simp] theorem modBerth_deferral (s : State) (f h : Face) (g : Berth → Berth) :
    ((s.modBerth f g).face h).deferral = (s.face h).deferral := by cases f <;> cases h <;> rfl

@[simp] theorem modBerth_reports (s : State) (f h : Face) (g : Berth → Berth) :
    ((s.modBerth f g).face h).reports = (s.face h).reports := by cases f <;> cases h <;> rfl

@[simp] theorem modBerth_line (s : State) (f h : Face) (g : Berth → Berth) :
    ((s.modBerth f g).face h).line = (s.face h).line := by cases f <;> cases h <;> rfl

@[simp] theorem modBerth_release (s : State) (f h : Face) (g : Berth → Berth) :
    ((s.modBerth f g).face h).release = (s.face h).release := by cases f <;> cases h <;> rfl

@[simp] theorem modBerth_proof (s : State) (f h : Face) (g : Berth → Berth) :
    ((s.modBerth f g).face h).proof = (s.face h).proof := by cases f <;> cases h <;> rfl

@[simp] theorem modDoors_powered (s : State) (f : Face) (g : List Door → List Door) : (s.modDoors f g).powered = s.powered := rfl

@[simp] theorem modDoors_resetPin (s : State) (f : Face) (g : List Door → List Door) : (s.modDoors f g).resetPin = s.resetPin := rfl

@[simp] theorem modDoors_now (s : State) (f : Face) (g : List Door → List Door) : (s.modDoors f g).now = s.now := rfl

@[simp] theorem modDoors_freeCount (s : State) (f : Face) (g : List Door → List Door) : (s.modDoors f g).freeCount = s.freeCount := rfl

@[simp] theorem modDoors_holds (s : State) (f : Face) (g : List Door → List Door) : (s.modDoors f g).holds = s.holds := rfl

@[simp] theorem modDoors_aln (s : State) (f : Face) (g : List Door → List Door) : (s.modDoors f g).aln = s.aln := rfl

@[simp] theorem modDoors_gap (s : State) (f : Face) (g : List Door → List Door) : (s.modDoors f g).gap = s.gap := rfl

@[simp] theorem modDoors_tbs (s : State) (f : Face) (g : List Door → List Door) : (s.modDoors f g).tbs = s.tbs := rfl

@[simp] theorem modDoors_lif (s : State) (f : Face) (g : List Door → List Door) : (s.modDoors f g).lif = s.lif := rfl

@[simp] theorem modDoors_pending (s : State) (f : Face) (g : List Door → List Door) : (s.modDoors f g).pending = s.pending := rfl

@[simp] theorem modDoors_same (s : State) (f : Face) (g : List Door → List Door) :
    ((s.modDoors f g).face f).doors = g (s.face f).doors := by cases f <;> rfl

@[simp] theorem modDoors_face_partner (s : State) (f : Face) (g : List Door → List Door) :
    (s.modDoors f g).face f.partner = s.face f.partner := by cases f <;> rfl

@[simp] theorem modDoors_partner_face (s : State) (f : Face) (g : List Door → List Door) :
    (s.modDoors f.partner g).face f = s.face f := by cases f <;> rfl

theorem modDoors_face_ne (s : State) {f h : Face} (n : h ≠ f) (g : List Door → List Door) :
    (s.modDoors f g).face h = s.face h := face_setFace_ne s n _

@[simp] theorem modDoors_berth (s : State) (f h : Face) (g : List Door → List Door) :
    ((s.modDoors f g).face h).berth = (s.face h).berth := by cases f <;> cases h <;> rfl

@[simp] theorem modDoors_deferral (s : State) (f h : Face) (g : List Door → List Door) :
    ((s.modDoors f g).face h).deferral = (s.face h).deferral := by cases f <;> cases h <;> rfl

@[simp] theorem modDoors_reports (s : State) (f h : Face) (g : List Door → List Door) :
    ((s.modDoors f g).face h).reports = (s.face h).reports := by cases f <;> cases h <;> rfl

@[simp] theorem modDoors_line (s : State) (f h : Face) (g : List Door → List Door) :
    ((s.modDoors f g).face h).line = (s.face h).line := by cases f <;> cases h <;> rfl

@[simp] theorem modDoors_release (s : State) (f h : Face) (g : List Door → List Door) :
    ((s.modDoors f g).face h).release = (s.face h).release := by cases f <;> cases h <;> rfl

@[simp] theorem modDoors_proof (s : State) (f h : Face) (g : List Door → List Door) :
    ((s.modDoors f g).face h).proof = (s.face h).proof := by cases f <;> cases h <;> rfl

@[simp] theorem modDeferral_powered (s : State) (f : Face) (g : Deferral → Deferral) : (s.modDeferral f g).powered = s.powered := rfl

@[simp] theorem modDeferral_resetPin (s : State) (f : Face) (g : Deferral → Deferral) : (s.modDeferral f g).resetPin = s.resetPin := rfl

@[simp] theorem modDeferral_now (s : State) (f : Face) (g : Deferral → Deferral) : (s.modDeferral f g).now = s.now := rfl

@[simp] theorem modDeferral_freeCount (s : State) (f : Face) (g : Deferral → Deferral) : (s.modDeferral f g).freeCount = s.freeCount := rfl

@[simp] theorem modDeferral_holds (s : State) (f : Face) (g : Deferral → Deferral) : (s.modDeferral f g).holds = s.holds := rfl

@[simp] theorem modDeferral_aln (s : State) (f : Face) (g : Deferral → Deferral) : (s.modDeferral f g).aln = s.aln := rfl

@[simp] theorem modDeferral_gap (s : State) (f : Face) (g : Deferral → Deferral) : (s.modDeferral f g).gap = s.gap := rfl

@[simp] theorem modDeferral_tbs (s : State) (f : Face) (g : Deferral → Deferral) : (s.modDeferral f g).tbs = s.tbs := rfl

@[simp] theorem modDeferral_lif (s : State) (f : Face) (g : Deferral → Deferral) : (s.modDeferral f g).lif = s.lif := rfl

@[simp] theorem modDeferral_pending (s : State) (f : Face) (g : Deferral → Deferral) : (s.modDeferral f g).pending = s.pending := rfl

@[simp] theorem modDeferral_same (s : State) (f : Face) (g : Deferral → Deferral) :
    ((s.modDeferral f g).face f).deferral = g (s.face f).deferral := by cases f <;> rfl

@[simp] theorem modDeferral_face_partner (s : State) (f : Face) (g : Deferral → Deferral) :
    (s.modDeferral f g).face f.partner = s.face f.partner := by cases f <;> rfl

@[simp] theorem modDeferral_partner_face (s : State) (f : Face) (g : Deferral → Deferral) :
    (s.modDeferral f.partner g).face f = s.face f := by cases f <;> rfl

theorem modDeferral_face_ne (s : State) {f h : Face} (n : h ≠ f) (g : Deferral → Deferral) :
    (s.modDeferral f g).face h = s.face h := face_setFace_ne s n _

@[simp] theorem modDeferral_berth (s : State) (f h : Face) (g : Deferral → Deferral) :
    ((s.modDeferral f g).face h).berth = (s.face h).berth := by cases f <;> cases h <;> rfl

@[simp] theorem modDeferral_doors (s : State) (f h : Face) (g : Deferral → Deferral) :
    ((s.modDeferral f g).face h).doors = (s.face h).doors := by cases f <;> cases h <;> rfl

@[simp] theorem modDeferral_reports (s : State) (f h : Face) (g : Deferral → Deferral) :
    ((s.modDeferral f g).face h).reports = (s.face h).reports := by cases f <;> cases h <;> rfl

@[simp] theorem modDeferral_line (s : State) (f h : Face) (g : Deferral → Deferral) :
    ((s.modDeferral f g).face h).line = (s.face h).line := by cases f <;> cases h <;> rfl

@[simp] theorem modDeferral_release (s : State) (f h : Face) (g : Deferral → Deferral) :
    ((s.modDeferral f g).face h).release = (s.face h).release := by cases f <;> cases h <;> rfl

@[simp] theorem modDeferral_proof (s : State) (f h : Face) (g : Deferral → Deferral) :
    ((s.modDeferral f g).face h).proof = (s.face h).proof := by cases f <;> cases h <;> rfl

@[simp] theorem modReports_powered (s : State) (f : Face) (g : List ObstructionReport → List ObstructionReport) : (s.modReports f g).powered = s.powered := rfl

@[simp] theorem modReports_resetPin (s : State) (f : Face) (g : List ObstructionReport → List ObstructionReport) : (s.modReports f g).resetPin = s.resetPin := rfl

@[simp] theorem modReports_now (s : State) (f : Face) (g : List ObstructionReport → List ObstructionReport) : (s.modReports f g).now = s.now := rfl

@[simp] theorem modReports_freeCount (s : State) (f : Face) (g : List ObstructionReport → List ObstructionReport) : (s.modReports f g).freeCount = s.freeCount := rfl

@[simp] theorem modReports_holds (s : State) (f : Face) (g : List ObstructionReport → List ObstructionReport) : (s.modReports f g).holds = s.holds := rfl

@[simp] theorem modReports_aln (s : State) (f : Face) (g : List ObstructionReport → List ObstructionReport) : (s.modReports f g).aln = s.aln := rfl

@[simp] theorem modReports_gap (s : State) (f : Face) (g : List ObstructionReport → List ObstructionReport) : (s.modReports f g).gap = s.gap := rfl

@[simp] theorem modReports_tbs (s : State) (f : Face) (g : List ObstructionReport → List ObstructionReport) : (s.modReports f g).tbs = s.tbs := rfl

@[simp] theorem modReports_lif (s : State) (f : Face) (g : List ObstructionReport → List ObstructionReport) : (s.modReports f g).lif = s.lif := rfl

@[simp] theorem modReports_pending (s : State) (f : Face) (g : List ObstructionReport → List ObstructionReport) : (s.modReports f g).pending = s.pending := rfl

@[simp] theorem modReports_same (s : State) (f : Face) (g : List ObstructionReport → List ObstructionReport) :
    ((s.modReports f g).face f).reports = g (s.face f).reports := by cases f <;> rfl

@[simp] theorem modReports_face_partner (s : State) (f : Face) (g : List ObstructionReport → List ObstructionReport) :
    (s.modReports f g).face f.partner = s.face f.partner := by cases f <;> rfl

@[simp] theorem modReports_partner_face (s : State) (f : Face) (g : List ObstructionReport → List ObstructionReport) :
    (s.modReports f.partner g).face f = s.face f := by cases f <;> rfl

theorem modReports_face_ne (s : State) {f h : Face} (n : h ≠ f) (g : List ObstructionReport → List ObstructionReport) :
    (s.modReports f g).face h = s.face h := face_setFace_ne s n _

@[simp] theorem modReports_berth (s : State) (f h : Face) (g : List ObstructionReport → List ObstructionReport) :
    ((s.modReports f g).face h).berth = (s.face h).berth := by cases f <;> cases h <;> rfl

@[simp] theorem modReports_doors (s : State) (f h : Face) (g : List ObstructionReport → List ObstructionReport) :
    ((s.modReports f g).face h).doors = (s.face h).doors := by cases f <;> cases h <;> rfl

@[simp] theorem modReports_deferral (s : State) (f h : Face) (g : List ObstructionReport → List ObstructionReport) :
    ((s.modReports f g).face h).deferral = (s.face h).deferral := by cases f <;> cases h <;> rfl

@[simp] theorem modReports_line (s : State) (f h : Face) (g : List ObstructionReport → List ObstructionReport) :
    ((s.modReports f g).face h).line = (s.face h).line := by cases f <;> cases h <;> rfl

@[simp] theorem modReports_release (s : State) (f h : Face) (g : List ObstructionReport → List ObstructionReport) :
    ((s.modReports f g).face h).release = (s.face h).release := by cases f <;> cases h <;> rfl

@[simp] theorem modReports_proof (s : State) (f h : Face) (g : List ObstructionReport → List ObstructionReport) :
    ((s.modReports f g).face h).proof = (s.face h).proof := by cases f <;> cases h <;> rfl

@[simp] theorem modLine_powered (s : State) (f : Face) (g : DoorLine → DoorLine) : (s.modLine f g).powered = s.powered := rfl

@[simp] theorem modLine_resetPin (s : State) (f : Face) (g : DoorLine → DoorLine) : (s.modLine f g).resetPin = s.resetPin := rfl

@[simp] theorem modLine_now (s : State) (f : Face) (g : DoorLine → DoorLine) : (s.modLine f g).now = s.now := rfl

@[simp] theorem modLine_freeCount (s : State) (f : Face) (g : DoorLine → DoorLine) : (s.modLine f g).freeCount = s.freeCount := rfl

@[simp] theorem modLine_holds (s : State) (f : Face) (g : DoorLine → DoorLine) : (s.modLine f g).holds = s.holds := rfl

@[simp] theorem modLine_aln (s : State) (f : Face) (g : DoorLine → DoorLine) : (s.modLine f g).aln = s.aln := rfl

@[simp] theorem modLine_gap (s : State) (f : Face) (g : DoorLine → DoorLine) : (s.modLine f g).gap = s.gap := rfl

@[simp] theorem modLine_tbs (s : State) (f : Face) (g : DoorLine → DoorLine) : (s.modLine f g).tbs = s.tbs := rfl

@[simp] theorem modLine_lif (s : State) (f : Face) (g : DoorLine → DoorLine) : (s.modLine f g).lif = s.lif := rfl

@[simp] theorem modLine_pending (s : State) (f : Face) (g : DoorLine → DoorLine) : (s.modLine f g).pending = s.pending := rfl

@[simp] theorem modLine_same (s : State) (f : Face) (g : DoorLine → DoorLine) :
    ((s.modLine f g).face f).line = g (s.face f).line := by cases f <;> rfl

@[simp] theorem modLine_face_partner (s : State) (f : Face) (g : DoorLine → DoorLine) :
    (s.modLine f g).face f.partner = s.face f.partner := by cases f <;> rfl

@[simp] theorem modLine_partner_face (s : State) (f : Face) (g : DoorLine → DoorLine) :
    (s.modLine f.partner g).face f = s.face f := by cases f <;> rfl

theorem modLine_face_ne (s : State) {f h : Face} (n : h ≠ f) (g : DoorLine → DoorLine) :
    (s.modLine f g).face h = s.face h := face_setFace_ne s n _

@[simp] theorem modLine_berth (s : State) (f h : Face) (g : DoorLine → DoorLine) :
    ((s.modLine f g).face h).berth = (s.face h).berth := by cases f <;> cases h <;> rfl

@[simp] theorem modLine_doors (s : State) (f h : Face) (g : DoorLine → DoorLine) :
    ((s.modLine f g).face h).doors = (s.face h).doors := by cases f <;> cases h <;> rfl

@[simp] theorem modLine_deferral (s : State) (f h : Face) (g : DoorLine → DoorLine) :
    ((s.modLine f g).face h).deferral = (s.face h).deferral := by cases f <;> cases h <;> rfl

@[simp] theorem modLine_reports (s : State) (f h : Face) (g : DoorLine → DoorLine) :
    ((s.modLine f g).face h).reports = (s.face h).reports := by cases f <;> cases h <;> rfl

@[simp] theorem modLine_release (s : State) (f h : Face) (g : DoorLine → DoorLine) :
    ((s.modLine f g).face h).release = (s.face h).release := by cases f <;> cases h <;> rfl

@[simp] theorem modLine_proof (s : State) (f h : Face) (g : DoorLine → DoorLine) :
    ((s.modLine f g).face h).proof = (s.face h).proof := by cases f <;> cases h <;> rfl

@[simp] theorem modRelease_powered (s : State) (f : Face) (g : Release → Release) : (s.modRelease f g).powered = s.powered := rfl

@[simp] theorem modRelease_resetPin (s : State) (f : Face) (g : Release → Release) : (s.modRelease f g).resetPin = s.resetPin := rfl

@[simp] theorem modRelease_now (s : State) (f : Face) (g : Release → Release) : (s.modRelease f g).now = s.now := rfl

@[simp] theorem modRelease_freeCount (s : State) (f : Face) (g : Release → Release) : (s.modRelease f g).freeCount = s.freeCount := rfl

@[simp] theorem modRelease_holds (s : State) (f : Face) (g : Release → Release) : (s.modRelease f g).holds = s.holds := rfl

@[simp] theorem modRelease_aln (s : State) (f : Face) (g : Release → Release) : (s.modRelease f g).aln = s.aln := rfl

@[simp] theorem modRelease_gap (s : State) (f : Face) (g : Release → Release) : (s.modRelease f g).gap = s.gap := rfl

@[simp] theorem modRelease_tbs (s : State) (f : Face) (g : Release → Release) : (s.modRelease f g).tbs = s.tbs := rfl

@[simp] theorem modRelease_lif (s : State) (f : Face) (g : Release → Release) : (s.modRelease f g).lif = s.lif := rfl

@[simp] theorem modRelease_pending (s : State) (f : Face) (g : Release → Release) : (s.modRelease f g).pending = s.pending := rfl

@[simp] theorem modRelease_same (s : State) (f : Face) (g : Release → Release) :
    ((s.modRelease f g).face f).release = g (s.face f).release := by cases f <;> rfl

@[simp] theorem modRelease_face_partner (s : State) (f : Face) (g : Release → Release) :
    (s.modRelease f g).face f.partner = s.face f.partner := by cases f <;> rfl

@[simp] theorem modRelease_partner_face (s : State) (f : Face) (g : Release → Release) :
    (s.modRelease f.partner g).face f = s.face f := by cases f <;> rfl

theorem modRelease_face_ne (s : State) {f h : Face} (n : h ≠ f) (g : Release → Release) :
    (s.modRelease f g).face h = s.face h := face_setFace_ne s n _

@[simp] theorem modRelease_berth (s : State) (f h : Face) (g : Release → Release) :
    ((s.modRelease f g).face h).berth = (s.face h).berth := by cases f <;> cases h <;> rfl

@[simp] theorem modRelease_doors (s : State) (f h : Face) (g : Release → Release) :
    ((s.modRelease f g).face h).doors = (s.face h).doors := by cases f <;> cases h <;> rfl

@[simp] theorem modRelease_deferral (s : State) (f h : Face) (g : Release → Release) :
    ((s.modRelease f g).face h).deferral = (s.face h).deferral := by cases f <;> cases h <;> rfl

@[simp] theorem modRelease_reports (s : State) (f h : Face) (g : Release → Release) :
    ((s.modRelease f g).face h).reports = (s.face h).reports := by cases f <;> cases h <;> rfl

@[simp] theorem modRelease_line (s : State) (f h : Face) (g : Release → Release) :
    ((s.modRelease f g).face h).line = (s.face h).line := by cases f <;> cases h <;> rfl

@[simp] theorem modRelease_proof (s : State) (f h : Face) (g : Release → Release) :
    ((s.modRelease f g).face h).proof = (s.face h).proof := by cases f <;> cases h <;> rfl

@[simp] theorem modProof_powered (s : State) (f : Face) (g : ProofRecord → ProofRecord) : (s.modProof f g).powered = s.powered := rfl

@[simp] theorem modProof_resetPin (s : State) (f : Face) (g : ProofRecord → ProofRecord) : (s.modProof f g).resetPin = s.resetPin := rfl

@[simp] theorem modProof_now (s : State) (f : Face) (g : ProofRecord → ProofRecord) : (s.modProof f g).now = s.now := rfl

@[simp] theorem modProof_freeCount (s : State) (f : Face) (g : ProofRecord → ProofRecord) : (s.modProof f g).freeCount = s.freeCount := rfl

@[simp] theorem modProof_holds (s : State) (f : Face) (g : ProofRecord → ProofRecord) : (s.modProof f g).holds = s.holds := rfl

@[simp] theorem modProof_aln (s : State) (f : Face) (g : ProofRecord → ProofRecord) : (s.modProof f g).aln = s.aln := rfl

@[simp] theorem modProof_gap (s : State) (f : Face) (g : ProofRecord → ProofRecord) : (s.modProof f g).gap = s.gap := rfl

@[simp] theorem modProof_tbs (s : State) (f : Face) (g : ProofRecord → ProofRecord) : (s.modProof f g).tbs = s.tbs := rfl

@[simp] theorem modProof_lif (s : State) (f : Face) (g : ProofRecord → ProofRecord) : (s.modProof f g).lif = s.lif := rfl

@[simp] theorem modProof_pending (s : State) (f : Face) (g : ProofRecord → ProofRecord) : (s.modProof f g).pending = s.pending := rfl

@[simp] theorem modProof_same (s : State) (f : Face) (g : ProofRecord → ProofRecord) :
    ((s.modProof f g).face f).proof = g (s.face f).proof := by cases f <;> rfl

@[simp] theorem modProof_face_partner (s : State) (f : Face) (g : ProofRecord → ProofRecord) :
    (s.modProof f g).face f.partner = s.face f.partner := by cases f <;> rfl

@[simp] theorem modProof_partner_face (s : State) (f : Face) (g : ProofRecord → ProofRecord) :
    (s.modProof f.partner g).face f = s.face f := by cases f <;> rfl

theorem modProof_face_ne (s : State) {f h : Face} (n : h ≠ f) (g : ProofRecord → ProofRecord) :
    (s.modProof f g).face h = s.face h := face_setFace_ne s n _

@[simp] theorem modProof_berth (s : State) (f h : Face) (g : ProofRecord → ProofRecord) :
    ((s.modProof f g).face h).berth = (s.face h).berth := by cases f <;> cases h <;> rfl

@[simp] theorem modProof_doors (s : State) (f h : Face) (g : ProofRecord → ProofRecord) :
    ((s.modProof f g).face h).doors = (s.face h).doors := by cases f <;> cases h <;> rfl

@[simp] theorem modProof_deferral (s : State) (f h : Face) (g : ProofRecord → ProofRecord) :
    ((s.modProof f g).face h).deferral = (s.face h).deferral := by cases f <;> cases h <;> rfl

@[simp] theorem modProof_reports (s : State) (f h : Face) (g : ProofRecord → ProofRecord) :
    ((s.modProof f g).face h).reports = (s.face h).reports := by cases f <;> cases h <;> rfl

@[simp] theorem modProof_line (s : State) (f h : Face) (g : ProofRecord → ProofRecord) :
    ((s.modProof f g).face h).line = (s.face h).line := by cases f <;> cases h <;> rfl

@[simp] theorem modProof_release (s : State) (f h : Face) (g : ProofRecord → ProofRecord) :
    ((s.modProof f g).face h).release = (s.face h).release := by cases f <;> cases h <;> rfl

@[simp] theorem modLif_powered (s : State) (g : LinkInterface → LinkInterface) : (s.modLif g).powered = s.powered := rfl

@[simp] theorem modLif_resetPin (s : State) (g : LinkInterface → LinkInterface) : (s.modLif g).resetPin = s.resetPin := rfl

@[simp] theorem modLif_now (s : State) (g : LinkInterface → LinkInterface) : (s.modLif g).now = s.now := rfl

@[simp] theorem modLif_freeCount (s : State) (g : LinkInterface → LinkInterface) : (s.modLif g).freeCount = s.freeCount := rfl

@[simp] theorem modLif_holds (s : State) (g : LinkInterface → LinkInterface) : (s.modLif g).holds = s.holds := rfl

@[simp] theorem modLif_aln (s : State) (g : LinkInterface → LinkInterface) : (s.modLif g).aln = s.aln := rfl

@[simp] theorem modLif_gap (s : State) (g : LinkInterface → LinkInterface) : (s.modLif g).gap = s.gap := rfl

@[simp] theorem modLif_tbs (s : State) (g : LinkInterface → LinkInterface) : (s.modLif g).tbs = s.tbs := rfl

@[simp] theorem modLif_lif (s : State) (g : LinkInterface → LinkInterface) : (s.modLif g).lif = g s.lif := rfl

@[simp] theorem modLif_pending (s : State) (g : LinkInterface → LinkInterface) : (s.modLif g).pending = s.pending := rfl

@[simp] theorem modLif_face (s : State) (g : LinkInterface → LinkInterface) (f : Face) : (s.modLif g).face f = s.face f := rfl

@[simp] theorem modTbs_powered (s : State) (g : TableStore → TableStore) : (s.modTbs g).powered = s.powered := rfl

@[simp] theorem modTbs_resetPin (s : State) (g : TableStore → TableStore) : (s.modTbs g).resetPin = s.resetPin := rfl

@[simp] theorem modTbs_now (s : State) (g : TableStore → TableStore) : (s.modTbs g).now = s.now := rfl

@[simp] theorem modTbs_freeCount (s : State) (g : TableStore → TableStore) : (s.modTbs g).freeCount = s.freeCount := rfl

@[simp] theorem modTbs_holds (s : State) (g : TableStore → TableStore) : (s.modTbs g).holds = s.holds := rfl

@[simp] theorem modTbs_aln (s : State) (g : TableStore → TableStore) : (s.modTbs g).aln = s.aln := rfl

@[simp] theorem modTbs_gap (s : State) (g : TableStore → TableStore) : (s.modTbs g).gap = s.gap := rfl

@[simp] theorem modTbs_tbs (s : State) (g : TableStore → TableStore) : (s.modTbs g).tbs = g s.tbs := rfl

@[simp] theorem modTbs_lif (s : State) (g : TableStore → TableStore) : (s.modTbs g).lif = s.lif := rfl

@[simp] theorem modTbs_pending (s : State) (g : TableStore → TableStore) : (s.modTbs g).pending = s.pending := rfl

@[simp] theorem modTbs_face (s : State) (g : TableStore → TableStore) (f : Face) : (s.modTbs g).face f = s.face f := rfl

@[simp] theorem modGap_powered (s : State) (g : GapMonitor → GapMonitor) : (s.modGap g).powered = s.powered := rfl

@[simp] theorem modGap_resetPin (s : State) (g : GapMonitor → GapMonitor) : (s.modGap g).resetPin = s.resetPin := rfl

@[simp] theorem modGap_now (s : State) (g : GapMonitor → GapMonitor) : (s.modGap g).now = s.now := rfl

@[simp] theorem modGap_freeCount (s : State) (g : GapMonitor → GapMonitor) : (s.modGap g).freeCount = s.freeCount := rfl

@[simp] theorem modGap_holds (s : State) (g : GapMonitor → GapMonitor) : (s.modGap g).holds = s.holds := rfl

@[simp] theorem modGap_aln (s : State) (g : GapMonitor → GapMonitor) : (s.modGap g).aln = s.aln := rfl

@[simp] theorem modGap_gap (s : State) (g : GapMonitor → GapMonitor) : (s.modGap g).gap = g s.gap := rfl

@[simp] theorem modGap_tbs (s : State) (g : GapMonitor → GapMonitor) : (s.modGap g).tbs = s.tbs := rfl

@[simp] theorem modGap_lif (s : State) (g : GapMonitor → GapMonitor) : (s.modGap g).lif = s.lif := rfl

@[simp] theorem modGap_pending (s : State) (g : GapMonitor → GapMonitor) : (s.modGap g).pending = s.pending := rfl

@[simp] theorem modGap_face (s : State) (g : GapMonitor → GapMonitor) (f : Face) : (s.modGap g).face f = s.face f := rfl

@[simp] theorem modAln_powered (s : State) (g : Engine → Engine) : (s.modAln g).powered = s.powered := rfl

@[simp] theorem modAln_resetPin (s : State) (g : Engine → Engine) : (s.modAln g).resetPin = s.resetPin := rfl

@[simp] theorem modAln_now (s : State) (g : Engine → Engine) : (s.modAln g).now = s.now := rfl

@[simp] theorem modAln_freeCount (s : State) (g : Engine → Engine) : (s.modAln g).freeCount = s.freeCount := rfl

@[simp] theorem modAln_holds (s : State) (g : Engine → Engine) : (s.modAln g).holds = s.holds := rfl

@[simp] theorem modAln_aln (s : State) (g : Engine → Engine) : (s.modAln g).aln = g s.aln := rfl

@[simp] theorem modAln_gap (s : State) (g : Engine → Engine) : (s.modAln g).gap = s.gap := rfl

@[simp] theorem modAln_tbs (s : State) (g : Engine → Engine) : (s.modAln g).tbs = s.tbs := rfl

@[simp] theorem modAln_lif (s : State) (g : Engine → Engine) : (s.modAln g).lif = s.lif := rfl

@[simp] theorem modAln_pending (s : State) (g : Engine → Engine) : (s.modAln g).pending = s.pending := rfl

@[simp] theorem modAln_face (s : State) (g : Engine → Engine) (f : Face) : (s.modAln g).face f = s.face f := rfl

@[simp] theorem advance_powered (s : State) (t : Micros) : (s.advance t).powered = s.powered := rfl

@[simp] theorem advance_resetPin (s : State) (t : Micros) : (s.advance t).resetPin = s.resetPin := rfl

@[simp] theorem advance_freeCount (s : State) (t : Micros) : (s.advance t).freeCount = s.freeCount := rfl

@[simp] theorem advance_holds (s : State) (t : Micros) : (s.advance t).holds = s.holds := rfl

@[simp] theorem advance_aln (s : State) (t : Micros) : (s.advance t).aln = s.aln := rfl

@[simp] theorem advance_gap (s : State) (t : Micros) : (s.advance t).gap = s.gap := rfl

@[simp] theorem advance_tbs (s : State) (t : Micros) : (s.advance t).tbs = s.tbs := rfl

@[simp] theorem advance_lif (s : State) (t : Micros) : (s.advance t).lif = s.lif := rfl

@[simp] theorem advance_pending (s : State) (t : Micros) : (s.advance t).pending = s.pending := rfl

@[simp] theorem advance_now (s : State) (t : Micros) : (s.advance t).now = max s.now t := rfl

@[simp] theorem advance_face (s : State) (t : Micros) (f : Face) : (s.advance t).face f = s.face f := rfl

@[simp] theorem advance_running (s : State) (t : Micros) : (s.advance t).running = s.running := rfl

end State

end Machine

end Sys2Proof
end

