-- ==== Sys2Proof/Laws/Reports.lean ====
section
/-! SUPPORT. What raising an event and deciding proof leave alone: everything but the flags, the notice records, the changed-proof
list and the Proof Units' own records. -/

namespace Sys2Proof.Machine

/-- `u` differs from `s` at most in flags, notices, changed-proof telegrams, and in the parts of the proof records that a
decision writes. -/
structure Reported (s u : State) : Prop where
  powered : u.powered = s.powered
  resetPin : u.resetPin = s.resetPin
  now : u.now = s.now
  freeCount : u.freeCount = s.freeCount
  holds : u.holds = s.holds
  aln : u.aln = s.aln
  gap : u.gap = s.gap
  tbs : u.tbs = s.tbs
  pending : u.pending = s.pending
  berth : ∀ f, (u.face f).berth = (s.face f).berth
  doors : ∀ f, (u.face f).doors = (s.face f).doors
  deferral : ∀ f, (u.face f).deferral = (s.face f).deferral
  reports : ∀ f, (u.face f).reports = (s.face f).reports
  line : ∀ f, (u.face f).line = (s.face f).line
  release : ∀ f, (u.face f).release = (s.face f).release
  lif_intake : u.lif.intake = s.lif.intake
  lif_replies : u.lif.replies = s.lif.replies
  lif_sending : u.lif.sending = s.lif.sending
  lif_lastNotice : u.lif.lastNotice = s.lif.lastNotice
  lif_badCount : u.lif.badCount = s.lif.badCount
  lif_goodStreak : u.lif.goodStreak = s.lif.goodStreak
  lif_silence : u.lif.silence = s.lif.silence
  lif_degraded : u.lif.degraded = s.lif.degraded
  lif_resetCause : u.lif.resetCause = s.lif.resetCause
  lif_errorLimit : u.lif.errorLimit = s.lif.errorLimit
  lif_afterReset : u.lif.afterReset = s.lif.afterReset
  lif_routes : u.lif.routes = s.lif.routes
  lif_uplinkErrors : u.lif.uplinkErrors = s.lif.uplinkErrors
  lif_framesDiscarded : u.lif.framesDiscarded = s.lif.framesDiscarded
  lif_requestsDropped : u.lif.requestsDropped = s.lif.requestsDropped
  lif_snapshot : u.lif.snapshot = s.lif.snapshot
  lif_preparing : u.lif.preparing = s.lif.preparing
  lif_clearing : u.lif.clearing = s.lif.clearing
  proof_pending : ∀ f, (u.face f).proof.pending = (s.face f).proof.pending
  proof_periodicAt : ∀ f, (u.face f).proof.periodicAt = (s.face f).proof.periodicAt

theorem Reported.refl (s : State) : Reported s s := by
  constructor <;> intros <;> rfl

theorem Reported.trans {s u v : State} (h : Reported s u) (k : Reported u v) : Reported s v where
  powered := k.powered.trans h.powered
  resetPin := k.resetPin.trans h.resetPin
  now := k.now.trans h.now
  freeCount := k.freeCount.trans h.freeCount
  holds := k.holds.trans h.holds
  aln := k.aln.trans h.aln
  gap := k.gap.trans h.gap
  tbs := k.tbs.trans h.tbs
  pending := k.pending.trans h.pending
  berth := fun f => (k.berth f).trans (h.berth f)
  doors := fun f => (k.doors f).trans (h.doors f)
  deferral := fun f => (k.deferral f).trans (h.deferral f)
  reports := fun f => (k.reports f).trans (h.reports f)
  line := fun f => (k.line f).trans (h.line f)
  release := fun f => (k.release f).trans (h.release f)
  lif_intake := k.lif_intake.trans h.lif_intake
  lif_replies := k.lif_replies.trans h.lif_replies
  lif_sending := k.lif_sending.trans h.lif_sending
  lif_lastNotice := k.lif_lastNotice.trans h.lif_lastNotice
  lif_badCount := k.lif_badCount.trans h.lif_badCount
  lif_goodStreak := k.lif_goodStreak.trans h.lif_goodStreak
  lif_silence := k.lif_silence.trans h.lif_silence
  lif_degraded := k.lif_degraded.trans h.lif_degraded
  lif_resetCause := k.lif_resetCause.trans h.lif_resetCause
  lif_errorLimit := k.lif_errorLimit.trans h.lif_errorLimit
  lif_afterReset := k.lif_afterReset.trans h.lif_afterReset
  lif_routes := k.lif_routes.trans h.lif_routes
  lif_uplinkErrors := k.lif_uplinkErrors.trans h.lif_uplinkErrors
  lif_framesDiscarded := k.lif_framesDiscarded.trans h.lif_framesDiscarded
  lif_requestsDropped := k.lif_requestsDropped.trans h.lif_requestsDropped
  lif_snapshot := k.lif_snapshot.trans h.lif_snapshot
  lif_preparing := k.lif_preparing.trans h.lif_preparing
  lif_clearing := k.lif_clearing.trans h.lif_clearing
  proof_pending := fun f => (k.proof_pending f).trans (h.proof_pending f)
  proof_periodicAt := fun f => (k.proof_periodicAt f).trans (h.proof_periodicAt f)

namespace State

theorem modProof_reported (s : State) (f : Face) (g : ProofRecord → ProofRecord)
    (hp : (g (s.face f).proof).pending = (s.face f).proof.pending)
    (ht : (g (s.face f).proof).periodicAt = (s.face f).proof.periodicAt) : Reported s (s.modProof f g) := by
  constructor <;> intros <;> try simp
  · rename_i h; obtain rfl | rfl := Face.eq_or_partner f h <;> simp [hp]
  · rename_i h; obtain rfl | rfl := Face.eq_or_partner f h <;> simp [ht]

theorem refreshAlerts_reported (s : State) : Reported s s.refreshAlerts := by
  unfold refreshAlerts
  exact (modProof_reported s .A _ rfl rfl).trans (modProof_reported _ .B _ rfl rfl)

theorem joinNotice_reported (s : State) (c : Scope) (k : EventKind) : Reported s (s.joinNotice c k) := by
  unfold joinNotice
  split
  · constructor <;> intros <;> rfl
  · exact .refl s

theorem raise_reported (s : State) (c : Scope) (k : EventKind) : Reported s (s.raise c k) := by
  unfold raise
  split
  · exact .refl s
  · refine Reported.trans ?_ (refreshAlerts_reported _)
    refine Reported.trans ?_ (joinNotice_reported _ c k)
    constructor <;> intros <;> rfl

theorem raiseFace_reported (s : State) (f : Face) (k : EventKind) : Reported s (s.raiseFace f k) := raise_reported s _ k

theorem raiseDevice_reported (s : State) (k : EventKind) : Reported s (s.raiseDevice k) := raise_reported s _ k

theorem decide_reported (s : State) (f : Face) : Reported s (s.decide f) := by
  have h : Reported s (s.modProof f fun _ => s.decidedProof f) := modProof_reported s f _ rfl rfl
  unfold decide
  dsimp only
  split
  · exact h
  · exact h.trans (by constructor <;> intros <;> rfl)

theorem formSets_reported (s : State) (f : Face) : Reported s (s.formSets f) := modProof_reported s f _ rfl rfl

theorem setActive_reported (s : State) (f : Face) (c : ConditionSet) : Reported s (s.setActive f c) := by
  unfold setActive
  split
  · exact decide_reported s f
  · exact ((modProof_reported s f _ rfl rfl).trans (formSets_reported _ f)).trans (decide_reported _ f)

theorem setCondition_reported (s : State) (f : Face) (c : Condition) (on : Bool) : Reported s (s.setCondition f c on) := by
  unfold setCondition
  split
  · exact .refl s
  · exact setActive_reported s f _

theorem doorsHandOn_reported (s : State) (f : Face) : Reported s (s.doorsHandOn f) :=
  (modProof_reported s f _ rfl rfl).trans (setActive_reported _ f _)

theorem activate_reported (s : State) (f : Face) (c : Condition) (k : EventKind) : Reported s (s.activate f c k) := by
  unfold activate
  split
  · exact .refl s
  · exact (raiseFace_reported s f k).trans (setCondition_reported _ f c true)

theorem raiseAll_reported (s : State) (f : Face) (l : List EventKind) : Reported s (s.raiseAll f l) := by
  unfold raiseAll
  induction l generalizing s with
  | nil => exact .refl s
  | cons k rest ih => exact (raiseFace_reported s f k).trans (ih _)

@[simp] theorem refreshAlerts_powered (s : State) :
    s.refreshAlerts.powered = s.powered := (refreshAlerts_reported s).powered

@[simp] theorem refreshAlerts_resetPin (s : State) :
    s.refreshAlerts.resetPin = s.resetPin := (refreshAlerts_reported s).resetPin

@[simp] theorem refreshAlerts_now (s : State) :
    s.refreshAlerts.now = s.now := (refreshAlerts_reported s).now

@[simp] theorem refreshAlerts_freeCount (s : State) :
    s.refreshAlerts.freeCount = s.freeCount := (refreshAlerts_reported s).freeCount

@[simp] theorem refreshAlerts_holds (s : State) :
    s.refreshAlerts.holds = s.holds := (refreshAlerts_reported s).holds

@[simp] theorem refreshAlerts_aln (s : State) :
    s.refreshAlerts.aln = s.aln := (refreshAlerts_reported s).aln

@[simp] theorem refreshAlerts_gap (s : State) :
    s.refreshAlerts.gap = s.gap := (refreshAlerts_reported s).gap

@[simp] theorem refreshAlerts_tbs (s : State) :
    s.refreshAlerts.tbs = s.tbs := (refreshAlerts_reported s).tbs

@[simp] theorem refreshAlerts_pending (s : State) :
    s.refreshAlerts.pending = s.pending := (refreshAlerts_reported s).pending

@[simp] theorem refreshAlerts_berth (s : State)  (f : Face) :
    (s.refreshAlerts.face f).berth = (s.face f).berth := (refreshAlerts_reported s).berth f

@[simp] theorem refreshAlerts_doors (s : State)  (f : Face) :
    (s.refreshAlerts.face f).doors = (s.face f).doors := (refreshAlerts_reported s).doors f

@[simp] theorem refreshAlerts_deferral (s : State)  (f : Face) :
    (s.refreshAlerts.face f).deferral = (s.face f).deferral := (refreshAlerts_reported s).deferral f

@[simp] theorem refreshAlerts_reports (s : State)  (f : Face) :
    (s.refreshAlerts.face f).reports = (s.face f).reports := (refreshAlerts_reported s).reports f

@[simp] theorem refreshAlerts_line (s : State)  (f : Face) :
    (s.refreshAlerts.face f).line = (s.face f).line := (refreshAlerts_reported s).line f

@[simp] theorem refreshAlerts_release (s : State)  (f : Face) :
    (s.refreshAlerts.face f).release = (s.face f).release := (refreshAlerts_reported s).release f

@[simp] theorem refreshAlerts_lif_intake (s : State) :
    s.refreshAlerts.lif.intake = s.lif.intake := (refreshAlerts_reported s).lif_intake

@[simp] theorem refreshAlerts_lif_replies (s : State) :
    s.refreshAlerts.lif.replies = s.lif.replies := (refreshAlerts_reported s).lif_replies

@[simp] theorem refreshAlerts_lif_sending (s : State) :
    s.refreshAlerts.lif.sending = s.lif.sending := (refreshAlerts_reported s).lif_sending

@[simp] theorem refreshAlerts_lif_lastNotice (s : State) :
    s.refreshAlerts.lif.lastNotice = s.lif.lastNotice := (refreshAlerts_reported s).lif_lastNotice

@[simp] theorem refreshAlerts_lif_badCount (s : State) :
    s.refreshAlerts.lif.badCount = s.lif.badCount := (refreshAlerts_reported s).lif_badCount

@[simp] theorem refreshAlerts_lif_goodStreak (s : State) :
    s.refreshAlerts.lif.goodStreak = s.lif.goodStreak := (refreshAlerts_reported s).lif_goodStreak

@[simp] theorem refreshAlerts_lif_silence (s : State) :
    s.refreshAlerts.lif.silence = s.lif.silence := (refreshAlerts_reported s).lif_silence

@[simp] theorem refreshAlerts_lif_degraded (s : State) :
    s.refreshAlerts.lif.degraded = s.lif.degraded := (refreshAlerts_reported s).lif_degraded

@[simp] theorem refreshAlerts_lif_resetCause (s : State) :
    s.refreshAlerts.lif.resetCause = s.lif.resetCause := (refreshAlerts_reported s).lif_resetCause

@[simp] theorem refreshAlerts_lif_errorLimit (s : State) :
    s.refreshAlerts.lif.errorLimit = s.lif.errorLimit := (refreshAlerts_reported s).lif_errorLimit

@[simp] theorem refreshAlerts_lif_afterReset (s : State) :
    s.refreshAlerts.lif.afterReset = s.lif.afterReset := (refreshAlerts_reported s).lif_afterReset

@[simp] theorem refreshAlerts_lif_routes (s : State) :
    s.refreshAlerts.lif.routes = s.lif.routes := (refreshAlerts_reported s).lif_routes

@[simp] theorem refreshAlerts_lif_uplinkErrors (s : State) :
    s.refreshAlerts.lif.uplinkErrors = s.lif.uplinkErrors := (refreshAlerts_reported s).lif_uplinkErrors

@[simp] theorem refreshAlerts_lif_framesDiscarded (s : State) :
    s.refreshAlerts.lif.framesDiscarded = s.lif.framesDiscarded := (refreshAlerts_reported s).lif_framesDiscarded

@[simp] theorem refreshAlerts_lif_requestsDropped (s : State) :
    s.refreshAlerts.lif.requestsDropped = s.lif.requestsDropped := (refreshAlerts_reported s).lif_requestsDropped

@[simp] theorem refreshAlerts_lif_snapshot (s : State) :
    s.refreshAlerts.lif.snapshot = s.lif.snapshot := (refreshAlerts_reported s).lif_snapshot

@[simp] theorem refreshAlerts_lif_preparing (s : State) :
    s.refreshAlerts.lif.preparing = s.lif.preparing := (refreshAlerts_reported s).lif_preparing

@[simp] theorem refreshAlerts_lif_clearing (s : State) :
    s.refreshAlerts.lif.clearing = s.lif.clearing := (refreshAlerts_reported s).lif_clearing

@[simp] theorem refreshAlerts_proof_pending (s : State)  (f : Face) :
    (s.refreshAlerts.face f).proof.pending = (s.face f).proof.pending := (refreshAlerts_reported s).proof_pending f

@[simp] theorem refreshAlerts_proof_periodicAt (s : State)  (f : Face) :
    (s.refreshAlerts.face f).proof.periodicAt = (s.face f).proof.periodicAt := (refreshAlerts_reported s).proof_periodicAt f

@[simp] theorem joinNotice_powered (s : State) (c : Scope) (k : EventKind) :
    (s.joinNotice c k).powered = s.powered := (joinNotice_reported s c k).powered

@[simp] theorem joinNotice_resetPin (s : State) (c : Scope) (k : EventKind) :
    (s.joinNotice c k).resetPin = s.resetPin := (joinNotice_reported s c k).resetPin

@[simp] theorem joinNotice_now (s : State) (c : Scope) (k : EventKind) :
    (s.joinNotice c k).now = s.now := (joinNotice_reported s c k).now

@[simp] theorem joinNotice_freeCount (s : State) (c : Scope) (k : EventKind) :
    (s.joinNotice c k).freeCount = s.freeCount := (joinNotice_reported s c k).freeCount

@[simp] theorem joinNotice_holds (s : State) (c : Scope) (k : EventKind) :
    (s.joinNotice c k).holds = s.holds := (joinNotice_reported s c k).holds

@[simp] theorem joinNotice_aln (s : State) (c : Scope) (k : EventKind) :
    (s.joinNotice c k).aln = s.aln := (joinNotice_reported s c k).aln

@[simp] theorem joinNotice_gap (s : State) (c : Scope) (k : EventKind) :
    (s.joinNotice c k).gap = s.gap := (joinNotice_reported s c k).gap

@[simp] theorem joinNotice_tbs (s : State) (c : Scope) (k : EventKind) :
    (s.joinNotice c k).tbs = s.tbs := (joinNotice_reported s c k).tbs

@[simp] theorem joinNotice_pending (s : State) (c : Scope) (k : EventKind) :
    (s.joinNotice c k).pending = s.pending := (joinNotice_reported s c k).pending

@[simp] theorem joinNotice_berth (s : State) (c : Scope) (k : EventKind) (f : Face) :
    ((s.joinNotice c k).face f).berth = (s.face f).berth := (joinNotice_reported s c k).berth f

@[simp] theorem joinNotice_doors (s : State) (c : Scope) (k : EventKind) (f : Face) :
    ((s.joinNotice c k).face f).doors = (s.face f).doors := (joinNotice_reported s c k).doors f

@[simp] theorem joinNotice_deferral (s : State) (c : Scope) (k : EventKind) (f : Face) :
    ((s.joinNotice c k).face f).deferral = (s.face f).deferral := (joinNotice_reported s c k).deferral f

@[simp] theorem joinNotice_reports (s : State) (c : Scope) (k : EventKind) (f : Face) :
    ((s.joinNotice c k).face f).reports = (s.face f).reports := (joinNotice_reported s c k).reports f

@[simp] theorem joinNotice_line (s : State) (c : Scope) (k : EventKind) (f : Face) :
    ((s.joinNotice c k).face f).line = (s.face f).line := (joinNotice_reported s c k).line f

@[simp] theorem joinNotice_release (s : State) (c : Scope) (k : EventKind) (f : Face) :
    ((s.joinNotice c k).face f).release = (s.face f).release := (joinNotice_reported s c k).release f

@[simp] theorem joinNotice_lif_intake (s : State) (c : Scope) (k : EventKind) :
    (s.joinNotice c k).lif.intake = s.lif.intake := (joinNotice_reported s c k).lif_intake

@[simp] theorem joinNotice_lif_replies (s : State) (c : Scope) (k : EventKind) :
    (s.joinNotice c k).lif.replies = s.lif.replies := (joinNotice_reported s c k).lif_replies

@[simp] theorem joinNotice_lif_sending (s : State) (c : Scope) (k : EventKind) :
    (s.joinNotice c k).lif.sending = s.lif.sending := (joinNotice_reported s c k).lif_sending

@[simp] theorem joinNotice_lif_lastNotice (s : State) (c : Scope) (k : EventKind) :
    (s.joinNotice c k).lif.lastNotice = s.lif.lastNotice := (joinNotice_reported s c k).lif_lastNotice

@[simp] theorem joinNotice_lif_badCount (s : State) (c : Scope) (k : EventKind) :
    (s.joinNotice c k).lif.badCount = s.lif.badCount := (joinNotice_reported s c k).lif_badCount

@[simp] theorem joinNotice_lif_goodStreak (s : State) (c : Scope) (k : EventKind) :
    (s.joinNotice c k).lif.goodStreak = s.lif.goodStreak := (joinNotice_reported s c k).lif_goodStreak

@[simp] theorem joinNotice_lif_silence (s : State) (c : Scope) (k : EventKind) :
    (s.joinNotice c k).lif.silence = s.lif.silence := (joinNotice_reported s c k).lif_silence

@[simp] theorem joinNotice_lif_degraded (s : State) (c : Scope) (k : EventKind) :
    (s.joinNotice c k).lif.degraded = s.lif.degraded := (joinNotice_reported s c k).lif_degraded

@[simp] theorem joinNotice_lif_resetCause (s : State) (c : Scope) (k : EventKind) :
    (s.joinNotice c k).lif.resetCause = s.lif.resetCause := (joinNotice_reported s c k).lif_resetCause

@[simp] theorem joinNotice_lif_errorLimit (s : State) (c : Scope) (k : EventKind) :
    (s.joinNotice c k).lif.errorLimit = s.lif.errorLimit := (joinNotice_reported s c k).lif_errorLimit

@[simp] theorem joinNotice_lif_afterReset (s : State) (c : Scope) (k : EventKind) :
    (s.joinNotice c k).lif.afterReset = s.lif.afterReset := (joinNotice_reported s c k).lif_afterReset

@[simp] theorem joinNotice_lif_routes (s : State) (c : Scope) (k : EventKind) :
    (s.joinNotice c k).lif.routes = s.lif.routes := (joinNotice_reported s c k).lif_routes

@[simp] theorem joinNotice_lif_uplinkErrors (s : State) (c : Scope) (k : EventKind) :
    (s.joinNotice c k).lif.uplinkErrors = s.lif.uplinkErrors := (joinNotice_reported s c k).lif_uplinkErrors

@[simp] theorem joinNotice_lif_framesDiscarded (s : State) (c : Scope) (k : EventKind) :
    (s.joinNotice c k).lif.framesDiscarded = s.lif.framesDiscarded := (joinNotice_reported s c k).lif_framesDiscarded

@[simp] theorem joinNotice_lif_requestsDropped (s : State) (c : Scope) (k : EventKind) :
    (s.joinNotice c k).lif.requestsDropped = s.lif.requestsDropped := (joinNotice_reported s c k).lif_requestsDropped

@[simp] theorem joinNotice_lif_snapshot (s : State) (c : Scope) (k : EventKind) :
    (s.joinNotice c k).lif.snapshot = s.lif.snapshot := (joinNotice_reported s c k).lif_snapshot

@[simp] theorem joinNotice_lif_preparing (s : State) (c : Scope) (k : EventKind) :
    (s.joinNotice c k).lif.preparing = s.lif.preparing := (joinNotice_reported s c k).lif_preparing

@[simp] theorem joinNotice_lif_clearing (s : State) (c : Scope) (k : EventKind) :
    (s.joinNotice c k).lif.clearing = s.lif.clearing := (joinNotice_reported s c k).lif_clearing

@[simp] theorem joinNotice_proof_pending (s : State) (c : Scope) (k : EventKind) (f : Face) :
    ((s.joinNotice c k).face f).proof.pending = (s.face f).proof.pending := (joinNotice_reported s c k).proof_pending f

@[simp] theorem joinNotice_proof_periodicAt (s : State) (c : Scope) (k : EventKind) (f : Face) :
    ((s.joinNotice c k).face f).proof.periodicAt = (s.face f).proof.periodicAt := (joinNotice_reported s c k).proof_periodicAt f

@[simp] theorem raise_powered (s : State) (c : Scope) (k : EventKind) :
    (s.raise c k).powered = s.powered := (raise_reported s c k).powered

@[simp] theorem raise_resetPin (s : State) (c : Scope) (k : EventKind) :
    (s.raise c k).resetPin = s.resetPin := (raise_reported s c k).resetPin

@[simp] theorem raise_now (s : State) (c : Scope) (k : EventKind) :
    (s.raise c k).now = s.now := (raise_reported s c k).now

@[simp] theorem raise_freeCount (s : State) (c : Scope) (k : EventKind) :
    (s.raise c k).freeCount = s.freeCount := (raise_reported s c k).freeCount

@[simp] theorem raise_holds (s : State) (c : Scope) (k : EventKind) :
    (s.raise c k).holds = s.holds := (raise_reported s c k).holds

@[simp] theorem raise_aln (s : State) (c : Scope) (k : EventKind) :
    (s.raise c k).aln = s.aln := (raise_reported s c k).aln

@[simp] theorem raise_gap (s : State) (c : Scope) (k : EventKind) :
    (s.raise c k).gap = s.gap := (raise_reported s c k).gap

@[simp] theorem raise_tbs (s : State) (c : Scope) (k : EventKind) :
    (s.raise c k).tbs = s.tbs := (raise_reported s c k).tbs

@[simp] theorem raise_pending (s : State) (c : Scope) (k : EventKind) :
    (s.raise c k).pending = s.pending := (raise_reported s c k).pending

@[simp] theorem raise_berth (s : State) (c : Scope) (k : EventKind) (f : Face) :
    ((s.raise c k).face f).berth = (s.face f).berth := (raise_reported s c k).berth f

@[simp] theorem raise_doors (s : State) (c : Scope) (k : EventKind) (f : Face) :
    ((s.raise c k).face f).doors = (s.face f).doors := (raise_reported s c k).doors f

@[simp] theorem raise_deferral (s : State) (c : Scope) (k : EventKind) (f : Face) :
    ((s.raise c k).face f).deferral = (s.face f).deferral := (raise_reported s c k).deferral f

@[simp] theorem raise_reports (s : State) (c : Scope) (k : EventKind) (f : Face) :
    ((s.raise c k).face f).reports = (s.face f).reports := (raise_reported s c k).reports f

@[simp] theorem raise_line (s : State) (c : Scope) (k : EventKind) (f : Face) :
    ((s.raise c k).face f).line = (s.face f).line := (raise_reported s c k).line f

@[simp] theorem raise_release (s : State) (c : Scope) (k : EventKind) (f : Face) :
    ((s.raise c k).face f).release = (s.face f).release := (raise_reported s c k).release f

@[simp] theorem raise_lif_intake (s : State) (c : Scope) (k : EventKind) :
    (s.raise c k).lif.intake = s.lif.intake := (raise_reported s c k).lif_intake

@[simp] theorem raise_lif_replies (s : State) (c : Scope) (k : EventKind) :
    (s.raise c k).lif.replies = s.lif.replies := (raise_reported s c k).lif_replies

@[simp] theorem raise_lif_sending (s : State) (c : Scope) (k : EventKind) :
    (s.raise c k).lif.sending = s.lif.sending := (raise_reported s c k).lif_sending

@[simp] theorem raise_lif_lastNotice (s : State) (c : Scope) (k : EventKind) :
    (s.raise c k).lif.lastNotice = s.lif.lastNotice := (raise_reported s c k).lif_lastNotice

@[simp] theorem raise_lif_badCount (s : State) (c : Scope) (k : EventKind) :
    (s.raise c k).lif.badCount = s.lif.badCount := (raise_reported s c k).lif_badCount

@[simp] theorem raise_lif_goodStreak (s : State) (c : Scope) (k : EventKind) :
    (s.raise c k).lif.goodStreak = s.lif.goodStreak := (raise_reported s c k).lif_goodStreak

@[simp] theorem raise_lif_silence (s : State) (c : Scope) (k : EventKind) :
    (s.raise c k).lif.silence = s.lif.silence := (raise_reported s c k).lif_silence

@[simp] theorem raise_lif_degraded (s : State) (c : Scope) (k : EventKind) :
    (s.raise c k).lif.degraded = s.lif.degraded := (raise_reported s c k).lif_degraded

@[simp] theorem raise_lif_resetCause (s : State) (c : Scope) (k : EventKind) :
    (s.raise c k).lif.resetCause = s.lif.resetCause := (raise_reported s c k).lif_resetCause

@[simp] theorem raise_lif_errorLimit (s : State) (c : Scope) (k : EventKind) :
    (s.raise c k).lif.errorLimit = s.lif.errorLimit := (raise_reported s c k).lif_errorLimit

@[simp] theorem raise_lif_afterReset (s : State) (c : Scope) (k : EventKind) :
    (s.raise c k).lif.afterReset = s.lif.afterReset := (raise_reported s c k).lif_afterReset

@[simp] theorem raise_lif_routes (s : State) (c : Scope) (k : EventKind) :
    (s.raise c k).lif.routes = s.lif.routes := (raise_reported s c k).lif_routes

@[simp] theorem raise_lif_uplinkErrors (s : State) (c : Scope) (k : EventKind) :
    (s.raise c k).lif.uplinkErrors = s.lif.uplinkErrors := (raise_reported s c k).lif_uplinkErrors

@[simp] theorem raise_lif_framesDiscarded (s : State) (c : Scope) (k : EventKind) :
    (s.raise c k).lif.framesDiscarded = s.lif.framesDiscarded := (raise_reported s c k).lif_framesDiscarded

@[simp] theorem raise_lif_requestsDropped (s : State) (c : Scope) (k : EventKind) :
    (s.raise c k).lif.requestsDropped = s.lif.requestsDropped := (raise_reported s c k).lif_requestsDropped

@[simp] theorem raise_lif_snapshot (s : State) (c : Scope) (k : EventKind) :
    (s.raise c k).lif.snapshot = s.lif.snapshot := (raise_reported s c k).lif_snapshot

@[simp] theorem raise_lif_preparing (s : State) (c : Scope) (k : EventKind) :
    (s.raise c k).lif.preparing = s.lif.preparing := (raise_reported s c k).lif_preparing

@[simp] theorem raise_lif_clearing (s : State) (c : Scope) (k : EventKind) :
    (s.raise c k).lif.clearing = s.lif.clearing := (raise_reported s c k).lif_clearing

@[simp] theorem raise_proof_pending (s : State) (c : Scope) (k : EventKind) (f : Face) :
    ((s.raise c k).face f).proof.pending = (s.face f).proof.pending := (raise_reported s c k).proof_pending f

@[simp] theorem raise_proof_periodicAt (s : State) (c : Scope) (k : EventKind) (f : Face) :
    ((s.raise c k).face f).proof.periodicAt = (s.face f).proof.periodicAt := (raise_reported s c k).proof_periodicAt f

@[simp] theorem raiseFace_powered (s : State) (g : Face) (k : EventKind) :
    (s.raiseFace g k).powered = s.powered := (raiseFace_reported s g k).powered

@[simp] theorem raiseFace_resetPin (s : State) (g : Face) (k : EventKind) :
    (s.raiseFace g k).resetPin = s.resetPin := (raiseFace_reported s g k).resetPin

@[simp] theorem raiseFace_now (s : State) (g : Face) (k : EventKind) :
    (s.raiseFace g k).now = s.now := (raiseFace_reported s g k).now

@[simp] theorem raiseFace_freeCount (s : State) (g : Face) (k : EventKind) :
    (s.raiseFace g k).freeCount = s.freeCount := (raiseFace_reported s g k).freeCount

@[simp] theorem raiseFace_holds (s : State) (g : Face) (k : EventKind) :
    (s.raiseFace g k).holds = s.holds := (raiseFace_reported s g k).holds

@[simp] theorem raiseFace_aln (s : State) (g : Face) (k : EventKind) :
    (s.raiseFace g k).aln = s.aln := (raiseFace_reported s g k).aln

@[simp] theorem raiseFace_gap (s : State) (g : Face) (k : EventKind) :
    (s.raiseFace g k).gap = s.gap := (raiseFace_reported s g k).gap

@[simp] theorem raiseFace_tbs (s : State) (g : Face) (k : EventKind) :
    (s.raiseFace g k).tbs = s.tbs := (raiseFace_reported s g k).tbs

@[simp] theorem raiseFace_pending (s : State) (g : Face) (k : EventKind) :
    (s.raiseFace g k).pending = s.pending := (raiseFace_reported s g k).pending

@[simp] theorem raiseFace_berth (s : State) (g : Face) (k : EventKind) (f : Face) :
    ((s.raiseFace g k).face f).berth = (s.face f).berth := (raiseFace_reported s g k).berth f

@[simp] theorem raiseFace_doors (s : State) (g : Face) (k : EventKind) (f : Face) :
    ((s.raiseFace g k).face f).doors = (s.face f).doors := (raiseFace_reported s g k).doors f

@[simp] theorem raiseFace_deferral (s : State) (g : Face) (k : EventKind) (f : Face) :
    ((s.raiseFace g k).face f).deferral = (s.face f).deferral := (raiseFace_reported s g k).deferral f

@[simp] theorem raiseFace_reports (s : State) (g : Face) (k : EventKind) (f : Face) :
    ((s.raiseFace g k).face f).reports = (s.face f).reports := (raiseFace_reported s g k).reports f

@[simp] theorem raiseFace_line (s : State) (g : Face) (k : EventKind) (f : Face) :
    ((s.raiseFace g k).face f).line = (s.face f).line := (raiseFace_reported s g k).line f

@[simp] theorem raiseFace_release (s : State) (g : Face) (k : EventKind) (f : Face) :
    ((s.raiseFace g k).face f).release = (s.face f).release := (raiseFace_reported s g k).release f

@[simp] theorem raiseFace_lif_intake (s : State) (g : Face) (k : EventKind) :
    (s.raiseFace g k).lif.intake = s.lif.intake := (raiseFace_reported s g k).lif_intake

@[simp] theorem raiseFace_lif_replies (s : State) (g : Face) (k : EventKind) :
    (s.raiseFace g k).lif.replies = s.lif.replies := (raiseFace_reported s g k).lif_replies

@[simp] theorem raiseFace_lif_sending (s : State) (g : Face) (k : EventKind) :
    (s.raiseFace g k).lif.sending = s.lif.sending := (raiseFace_reported s g k).lif_sending

@[simp] theorem raiseFace_lif_lastNotice (s : State) (g : Face) (k : EventKind) :
    (s.raiseFace g k).lif.lastNotice = s.lif.lastNotice := (raiseFace_reported s g k).lif_lastNotice

@[simp] theorem raiseFace_lif_badCount (s : State) (g : Face) (k : EventKind) :
    (s.raiseFace g k).lif.badCount = s.lif.badCount := (raiseFace_reported s g k).lif_badCount

@[simp] theorem raiseFace_lif_goodStreak (s : State) (g : Face) (k : EventKind) :
    (s.raiseFace g k).lif.goodStreak = s.lif.goodStreak := (raiseFace_reported s g k).lif_goodStreak

@[simp] theorem raiseFace_lif_silence (s : State) (g : Face) (k : EventKind) :
    (s.raiseFace g k).lif.silence = s.lif.silence := (raiseFace_reported s g k).lif_silence

@[simp] theorem raiseFace_lif_degraded (s : State) (g : Face) (k : EventKind) :
    (s.raiseFace g k).lif.degraded = s.lif.degraded := (raiseFace_reported s g k).lif_degraded

@[simp] theorem raiseFace_lif_resetCause (s : State) (g : Face) (k : EventKind) :
    (s.raiseFace g k).lif.resetCause = s.lif.resetCause := (raiseFace_reported s g k).lif_resetCause

@[simp] theorem raiseFace_lif_errorLimit (s : State) (g : Face) (k : EventKind) :
    (s.raiseFace g k).lif.errorLimit = s.lif.errorLimit := (raiseFace_reported s g k).lif_errorLimit

@[simp] theorem raiseFace_lif_afterReset (s : State) (g : Face) (k : EventKind) :
    (s.raiseFace g k).lif.afterReset = s.lif.afterReset := (raiseFace_reported s g k).lif_afterReset

@[simp] theorem raiseFace_lif_routes (s : State) (g : Face) (k : EventKind) :
    (s.raiseFace g k).lif.routes = s.lif.routes := (raiseFace_reported s g k).lif_routes

@[simp] theorem raiseFace_lif_uplinkErrors (s : State) (g : Face) (k : EventKind) :
    (s.raiseFace g k).lif.uplinkErrors = s.lif.uplinkErrors := (raiseFace_reported s g k).lif_uplinkErrors

@[simp] theorem raiseFace_lif_framesDiscarded (s : State) (g : Face) (k : EventKind) :
    (s.raiseFace g k).lif.framesDiscarded = s.lif.framesDiscarded := (raiseFace_reported s g k).lif_framesDiscarded

@[simp] theorem raiseFace_lif_requestsDropped (s : State) (g : Face) (k : EventKind) :
    (s.raiseFace g k).lif.requestsDropped = s.lif.requestsDropped := (raiseFace_reported s g k).lif_requestsDropped

@[simp] theorem raiseFace_lif_snapshot (s : State) (g : Face) (k : EventKind) :
    (s.raiseFace g k).lif.snapshot = s.lif.snapshot := (raiseFace_reported s g k).lif_snapshot

@[simp] theorem raiseFace_lif_preparing (s : State) (g : Face) (k : EventKind) :
    (s.raiseFace g k).lif.preparing = s.lif.preparing := (raiseFace_reported s g k).lif_preparing

@[simp] theorem raiseFace_lif_clearing (s : State) (g : Face) (k : EventKind) :
    (s.raiseFace g k).lif.clearing = s.lif.clearing := (raiseFace_reported s g k).lif_clearing

@[simp] theorem raiseFace_proof_pending (s : State) (g : Face) (k : EventKind) (f : Face) :
    ((s.raiseFace g k).face f).proof.pending = (s.face f).proof.pending := (raiseFace_reported s g k).proof_pending f

@[simp] theorem raiseFace_proof_periodicAt (s : State) (g : Face) (k : EventKind) (f : Face) :
    ((s.raiseFace g k).face f).proof.periodicAt = (s.face f).proof.periodicAt := (raiseFace_reported s g k).proof_periodicAt f

@[simp] theorem raiseDevice_powered (s : State) (k : EventKind) :
    (s.raiseDevice k).powered = s.powered := (raiseDevice_reported s k).powered

@[simp] theorem raiseDevice_resetPin (s : State) (k : EventKind) :
    (s.raiseDevice k).resetPin = s.resetPin := (raiseDevice_reported s k).resetPin

@[simp] theorem raiseDevice_now (s : State) (k : EventKind) :
    (s.raiseDevice k).now = s.now := (raiseDevice_reported s k).now

@[simp] theorem raiseDevice_freeCount (s : State) (k : EventKind) :
    (s.raiseDevice k).freeCount = s.freeCount := (raiseDevice_reported s k).freeCount

@[simp] theorem raiseDevice_holds (s : State) (k : EventKind) :
    (s.raiseDevice k).holds = s.holds := (raiseDevice_reported s k).holds

@[simp] theorem raiseDevice_aln (s : State) (k : EventKind) :
    (s.raiseDevice k).aln = s.aln := (raiseDevice_reported s k).aln

@[simp] theorem raiseDevice_gap (s : State) (k : EventKind) :
    (s.raiseDevice k).gap = s.gap := (raiseDevice_reported s k).gap

@[simp] theorem raiseDevice_tbs (s : State) (k : EventKind) :
    (s.raiseDevice k).tbs = s.tbs := (raiseDevice_reported s k).tbs

@[simp] theorem raiseDevice_pending (s : State) (k : EventKind) :
    (s.raiseDevice k).pending = s.pending := (raiseDevice_reported s k).pending

@[simp] theorem raiseDevice_berth (s : State) (k : EventKind) (f : Face) :
    ((s.raiseDevice k).face f).berth = (s.face f).berth := (raiseDevice_reported s k).berth f

@[simp] theorem raiseDevice_doors (s : State) (k : EventKind) (f : Face) :
    ((s.raiseDevice k).face f).doors = (s.face f).doors := (raiseDevice_reported s k).doors f

@[simp] theorem raiseDevice_deferral (s : State) (k : EventKind) (f : Face) :
    ((s.raiseDevice k).face f).deferral = (s.face f).deferral := (raiseDevice_reported s k).deferral f

@[simp] theorem raiseDevice_reports (s : State) (k : EventKind) (f : Face) :
    ((s.raiseDevice k).face f).reports = (s.face f).reports := (raiseDevice_reported s k).reports f

@[simp] theorem raiseDevice_line (s : State) (k : EventKind) (f : Face) :
    ((s.raiseDevice k).face f).line = (s.face f).line := (raiseDevice_reported s k).line f

@[simp] theorem raiseDevice_release (s : State) (k : EventKind) (f : Face) :
    ((s.raiseDevice k).face f).release = (s.face f).release := (raiseDevice_reported s k).release f

@[simp] theorem raiseDevice_lif_intake (s : State) (k : EventKind) :
    (s.raiseDevice k).lif.intake = s.lif.intake := (raiseDevice_reported s k).lif_intake

@[simp] theorem raiseDevice_lif_replies (s : State) (k : EventKind) :
    (s.raiseDevice k).lif.replies = s.lif.replies := (raiseDevice_reported s k).lif_replies

@[simp] theorem raiseDevice_lif_sending (s : State) (k : EventKind) :
    (s.raiseDevice k).lif.sending = s.lif.sending := (raiseDevice_reported s k).lif_sending

@[simp] theorem raiseDevice_lif_lastNotice (s : State) (k : EventKind) :
    (s.raiseDevice k).lif.lastNotice = s.lif.lastNotice := (raiseDevice_reported s k).lif_lastNotice

@[simp] theorem raiseDevice_lif_badCount (s : State) (k : EventKind) :
    (s.raiseDevice k).lif.badCount = s.lif.badCount := (raiseDevice_reported s k).lif_badCount

@[simp] theorem raiseDevice_lif_goodStreak (s : State) (k : EventKind) :
    (s.raiseDevice k).lif.goodStreak = s.lif.goodStreak := (raiseDevice_reported s k).lif_goodStreak

@[simp] theorem raiseDevice_lif_silence (s : State) (k : EventKind) :
    (s.raiseDevice k).lif.silence = s.lif.silence := (raiseDevice_reported s k).lif_silence

@[simp] theorem raiseDevice_lif_degraded (s : State) (k : EventKind) :
    (s.raiseDevice k).lif.degraded = s.lif.degraded := (raiseDevice_reported s k).lif_degraded

@[simp] theorem raiseDevice_lif_resetCause (s : State) (k : EventKind) :
    (s.raiseDevice k).lif.resetCause = s.lif.resetCause := (raiseDevice_reported s k).lif_resetCause

@[simp] theorem raiseDevice_lif_errorLimit (s : State) (k : EventKind) :
    (s.raiseDevice k).lif.errorLimit = s.lif.errorLimit := (raiseDevice_reported s k).lif_errorLimit

@[simp] theorem raiseDevice_lif_afterReset (s : State) (k : EventKind) :
    (s.raiseDevice k).lif.afterReset = s.lif.afterReset := (raiseDevice_reported s k).lif_afterReset

@[simp] theorem raiseDevice_lif_routes (s : State) (k : EventKind) :
    (s.raiseDevice k).lif.routes = s.lif.routes := (raiseDevice_reported s k).lif_routes

@[simp] theorem raiseDevice_lif_uplinkErrors (s : State) (k : EventKind) :
    (s.raiseDevice k).lif.uplinkErrors = s.lif.uplinkErrors := (raiseDevice_reported s k).lif_uplinkErrors

@[simp] theorem raiseDevice_lif_framesDiscarded (s : State) (k : EventKind) :
    (s.raiseDevice k).lif.framesDiscarded = s.lif.framesDiscarded := (raiseDevice_reported s k).lif_framesDiscarded

@[simp] theorem raiseDevice_lif_requestsDropped (s : State) (k : EventKind) :
    (s.raiseDevice k).lif.requestsDropped = s.lif.requestsDropped := (raiseDevice_reported s k).lif_requestsDropped

@[simp] theorem raiseDevice_lif_snapshot (s : State) (k : EventKind) :
    (s.raiseDevice k).lif.snapshot = s.lif.snapshot := (raiseDevice_reported s k).lif_snapshot

@[simp] theorem raiseDevice_lif_preparing (s : State) (k : EventKind) :
    (s.raiseDevice k).lif.preparing = s.lif.preparing := (raiseDevice_reported s k).lif_preparing

@[simp] theorem raiseDevice_lif_clearing (s : State) (k : EventKind) :
    (s.raiseDevice k).lif.clearing = s.lif.clearing := (raiseDevice_reported s k).lif_clearing

@[simp] theorem raiseDevice_proof_pending (s : State) (k : EventKind) (f : Face) :
    ((s.raiseDevice k).face f).proof.pending = (s.face f).proof.pending := (raiseDevice_reported s k).proof_pending f

@[simp] theorem raiseDevice_proof_periodicAt (s : State) (k : EventKind) (f : Face) :
    ((s.raiseDevice k).face f).proof.periodicAt = (s.face f).proof.periodicAt := (raiseDevice_reported s k).proof_periodicAt f

@[simp] theorem decide_powered (s : State) (g : Face) :
    (s.decide g).powered = s.powered := (decide_reported s g).powered

@[simp] theorem decide_resetPin (s : State) (g : Face) :
    (s.decide g).resetPin = s.resetPin := (decide_reported s g).resetPin

@[simp] theorem decide_now (s : State) (g : Face) :
    (s.decide g).now = s.now := (decide_reported s g).now

@[simp] theorem decide_freeCount (s : State) (g : Face) :
    (s.decide g).freeCount = s.freeCount := (decide_reported s g).freeCount

@[simp] theorem decide_holds (s : State) (g : Face) :
    (s.decide g).holds = s.holds := (decide_reported s g).holds

@[simp] theorem decide_aln (s : State) (g : Face) :
    (s.decide g).aln = s.aln := (decide_reported s g).aln

@[simp] theorem decide_gap (s : State) (g : Face) :
    (s.decide g).gap = s.gap := (decide_reported s g).gap

@[simp] theorem decide_tbs (s : State) (g : Face) :
    (s.decide g).tbs = s.tbs := (decide_reported s g).tbs

@[simp] theorem decide_pending (s : State) (g : Face) :
    (s.decide g).pending = s.pending := (decide_reported s g).pending

@[simp] theorem decide_berth (s : State) (g : Face) (f : Face) :
    ((s.decide g).face f).berth = (s.face f).berth := (decide_reported s g).berth f

@[simp] theorem decide_doors (s : State) (g : Face) (f : Face) :
    ((s.decide g).face f).doors = (s.face f).doors := (decide_reported s g).doors f

@[simp] theorem decide_deferral (s : State) (g : Face) (f : Face) :
    ((s.decide g).face f).deferral = (s.face f).deferral := (decide_reported s g).deferral f

@[simp] theorem decide_reports (s : State) (g : Face) (f : Face) :
    ((s.decide g).face f).reports = (s.face f).reports := (decide_reported s g).reports f

@[simp] theorem decide_line (s : State) (g : Face) (f : Face) :
    ((s.decide g).face f).line = (s.face f).line := (decide_reported s g).line f

@[simp] theorem decide_release (s : State) (g : Face) (f : Face) :
    ((s.decide g).face f).release = (s.face f).release := (decide_reported s g).release f

@[simp] theorem decide_lif_intake (s : State) (g : Face) :
    (s.decide g).lif.intake = s.lif.intake := (decide_reported s g).lif_intake

@[simp] theorem decide_lif_replies (s : State) (g : Face) :
    (s.decide g).lif.replies = s.lif.replies := (decide_reported s g).lif_replies

@[simp] theorem decide_lif_sending (s : State) (g : Face) :
    (s.decide g).lif.sending = s.lif.sending := (decide_reported s g).lif_sending

@[simp] theorem decide_lif_lastNotice (s : State) (g : Face) :
    (s.decide g).lif.lastNotice = s.lif.lastNotice := (decide_reported s g).lif_lastNotice

@[simp] theorem decide_lif_badCount (s : State) (g : Face) :
    (s.decide g).lif.badCount = s.lif.badCount := (decide_reported s g).lif_badCount

@[simp] theorem decide_lif_goodStreak (s : State) (g : Face) :
    (s.decide g).lif.goodStreak = s.lif.goodStreak := (decide_reported s g).lif_goodStreak

@[simp] theorem decide_lif_silence (s : State) (g : Face) :
    (s.decide g).lif.silence = s.lif.silence := (decide_reported s g).lif_silence

@[simp] theorem decide_lif_degraded (s : State) (g : Face) :
    (s.decide g).lif.degraded = s.lif.degraded := (decide_reported s g).lif_degraded

@[simp] theorem decide_lif_resetCause (s : State) (g : Face) :
    (s.decide g).lif.resetCause = s.lif.resetCause := (decide_reported s g).lif_resetCause

@[simp] theorem decide_lif_errorLimit (s : State) (g : Face) :
    (s.decide g).lif.errorLimit = s.lif.errorLimit := (decide_reported s g).lif_errorLimit

@[simp] theorem decide_lif_afterReset (s : State) (g : Face) :
    (s.decide g).lif.afterReset = s.lif.afterReset := (decide_reported s g).lif_afterReset

@[simp] theorem decide_lif_routes (s : State) (g : Face) :
    (s.decide g).lif.routes = s.lif.routes := (decide_reported s g).lif_routes

@[simp] theorem decide_lif_uplinkErrors (s : State) (g : Face) :
    (s.decide g).lif.uplinkErrors = s.lif.uplinkErrors := (decide_reported s g).lif_uplinkErrors

@[simp] theorem decide_lif_framesDiscarded (s : State) (g : Face) :
    (s.decide g).lif.framesDiscarded = s.lif.framesDiscarded := (decide_reported s g).lif_framesDiscarded

@[simp] theorem decide_lif_requestsDropped (s : State) (g : Face) :
    (s.decide g).lif.requestsDropped = s.lif.requestsDropped := (decide_reported s g).lif_requestsDropped

@[simp] theorem decide_lif_snapshot (s : State) (g : Face) :
    (s.decide g).lif.snapshot = s.lif.snapshot := (decide_reported s g).lif_snapshot

@[simp] theorem decide_lif_preparing (s : State) (g : Face) :
    (s.decide g).lif.preparing = s.lif.preparing := (decide_reported s g).lif_preparing

@[simp] theorem decide_lif_clearing (s : State) (g : Face) :
    (s.decide g).lif.clearing = s.lif.clearing := (decide_reported s g).lif_clearing

@[simp] theorem decide_proof_pending (s : State) (g : Face) (f : Face) :
    ((s.decide g).face f).proof.pending = (s.face f).proof.pending := (decide_reported s g).proof_pending f

@[simp] theorem decide_proof_periodicAt (s : State) (g : Face) (f : Face) :
    ((s.decide g).face f).proof.periodicAt = (s.face f).proof.periodicAt := (decide_reported s g).proof_periodicAt f

@[simp] theorem formSets_powered (s : State) (g : Face) :
    (s.formSets g).powered = s.powered := (formSets_reported s g).powered

@[simp] theorem formSets_resetPin (s : State) (g : Face) :
    (s.formSets g).resetPin = s.resetPin := (formSets_reported s g).resetPin

@[simp] theorem formSets_now (s : State) (g : Face) :
    (s.formSets g).now = s.now := (formSets_reported s g).now

@[simp] theorem formSets_freeCount (s : State) (g : Face) :
    (s.formSets g).freeCount = s.freeCount := (formSets_reported s g).freeCount

@[simp] theorem formSets_holds (s : State) (g : Face) :
    (s.formSets g).holds = s.holds := (formSets_reported s g).holds

@[simp] theorem formSets_aln (s : State) (g : Face) :
    (s.formSets g).aln = s.aln := (formSets_reported s g).aln

@[simp] theorem formSets_gap (s : State) (g : Face) :
    (s.formSets g).gap = s.gap := (formSets_reported s g).gap

@[simp] theorem formSets_tbs (s : State) (g : Face) :
    (s.formSets g).tbs = s.tbs := (formSets_reported s g).tbs

@[simp] theorem formSets_pending (s : State) (g : Face) :
    (s.formSets g).pending = s.pending := (formSets_reported s g).pending

@[simp] theorem formSets_berth (s : State) (g : Face) (f : Face) :
    ((s.formSets g).face f).berth = (s.face f).berth := (formSets_reported s g).berth f

@[simp] theorem formSets_doors (s : State) (g : Face) (f : Face) :
    ((s.formSets g).face f).doors = (s.face f).doors := (formSets_reported s g).doors f

@[simp] theorem formSets_deferral (s : State) (g : Face) (f : Face) :
    ((s.formSets g).face f).deferral = (s.face f).deferral := (formSets_reported s g).deferral f

@[simp] theorem formSets_reports (s : State) (g : Face) (f : Face) :
    ((s.formSets g).face f).reports = (s.face f).reports := (formSets_reported s g).reports f

@[simp] theorem formSets_line (s : State) (g : Face) (f : Face) :
    ((s.formSets g).face f).line = (s.face f).line := (formSets_reported s g).line f

@[simp] theorem formSets_release (s : State) (g : Face) (f : Face) :
    ((s.formSets g).face f).release = (s.face f).release := (formSets_reported s g).release f

@[simp] theorem formSets_lif_intake (s : State) (g : Face) :
    (s.formSets g).lif.intake = s.lif.intake := (formSets_reported s g).lif_intake

@[simp] theorem formSets_lif_replies (s : State) (g : Face) :
    (s.formSets g).lif.replies = s.lif.replies := (formSets_reported s g).lif_replies

@[simp] theorem formSets_lif_sending (s : State) (g : Face) :
    (s.formSets g).lif.sending = s.lif.sending := (formSets_reported s g).lif_sending

@[simp] theorem formSets_lif_lastNotice (s : State) (g : Face) :
    (s.formSets g).lif.lastNotice = s.lif.lastNotice := (formSets_reported s g).lif_lastNotice

@[simp] theorem formSets_lif_badCount (s : State) (g : Face) :
    (s.formSets g).lif.badCount = s.lif.badCount := (formSets_reported s g).lif_badCount

@[simp] theorem formSets_lif_goodStreak (s : State) (g : Face) :
    (s.formSets g).lif.goodStreak = s.lif.goodStreak := (formSets_reported s g).lif_goodStreak

@[simp] theorem formSets_lif_silence (s : State) (g : Face) :
    (s.formSets g).lif.silence = s.lif.silence := (formSets_reported s g).lif_silence

@[simp] theorem formSets_lif_degraded (s : State) (g : Face) :
    (s.formSets g).lif.degraded = s.lif.degraded := (formSets_reported s g).lif_degraded

@[simp] theorem formSets_lif_resetCause (s : State) (g : Face) :
    (s.formSets g).lif.resetCause = s.lif.resetCause := (formSets_reported s g).lif_resetCause

@[simp] theorem formSets_lif_errorLimit (s : State) (g : Face) :
    (s.formSets g).lif.errorLimit = s.lif.errorLimit := (formSets_reported s g).lif_errorLimit

@[simp] theorem formSets_lif_afterReset (s : State) (g : Face) :
    (s.formSets g).lif.afterReset = s.lif.afterReset := (formSets_reported s g).lif_afterReset

@[simp] theorem formSets_lif_routes (s : State) (g : Face) :
    (s.formSets g).lif.routes = s.lif.routes := (formSets_reported s g).lif_routes

@[simp] theorem formSets_lif_uplinkErrors (s : State) (g : Face) :
    (s.formSets g).lif.uplinkErrors = s.lif.uplinkErrors := (formSets_reported s g).lif_uplinkErrors

@[simp] theorem formSets_lif_framesDiscarded (s : State) (g : Face) :
    (s.formSets g).lif.framesDiscarded = s.lif.framesDiscarded := (formSets_reported s g).lif_framesDiscarded

@[simp] theorem formSets_lif_requestsDropped (s : State) (g : Face) :
    (s.formSets g).lif.requestsDropped = s.lif.requestsDropped := (formSets_reported s g).lif_requestsDropped

@[simp] theorem formSets_lif_snapshot (s : State) (g : Face) :
    (s.formSets g).lif.snapshot = s.lif.snapshot := (formSets_reported s g).lif_snapshot

@[simp] theorem formSets_lif_preparing (s : State) (g : Face) :
    (s.formSets g).lif.preparing = s.lif.preparing := (formSets_reported s g).lif_preparing

@[simp] theorem formSets_lif_clearing (s : State) (g : Face) :
    (s.formSets g).lif.clearing = s.lif.clearing := (formSets_reported s g).lif_clearing

@[simp] theorem formSets_proof_pending (s : State) (g : Face) (f : Face) :
    ((s.formSets g).face f).proof.pending = (s.face f).proof.pending := (formSets_reported s g).proof_pending f

@[simp] theorem formSets_proof_periodicAt (s : State) (g : Face) (f : Face) :
    ((s.formSets g).face f).proof.periodicAt = (s.face f).proof.periodicAt := (formSets_reported s g).proof_periodicAt f

@[simp] theorem setActive_powered (s : State) (g : Face) (c : ConditionSet) :
    (s.setActive g c).powered = s.powered := (setActive_reported s g c).powered

@[simp] theorem setActive_resetPin (s : State) (g : Face) (c : ConditionSet) :
    (s.setActive g c).resetPin = s.resetPin := (setActive_reported s g c).resetPin

@[simp] theorem setActive_now (s : State) (g : Face) (c : ConditionSet) :
    (s.setActive g c).now = s.now := (setActive_reported s g c).now

@[simp] theorem setActive_freeCount (s : State) (g : Face) (c : ConditionSet) :
    (s.setActive g c).freeCount = s.freeCount := (setActive_reported s g c).freeCount

@[simp] theorem setActive_holds (s : State) (g : Face) (c : ConditionSet) :
    (s.setActive g c).holds = s.holds := (setActive_reported s g c).holds

@[simp] theorem setActive_aln (s : State) (g : Face) (c : ConditionSet) :
    (s.setActive g c).aln = s.aln := (setActive_reported s g c).aln

@[simp] theorem setActive_gap (s : State) (g : Face) (c : ConditionSet) :
    (s.setActive g c).gap = s.gap := (setActive_reported s g c).gap

@[simp] theorem setActive_tbs (s : State) (g : Face) (c : ConditionSet) :
    (s.setActive g c).tbs = s.tbs := (setActive_reported s g c).tbs

@[simp] theorem setActive_pending (s : State) (g : Face) (c : ConditionSet) :
    (s.setActive g c).pending = s.pending := (setActive_reported s g c).pending

@[simp] theorem setActive_berth (s : State) (g : Face) (c : ConditionSet) (f : Face) :
    ((s.setActive g c).face f).berth = (s.face f).berth := (setActive_reported s g c).berth f

@[simp] theorem setActive_doors (s : State) (g : Face) (c : ConditionSet) (f : Face) :
    ((s.setActive g c).face f).doors = (s.face f).doors := (setActive_reported s g c).doors f

@[simp] theorem setActive_deferral (s : State) (g : Face) (c : ConditionSet) (f : Face) :
    ((s.setActive g c).face f).deferral = (s.face f).deferral := (setActive_reported s g c).deferral f

@[simp] theorem setActive_reports (s : State) (g : Face) (c : ConditionSet) (f : Face) :
    ((s.setActive g c).face f).reports = (s.face f).reports := (setActive_reported s g c).reports f

@[simp] theorem setActive_line (s : State) (g : Face) (c : ConditionSet) (f : Face) :
    ((s.setActive g c).face f).line = (s.face f).line := (setActive_reported s g c).line f

@[simp] theorem setActive_release (s : State) (g : Face) (c : ConditionSet) (f : Face) :
    ((s.setActive g c).face f).release = (s.face f).release := (setActive_reported s g c).release f

@[simp] theorem setActive_lif_intake (s : State) (g : Face) (c : ConditionSet) :
    (s.setActive g c).lif.intake = s.lif.intake := (setActive_reported s g c).lif_intake

@[simp] theorem setActive_lif_replies (s : State) (g : Face) (c : ConditionSet) :
    (s.setActive g c).lif.replies = s.lif.replies := (setActive_reported s g c).lif_replies

@[simp] theorem setActive_lif_sending (s : State) (g : Face) (c : ConditionSet) :
    (s.setActive g c).lif.sending = s.lif.sending := (setActive_reported s g c).lif_sending

@[simp] theorem setActive_lif_lastNotice (s : State) (g : Face) (c : ConditionSet) :
    (s.setActive g c).lif.lastNotice = s.lif.lastNotice := (setActive_reported s g c).lif_lastNotice

@[simp] theorem setActive_lif_badCount (s : State) (g : Face) (c : ConditionSet) :
    (s.setActive g c).lif.badCount = s.lif.badCount := (setActive_reported s g c).lif_badCount

@[simp] theorem setActive_lif_goodStreak (s : State) (g : Face) (c : ConditionSet) :
    (s.setActive g c).lif.goodStreak = s.lif.goodStreak := (setActive_reported s g c).lif_goodStreak

@[simp] theorem setActive_lif_silence (s : State) (g : Face) (c : ConditionSet) :
    (s.setActive g c).lif.silence = s.lif.silence := (setActive_reported s g c).lif_silence

@[simp] theorem setActive_lif_degraded (s : State) (g : Face) (c : ConditionSet) :
    (s.setActive g c).lif.degraded = s.lif.degraded := (setActive_reported s g c).lif_degraded

@[simp] theorem setActive_lif_resetCause (s : State) (g : Face) (c : ConditionSet) :
    (s.setActive g c).lif.resetCause = s.lif.resetCause := (setActive_reported s g c).lif_resetCause

@[simp] theorem setActive_lif_errorLimit (s : State) (g : Face) (c : ConditionSet) :
    (s.setActive g c).lif.errorLimit = s.lif.errorLimit := (setActive_reported s g c).lif_errorLimit

@[simp] theorem setActive_lif_afterReset (s : State) (g : Face) (c : ConditionSet) :
    (s.setActive g c).lif.afterReset = s.lif.afterReset := (setActive_reported s g c).lif_afterReset

@[simp] theorem setActive_lif_routes (s : State) (g : Face) (c : ConditionSet) :
    (s.setActive g c).lif.routes = s.lif.routes := (setActive_reported s g c).lif_routes

@[simp] theorem setActive_lif_uplinkErrors (s : State) (g : Face) (c : ConditionSet) :
    (s.setActive g c).lif.uplinkErrors = s.lif.uplinkErrors := (setActive_reported s g c).lif_uplinkErrors

@[simp] theorem setActive_lif_framesDiscarded (s : State) (g : Face) (c : ConditionSet) :
    (s.setActive g c).lif.framesDiscarded = s.lif.framesDiscarded := (setActive_reported s g c).lif_framesDiscarded

@[simp] theorem setActive_lif_requestsDropped (s : State) (g : Face) (c : ConditionSet) :
    (s.setActive g c).lif.requestsDropped = s.lif.requestsDropped := (setActive_reported s g c).lif_requestsDropped

@[simp] theorem setActive_lif_snapshot (s : State) (g : Face) (c : ConditionSet) :
    (s.setActive g c).lif.snapshot = s.lif.snapshot := (setActive_reported s g c).lif_snapshot

@[simp] theorem setActive_lif_preparing (s : State) (g : Face) (c : ConditionSet) :
    (s.setActive g c).lif.preparing = s.lif.preparing := (setActive_reported s g c).lif_preparing

@[simp] theorem setActive_lif_clearing (s : State) (g : Face) (c : ConditionSet) :
    (s.setActive g c).lif.clearing = s.lif.clearing := (setActive_reported s g c).lif_clearing

@[simp] theorem setActive_proof_pending (s : State) (g : Face) (c : ConditionSet) (f : Face) :
    ((s.setActive g c).face f).proof.pending = (s.face f).proof.pending := (setActive_reported s g c).proof_pending f

@[simp] theorem setActive_proof_periodicAt (s : State) (g : Face) (c : ConditionSet) (f : Face) :
    ((s.setActive g c).face f).proof.periodicAt = (s.face f).proof.periodicAt := (setActive_reported s g c).proof_periodicAt f

@[simp] theorem setCondition_powered (s : State) (g : Face) (c : Condition) (on : Bool) :
    (s.setCondition g c on).powered = s.powered := (setCondition_reported s g c on).powered

@[simp] theorem setCondition_resetPin (s : State) (g : Face) (c : Condition) (on : Bool) :
    (s.setCondition g c on).resetPin = s.resetPin := (setCondition_reported s g c on).resetPin

@[simp] theorem setCondition_now (s : State) (g : Face) (c : Condition) (on : Bool) :
    (s.setCondition g c on).now = s.now := (setCondition_reported s g c on).now

@[simp] theorem setCondition_freeCount (s : State) (g : Face) (c : Condition) (on : Bool) :
    (s.setCondition g c on).freeCount = s.freeCount := (setCondition_reported s g c on).freeCount

@[simp] theorem setCondition_holds (s : State) (g : Face) (c : Condition) (on : Bool) :
    (s.setCondition g c on).holds = s.holds := (setCondition_reported s g c on).holds

@[simp] theorem setCondition_aln (s : State) (g : Face) (c : Condition) (on : Bool) :
    (s.setCondition g c on).aln = s.aln := (setCondition_reported s g c on).aln

@[simp] theorem setCondition_gap (s : State) (g : Face) (c : Condition) (on : Bool) :
    (s.setCondition g c on).gap = s.gap := (setCondition_reported s g c on).gap

@[simp] theorem setCondition_tbs (s : State) (g : Face) (c : Condition) (on : Bool) :
    (s.setCondition g c on).tbs = s.tbs := (setCondition_reported s g c on).tbs

@[simp] theorem setCondition_pending (s : State) (g : Face) (c : Condition) (on : Bool) :
    (s.setCondition g c on).pending = s.pending := (setCondition_reported s g c on).pending

@[simp] theorem setCondition_berth (s : State) (g : Face) (c : Condition) (on : Bool) (f : Face) :
    ((s.setCondition g c on).face f).berth = (s.face f).berth := (setCondition_reported s g c on).berth f

@[simp] theorem setCondition_doors (s : State) (g : Face) (c : Condition) (on : Bool) (f : Face) :
    ((s.setCondition g c on).face f).doors = (s.face f).doors := (setCondition_reported s g c on).doors f

@[simp] theorem setCondition_deferral (s : State) (g : Face) (c : Condition) (on : Bool) (f : Face) :
    ((s.setCondition g c on).face f).deferral = (s.face f).deferral := (setCondition_reported s g c on).deferral f

@[simp] theorem setCondition_reports (s : State) (g : Face) (c : Condition) (on : Bool) (f : Face) :
    ((s.setCondition g c on).face f).reports = (s.face f).reports := (setCondition_reported s g c on).reports f

@[simp] theorem setCondition_line (s : State) (g : Face) (c : Condition) (on : Bool) (f : Face) :
    ((s.setCondition g c on).face f).line = (s.face f).line := (setCondition_reported s g c on).line f

@[simp] theorem setCondition_release (s : State) (g : Face) (c : Condition) (on : Bool) (f : Face) :
    ((s.setCondition g c on).face f).release = (s.face f).release := (setCondition_reported s g c on).release f

@[simp] theorem setCondition_lif_intake (s : State) (g : Face) (c : Condition) (on : Bool) :
    (s.setCondition g c on).lif.intake = s.lif.intake := (setCondition_reported s g c on).lif_intake

@[simp] theorem setCondition_lif_replies (s : State) (g : Face) (c : Condition) (on : Bool) :
    (s.setCondition g c on).lif.replies = s.lif.replies := (setCondition_reported s g c on).lif_replies

@[simp] theorem setCondition_lif_sending (s : State) (g : Face) (c : Condition) (on : Bool) :
    (s.setCondition g c on).lif.sending = s.lif.sending := (setCondition_reported s g c on).lif_sending

@[simp] theorem setCondition_lif_lastNotice (s : State) (g : Face) (c : Condition) (on : Bool) :
    (s.setCondition g c on).lif.lastNotice = s.lif.lastNotice := (setCondition_reported s g c on).lif_lastNotice

@[simp] theorem setCondition_lif_badCount (s : State) (g : Face) (c : Condition) (on : Bool) :
    (s.setCondition g c on).lif.badCount = s.lif.badCount := (setCondition_reported s g c on).lif_badCount

@[simp] theorem setCondition_lif_goodStreak (s : State) (g : Face) (c : Condition) (on : Bool) :
    (s.setCondition g c on).lif.goodStreak = s.lif.goodStreak := (setCondition_reported s g c on).lif_goodStreak

@[simp] theorem setCondition_lif_silence (s : State) (g : Face) (c : Condition) (on : Bool) :
    (s.setCondition g c on).lif.silence = s.lif.silence := (setCondition_reported s g c on).lif_silence

@[simp] theorem setCondition_lif_degraded (s : State) (g : Face) (c : Condition) (on : Bool) :
    (s.setCondition g c on).lif.degraded = s.lif.degraded := (setCondition_reported s g c on).lif_degraded

@[simp] theorem setCondition_lif_resetCause (s : State) (g : Face) (c : Condition) (on : Bool) :
    (s.setCondition g c on).lif.resetCause = s.lif.resetCause := (setCondition_reported s g c on).lif_resetCause

@[simp] theorem setCondition_lif_errorLimit (s : State) (g : Face) (c : Condition) (on : Bool) :
    (s.setCondition g c on).lif.errorLimit = s.lif.errorLimit := (setCondition_reported s g c on).lif_errorLimit

@[simp] theorem setCondition_lif_afterReset (s : State) (g : Face) (c : Condition) (on : Bool) :
    (s.setCondition g c on).lif.afterReset = s.lif.afterReset := (setCondition_reported s g c on).lif_afterReset

@[simp] theorem setCondition_lif_routes (s : State) (g : Face) (c : Condition) (on : Bool) :
    (s.setCondition g c on).lif.routes = s.lif.routes := (setCondition_reported s g c on).lif_routes

@[simp] theorem setCondition_lif_uplinkErrors (s : State) (g : Face) (c : Condition) (on : Bool) :
    (s.setCondition g c on).lif.uplinkErrors = s.lif.uplinkErrors := (setCondition_reported s g c on).lif_uplinkErrors

@[simp] theorem setCondition_lif_framesDiscarded (s : State) (g : Face) (c : Condition) (on : Bool) :
    (s.setCondition g c on).lif.framesDiscarded = s.lif.framesDiscarded := (setCondition_reported s g c on).lif_framesDiscarded

@[simp] theorem setCondition_lif_requestsDropped (s : State) (g : Face) (c : Condition) (on : Bool) :
    (s.setCondition g c on).lif.requestsDropped = s.lif.requestsDropped := (setCondition_reported s g c on).lif_requestsDropped

@[simp] theorem setCondition_lif_snapshot (s : State) (g : Face) (c : Condition) (on : Bool) :
    (s.setCondition g c on).lif.snapshot = s.lif.snapshot := (setCondition_reported s g c on).lif_snapshot

@[simp] theorem setCondition_lif_preparing (s : State) (g : Face) (c : Condition) (on : Bool) :
    (s.setCondition g c on).lif.preparing = s.lif.preparing := (setCondition_reported s g c on).lif_preparing

@[simp] theorem setCondition_lif_clearing (s : State) (g : Face) (c : Condition) (on : Bool) :
    (s.setCondition g c on).lif.clearing = s.lif.clearing := (setCondition_reported s g c on).lif_clearing

@[simp] theorem setCondition_proof_pending (s : State) (g : Face) (c : Condition) (on : Bool) (f : Face) :
    ((s.setCondition g c on).face f).proof.pending = (s.face f).proof.pending := (setCondition_reported s g c on).proof_pending f

@[simp] theorem setCondition_proof_periodicAt (s : State) (g : Face) (c : Condition) (on : Bool) (f : Face) :
    ((s.setCondition g c on).face f).proof.periodicAt = (s.face f).proof.periodicAt := (setCondition_reported s g c on).proof_periodicAt f

@[simp] theorem doorsHandOn_powered (s : State) (g : Face) :
    (s.doorsHandOn g).powered = s.powered := (doorsHandOn_reported s g).powered

@[simp] theorem doorsHandOn_resetPin (s : State) (g : Face) :
    (s.doorsHandOn g).resetPin = s.resetPin := (doorsHandOn_reported s g).resetPin

@[simp] theorem doorsHandOn_now (s : State) (g : Face) :
    (s.doorsHandOn g).now = s.now := (doorsHandOn_reported s g).now

@[simp] theorem doorsHandOn_freeCount (s : State) (g : Face) :
    (s.doorsHandOn g).freeCount = s.freeCount := (doorsHandOn_reported s g).freeCount

@[simp] theorem doorsHandOn_holds (s : State) (g : Face) :
    (s.doorsHandOn g).holds = s.holds := (doorsHandOn_reported s g).holds

@[simp] theorem doorsHandOn_aln (s : State) (g : Face) :
    (s.doorsHandOn g).aln = s.aln := (doorsHandOn_reported s g).aln

@[simp] theorem doorsHandOn_gap (s : State) (g : Face) :
    (s.doorsHandOn g).gap = s.gap := (doorsHandOn_reported s g).gap

@[simp] theorem doorsHandOn_tbs (s : State) (g : Face) :
    (s.doorsHandOn g).tbs = s.tbs := (doorsHandOn_reported s g).tbs

@[simp] theorem doorsHandOn_pending (s : State) (g : Face) :
    (s.doorsHandOn g).pending = s.pending := (doorsHandOn_reported s g).pending

@[simp] theorem doorsHandOn_berth (s : State) (g : Face) (f : Face) :
    ((s.doorsHandOn g).face f).berth = (s.face f).berth := (doorsHandOn_reported s g).berth f

@[simp] theorem doorsHandOn_doors (s : State) (g : Face) (f : Face) :
    ((s.doorsHandOn g).face f).doors = (s.face f).doors := (doorsHandOn_reported s g).doors f

@[simp] theorem doorsHandOn_deferral (s : State) (g : Face) (f : Face) :
    ((s.doorsHandOn g).face f).deferral = (s.face f).deferral := (doorsHandOn_reported s g).deferral f

@[simp] theorem doorsHandOn_reports (s : State) (g : Face) (f : Face) :
    ((s.doorsHandOn g).face f).reports = (s.face f).reports := (doorsHandOn_reported s g).reports f

@[simp] theorem doorsHandOn_line (s : State) (g : Face) (f : Face) :
    ((s.doorsHandOn g).face f).line = (s.face f).line := (doorsHandOn_reported s g).line f

@[simp] theorem doorsHandOn_release (s : State) (g : Face) (f : Face) :
    ((s.doorsHandOn g).face f).release = (s.face f).release := (doorsHandOn_reported s g).release f

@[simp] theorem doorsHandOn_lif_intake (s : State) (g : Face) :
    (s.doorsHandOn g).lif.intake = s.lif.intake := (doorsHandOn_reported s g).lif_intake

@[simp] theorem doorsHandOn_lif_replies (s : State) (g : Face) :
    (s.doorsHandOn g).lif.replies = s.lif.replies := (doorsHandOn_reported s g).lif_replies

@[simp] theorem doorsHandOn_lif_sending (s : State) (g : Face) :
    (s.doorsHandOn g).lif.sending = s.lif.sending := (doorsHandOn_reported s g).lif_sending

@[simp] theorem doorsHandOn_lif_lastNotice (s : State) (g : Face) :
    (s.doorsHandOn g).lif.lastNotice = s.lif.lastNotice := (doorsHandOn_reported s g).lif_lastNotice

@[simp] theorem doorsHandOn_lif_badCount (s : State) (g : Face) :
    (s.doorsHandOn g).lif.badCount = s.lif.badCount := (doorsHandOn_reported s g).lif_badCount

@[simp] theorem doorsHandOn_lif_goodStreak (s : State) (g : Face) :
    (s.doorsHandOn g).lif.goodStreak = s.lif.goodStreak := (doorsHandOn_reported s g).lif_goodStreak

@[simp] theorem doorsHandOn_lif_silence (s : State) (g : Face) :
    (s.doorsHandOn g).lif.silence = s.lif.silence := (doorsHandOn_reported s g).lif_silence

@[simp] theorem doorsHandOn_lif_degraded (s : State) (g : Face) :
    (s.doorsHandOn g).lif.degraded = s.lif.degraded := (doorsHandOn_reported s g).lif_degraded

@[simp] theorem doorsHandOn_lif_resetCause (s : State) (g : Face) :
    (s.doorsHandOn g).lif.resetCause = s.lif.resetCause := (doorsHandOn_reported s g).lif_resetCause

@[simp] theorem doorsHandOn_lif_errorLimit (s : State) (g : Face) :
    (s.doorsHandOn g).lif.errorLimit = s.lif.errorLimit := (doorsHandOn_reported s g).lif_errorLimit

@[simp] theorem doorsHandOn_lif_afterReset (s : State) (g : Face) :
    (s.doorsHandOn g).lif.afterReset = s.lif.afterReset := (doorsHandOn_reported s g).lif_afterReset

@[simp] theorem doorsHandOn_lif_routes (s : State) (g : Face) :
    (s.doorsHandOn g).lif.routes = s.lif.routes := (doorsHandOn_reported s g).lif_routes

@[simp] theorem doorsHandOn_lif_uplinkErrors (s : State) (g : Face) :
    (s.doorsHandOn g).lif.uplinkErrors = s.lif.uplinkErrors := (doorsHandOn_reported s g).lif_uplinkErrors

@[simp] theorem doorsHandOn_lif_framesDiscarded (s : State) (g : Face) :
    (s.doorsHandOn g).lif.framesDiscarded = s.lif.framesDiscarded := (doorsHandOn_reported s g).lif_framesDiscarded

@[simp] theorem doorsHandOn_lif_requestsDropped (s : State) (g : Face) :
    (s.doorsHandOn g).lif.requestsDropped = s.lif.requestsDropped := (doorsHandOn_reported s g).lif_requestsDropped

@[simp] theorem doorsHandOn_lif_snapshot (s : State) (g : Face) :
    (s.doorsHandOn g).lif.snapshot = s.lif.snapshot := (doorsHandOn_reported s g).lif_snapshot

@[simp] theorem doorsHandOn_lif_preparing (s : State) (g : Face) :
    (s.doorsHandOn g).lif.preparing = s.lif.preparing := (doorsHandOn_reported s g).lif_preparing

@[simp] theorem doorsHandOn_lif_clearing (s : State) (g : Face) :
    (s.doorsHandOn g).lif.clearing = s.lif.clearing := (doorsHandOn_reported s g).lif_clearing

@[simp] theorem doorsHandOn_proof_pending (s : State) (g : Face) (f : Face) :
    ((s.doorsHandOn g).face f).proof.pending = (s.face f).proof.pending := (doorsHandOn_reported s g).proof_pending f

@[simp] theorem doorsHandOn_proof_periodicAt (s : State) (g : Face) (f : Face) :
    ((s.doorsHandOn g).face f).proof.periodicAt = (s.face f).proof.periodicAt := (doorsHandOn_reported s g).proof_periodicAt f

@[simp] theorem activate_powered (s : State) (g : Face) (c : Condition) (k : EventKind) :
    (s.activate g c k).powered = s.powered := (activate_reported s g c k).powered

@[simp] theorem activate_resetPin (s : State) (g : Face) (c : Condition) (k : EventKind) :
    (s.activate g c k).resetPin = s.resetPin := (activate_reported s g c k).resetPin

@[simp] theorem activate_now (s : State) (g : Face) (c : Condition) (k : EventKind) :
    (s.activate g c k).now = s.now := (activate_reported s g c k).now

@[simp] theorem activate_freeCount (s : State) (g : Face) (c : Condition) (k : EventKind) :
    (s.activate g c k).freeCount = s.freeCount := (activate_reported s g c k).freeCount

@[simp] theorem activate_holds (s : State) (g : Face) (c : Condition) (k : EventKind) :
    (s.activate g c k).holds = s.holds := (activate_reported s g c k).holds

@[simp] theorem activate_aln (s : State) (g : Face) (c : Condition) (k : EventKind) :
    (s.activate g c k).aln = s.aln := (activate_reported s g c k).aln

@[simp] theorem activate_gap (s : State) (g : Face) (c : Condition) (k : EventKind) :
    (s.activate g c k).gap = s.gap := (activate_reported s g c k).gap

@[simp] theorem activate_tbs (s : State) (g : Face) (c : Condition) (k : EventKind) :
    (s.activate g c k).tbs = s.tbs := (activate_reported s g c k).tbs

@[simp] theorem activate_pending (s : State) (g : Face) (c : Condition) (k : EventKind) :
    (s.activate g c k).pending = s.pending := (activate_reported s g c k).pending

@[simp] theorem activate_berth (s : State) (g : Face) (c : Condition) (k : EventKind) (f : Face) :
    ((s.activate g c k).face f).berth = (s.face f).berth := (activate_reported s g c k).berth f

@[simp] theorem activate_doors (s : State) (g : Face) (c : Condition) (k : EventKind) (f : Face) :
    ((s.activate g c k).face f).doors = (s.face f).doors := (activate_reported s g c k).doors f

@[simp] theorem activate_deferral (s : State) (g : Face) (c : Condition) (k : EventKind) (f : Face) :
    ((s.activate g c k).face f).deferral = (s.face f).deferral := (activate_reported s g c k).deferral f

@[simp] theorem activate_reports (s : State) (g : Face) (c : Condition) (k : EventKind) (f : Face) :
    ((s.activate g c k).face f).reports = (s.face f).reports := (activate_reported s g c k).reports f

@[simp] theorem activate_line (s : State) (g : Face) (c : Condition) (k : EventKind) (f : Face) :
    ((s.activate g c k).face f).line = (s.face f).line := (activate_reported s g c k).line f

@[simp] theorem activate_release (s : State) (g : Face) (c : Condition) (k : EventKind) (f : Face) :
    ((s.activate g c k).face f).release = (s.face f).release := (activate_reported s g c k).release f

@[simp] theorem activate_lif_intake (s : State) (g : Face) (c : Condition) (k : EventKind) :
    (s.activate g c k).lif.intake = s.lif.intake := (activate_reported s g c k).lif_intake

@[simp] theorem activate_lif_replies (s : State) (g : Face) (c : Condition) (k : EventKind) :
    (s.activate g c k).lif.replies = s.lif.replies := (activate_reported s g c k).lif_replies

@[simp] theorem activate_lif_sending (s : State) (g : Face) (c : Condition) (k : EventKind) :
    (s.activate g c k).lif.sending = s.lif.sending := (activate_reported s g c k).lif_sending

@[simp] theorem activate_lif_lastNotice (s : State) (g : Face) (c : Condition) (k : EventKind) :
    (s.activate g c k).lif.lastNotice = s.lif.lastNotice := (activate_reported s g c k).lif_lastNotice

@[simp] theorem activate_lif_badCount (s : State) (g : Face) (c : Condition) (k : EventKind) :
    (s.activate g c k).lif.badCount = s.lif.badCount := (activate_reported s g c k).lif_badCount

@[simp] theorem activate_lif_goodStreak (s : State) (g : Face) (c : Condition) (k : EventKind) :
    (s.activate g c k).lif.goodStreak = s.lif.goodStreak := (activate_reported s g c k).lif_goodStreak

@[simp] theorem activate_lif_silence (s : State) (g : Face) (c : Condition) (k : EventKind) :
    (s.activate g c k).lif.silence = s.lif.silence := (activate_reported s g c k).lif_silence

@[simp] theorem activate_lif_degraded (s : State) (g : Face) (c : Condition) (k : EventKind) :
    (s.activate g c k).lif.degraded = s.lif.degraded := (activate_reported s g c k).lif_degraded

@[simp] theorem activate_lif_resetCause (s : State) (g : Face) (c : Condition) (k : EventKind) :
    (s.activate g c k).lif.resetCause = s.lif.resetCause := (activate_reported s g c k).lif_resetCause

@[simp] theorem activate_lif_errorLimit (s : State) (g : Face) (c : Condition) (k : EventKind) :
    (s.activate g c k).lif.errorLimit = s.lif.errorLimit := (activate_reported s g c k).lif_errorLimit

@[simp] theorem activate_lif_afterReset (s : State) (g : Face) (c : Condition) (k : EventKind) :
    (s.activate g c k).lif.afterReset = s.lif.afterReset := (activate_reported s g c k).lif_afterReset

@[simp] theorem activate_lif_routes (s : State) (g : Face) (c : Condition) (k : EventKind) :
    (s.activate g c k).lif.routes = s.lif.routes := (activate_reported s g c k).lif_routes

@[simp] theorem activate_lif_uplinkErrors (s : State) (g : Face) (c : Condition) (k : EventKind) :
    (s.activate g c k).lif.uplinkErrors = s.lif.uplinkErrors := (activate_reported s g c k).lif_uplinkErrors

@[simp] theorem activate_lif_framesDiscarded (s : State) (g : Face) (c : Condition) (k : EventKind) :
    (s.activate g c k).lif.framesDiscarded = s.lif.framesDiscarded := (activate_reported s g c k).lif_framesDiscarded

@[simp] theorem activate_lif_requestsDropped (s : State) (g : Face) (c : Condition) (k : EventKind) :
    (s.activate g c k).lif.requestsDropped = s.lif.requestsDropped := (activate_reported s g c k).lif_requestsDropped

@[simp] theorem activate_lif_snapshot (s : State) (g : Face) (c : Condition) (k : EventKind) :
    (s.activate g c k).lif.snapshot = s.lif.snapshot := (activate_reported s g c k).lif_snapshot

@[simp] theorem activate_lif_preparing (s : State) (g : Face) (c : Condition) (k : EventKind) :
    (s.activate g c k).lif.preparing = s.lif.preparing := (activate_reported s g c k).lif_preparing

@[simp] theorem activate_lif_clearing (s : State) (g : Face) (c : Condition) (k : EventKind) :
    (s.activate g c k).lif.clearing = s.lif.clearing := (activate_reported s g c k).lif_clearing

@[simp] theorem activate_proof_pending (s : State) (g : Face) (c : Condition) (k : EventKind) (f : Face) :
    ((s.activate g c k).face f).proof.pending = (s.face f).proof.pending := (activate_reported s g c k).proof_pending f

@[simp] theorem activate_proof_periodicAt (s : State) (g : Face) (c : Condition) (k : EventKind) (f : Face) :
    ((s.activate g c k).face f).proof.periodicAt = (s.face f).proof.periodicAt := (activate_reported s g c k).proof_periodicAt f

@[simp] theorem raiseAll_powered (s : State) (g : Face) (l : List EventKind) :
    (s.raiseAll g l).powered = s.powered := (raiseAll_reported s g l).powered

@[simp] theorem raiseAll_resetPin (s : State) (g : Face) (l : List EventKind) :
    (s.raiseAll g l).resetPin = s.resetPin := (raiseAll_reported s g l).resetPin

@[simp] theorem raiseAll_now (s : State) (g : Face) (l : List EventKind) :
    (s.raiseAll g l).now = s.now := (raiseAll_reported s g l).now

@[simp] theorem raiseAll_freeCount (s : State) (g : Face) (l : List EventKind) :
    (s.raiseAll g l).freeCount = s.freeCount := (raiseAll_reported s g l).freeCount

@[simp] theorem raiseAll_holds (s : State) (g : Face) (l : List EventKind) :
    (s.raiseAll g l).holds = s.holds := (raiseAll_reported s g l).holds

@[simp] theorem raiseAll_aln (s : State) (g : Face) (l : List EventKind) :
    (s.raiseAll g l).aln = s.aln := (raiseAll_reported s g l).aln

@[simp] theorem raiseAll_gap (s : State) (g : Face) (l : List EventKind) :
    (s.raiseAll g l).gap = s.gap := (raiseAll_reported s g l).gap

@[simp] theorem raiseAll_tbs (s : State) (g : Face) (l : List EventKind) :
    (s.raiseAll g l).tbs = s.tbs := (raiseAll_reported s g l).tbs

@[simp] theorem raiseAll_pending (s : State) (g : Face) (l : List EventKind) :
    (s.raiseAll g l).pending = s.pending := (raiseAll_reported s g l).pending

@[simp] theorem raiseAll_berth (s : State) (g : Face) (l : List EventKind) (f : Face) :
    ((s.raiseAll g l).face f).berth = (s.face f).berth := (raiseAll_reported s g l).berth f

@[simp] theorem raiseAll_doors (s : State) (g : Face) (l : List EventKind) (f : Face) :
    ((s.raiseAll g l).face f).doors = (s.face f).doors := (raiseAll_reported s g l).doors f

@[simp] theorem raiseAll_deferral (s : State) (g : Face) (l : List EventKind) (f : Face) :
    ((s.raiseAll g l).face f).deferral = (s.face f).deferral := (raiseAll_reported s g l).deferral f

@[simp] theorem raiseAll_reports (s : State) (g : Face) (l : List EventKind) (f : Face) :
    ((s.raiseAll g l).face f).reports = (s.face f).reports := (raiseAll_reported s g l).reports f

@[simp] theorem raiseAll_line (s : State) (g : Face) (l : List EventKind) (f : Face) :
    ((s.raiseAll g l).face f).line = (s.face f).line := (raiseAll_reported s g l).line f

@[simp] theorem raiseAll_release (s : State) (g : Face) (l : List EventKind) (f : Face) :
    ((s.raiseAll g l).face f).release = (s.face f).release := (raiseAll_reported s g l).release f

@[simp] theorem raiseAll_lif_intake (s : State) (g : Face) (l : List EventKind) :
    (s.raiseAll g l).lif.intake = s.lif.intake := (raiseAll_reported s g l).lif_intake

@[simp] theorem raiseAll_lif_replies (s : State) (g : Face) (l : List EventKind) :
    (s.raiseAll g l).lif.replies = s.lif.replies := (raiseAll_reported s g l).lif_replies

@[simp] theorem raiseAll_lif_sending (s : State) (g : Face) (l : List EventKind) :
    (s.raiseAll g l).lif.sending = s.lif.sending := (raiseAll_reported s g l).lif_sending

@[simp] theorem raiseAll_lif_lastNotice (s : State) (g : Face) (l : List EventKind) :
    (s.raiseAll g l).lif.lastNotice = s.lif.lastNotice := (raiseAll_reported s g l).lif_lastNotice

@[simp] theorem raiseAll_lif_badCount (s : State) (g : Face) (l : List EventKind) :
    (s.raiseAll g l).lif.badCount = s.lif.badCount := (raiseAll_reported s g l).lif_badCount

@[simp] theorem raiseAll_lif_goodStreak (s : State) (g : Face) (l : List EventKind) :
    (s.raiseAll g l).lif.goodStreak = s.lif.goodStreak := (raiseAll_reported s g l).lif_goodStreak

@[simp] theorem raiseAll_lif_silence (s : State) (g : Face) (l : List EventKind) :
    (s.raiseAll g l).lif.silence = s.lif.silence := (raiseAll_reported s g l).lif_silence

@[simp] theorem raiseAll_lif_degraded (s : State) (g : Face) (l : List EventKind) :
    (s.raiseAll g l).lif.degraded = s.lif.degraded := (raiseAll_reported s g l).lif_degraded

@[simp] theorem raiseAll_lif_resetCause (s : State) (g : Face) (l : List EventKind) :
    (s.raiseAll g l).lif.resetCause = s.lif.resetCause := (raiseAll_reported s g l).lif_resetCause

@[simp] theorem raiseAll_lif_errorLimit (s : State) (g : Face) (l : List EventKind) :
    (s.raiseAll g l).lif.errorLimit = s.lif.errorLimit := (raiseAll_reported s g l).lif_errorLimit

@[simp] theorem raiseAll_lif_afterReset (s : State) (g : Face) (l : List EventKind) :
    (s.raiseAll g l).lif.afterReset = s.lif.afterReset := (raiseAll_reported s g l).lif_afterReset

@[simp] theorem raiseAll_lif_routes (s : State) (g : Face) (l : List EventKind) :
    (s.raiseAll g l).lif.routes = s.lif.routes := (raiseAll_reported s g l).lif_routes

@[simp] theorem raiseAll_lif_uplinkErrors (s : State) (g : Face) (l : List EventKind) :
    (s.raiseAll g l).lif.uplinkErrors = s.lif.uplinkErrors := (raiseAll_reported s g l).lif_uplinkErrors

@[simp] theorem raiseAll_lif_framesDiscarded (s : State) (g : Face) (l : List EventKind) :
    (s.raiseAll g l).lif.framesDiscarded = s.lif.framesDiscarded := (raiseAll_reported s g l).lif_framesDiscarded

@[simp] theorem raiseAll_lif_requestsDropped (s : State) (g : Face) (l : List EventKind) :
    (s.raiseAll g l).lif.requestsDropped = s.lif.requestsDropped := (raiseAll_reported s g l).lif_requestsDropped

@[simp] theorem raiseAll_lif_snapshot (s : State) (g : Face) (l : List EventKind) :
    (s.raiseAll g l).lif.snapshot = s.lif.snapshot := (raiseAll_reported s g l).lif_snapshot

@[simp] theorem raiseAll_lif_preparing (s : State) (g : Face) (l : List EventKind) :
    (s.raiseAll g l).lif.preparing = s.lif.preparing := (raiseAll_reported s g l).lif_preparing

@[simp] theorem raiseAll_lif_clearing (s : State) (g : Face) (l : List EventKind) :
    (s.raiseAll g l).lif.clearing = s.lif.clearing := (raiseAll_reported s g l).lif_clearing

@[simp] theorem raiseAll_proof_pending (s : State) (g : Face) (l : List EventKind) (f : Face) :
    ((s.raiseAll g l).face f).proof.pending = (s.face f).proof.pending := (raiseAll_reported s g l).proof_pending f

@[simp] theorem raiseAll_proof_periodicAt (s : State) (g : Face) (l : List EventKind) (f : Face) :
    ((s.raiseAll g l).face f).proof.periodicAt = (s.face f).proof.periodicAt := (raiseAll_reported s g l).proof_periodicAt f

end State

end Sys2Proof.Machine
end

