-- ==== Sys2Proof/Laws/Sequencing.lean ====
section
/-! SUPPORT. What the Door Sequencer's operations leave alone: everything but door records, release records, flags, notice records,
changed-proof telegrams and the Proof Units' own records. -/

namespace Sys2Proof.Machine

/-- `u` differs from `s` at most in door records, release records and in what `Reported` leaves open. -/
structure Sequenced (s u : State) : Prop where
  powered : u.powered = s.powered
  resetPin : u.resetPin = s.resetPin
  now : u.now = s.now
  freeCount : u.freeCount = s.freeCount
  holds : u.holds = s.holds
  aln : u.aln = s.aln
  gap : u.gap = s.gap
  tbs : u.tbs = s.tbs
  pending : u.pending = s.pending
  berth : ∀ f, (u.face f).berth = (s.face f).berth
  deferral : ∀ f, (u.face f).deferral = (s.face f).deferral
  reports : ∀ f, (u.face f).reports = (s.face f).reports
  line : ∀ f, (u.face f).line = (s.face f).line
  lif_intake : u.lif.intake = s.lif.intake
  lif_replies : u.lif.replies = s.lif.replies
  lif_sending : u.lif.sending = s.lif.sending
  lif_lastNotice : u.lif.lastNotice = s.lif.lastNotice
  lif_badCount : u.lif.badCount = s.lif.badCount
  lif_goodStreak : u.lif.goodStreak = s.lif.goodStreak
  lif_silence : u.lif.silence = s.lif.silence
  lif_degraded : u.lif.degraded = s.lif.degraded
  lif_resetCause : u.lif.resetCause = s.lif.resetCause
  lif_errorLimit : u.lif.errorLimit = s.lif.errorLimit
  lif_afterReset : u.lif.afterReset = s.lif.afterReset
  lif_routes : u.lif.routes = s.lif.routes
  lif_uplinkErrors : u.lif.uplinkErrors = s.lif.uplinkErrors
  lif_framesDiscarded : u.lif.framesDiscarded = s.lif.framesDiscarded
  lif_requestsDropped : u.lif.requestsDropped = s.lif.requestsDropped
  lif_snapshot : u.lif.snapshot = s.lif.snapshot
  lif_preparing : u.lif.preparing = s.lif.preparing
  lif_clearing : u.lif.clearing = s.lif.clearing
  proof_pending : ∀ f, (u.face f).proof.pending = (s.face f).proof.pending
  proof_periodicAt : ∀ f, (u.face f).proof.periodicAt = (s.face f).proof.periodicAt

theorem Sequenced.refl (s : State) : Sequenced s s := by
  constructor <;> intros <;> rfl

theorem Sequenced.trans {s u v : State} (h : Sequenced s u) (k : Sequenced u v) : Sequenced s v where
  powered := k.powered.trans h.powered
  resetPin := k.resetPin.trans h.resetPin
  now := k.now.trans h.now
  freeCount := k.freeCount.trans h.freeCount
  holds := k.holds.trans h.holds
  aln := k.aln.trans h.aln
  gap := k.gap.trans h.gap
  tbs := k.tbs.trans h.tbs
  pending := k.pending.trans h.pending
  berth := fun f => (k.berth f).trans (h.berth f)
  deferral := fun f => (k.deferral f).trans (h.deferral f)
  reports := fun f => (k.reports f).trans (h.reports f)
  line := fun f => (k.line f).trans (h.line f)
  lif_intake := k.lif_intake.trans h.lif_intake
  lif_replies := k.lif_replies.trans h.lif_replies
  lif_sending := k.lif_sending.trans h.lif_sending
  lif_lastNotice := k.lif_lastNotice.trans h.lif_lastNotice
  lif_badCount := k.lif_badCount.trans h.lif_badCount
  lif_goodStreak := k.lif_goodStreak.trans h.lif_goodStreak
  lif_silence := k.lif_silence.trans h.lif_silence
  lif_degraded := k.lif_degraded.trans h.lif_degraded
  lif_resetCause := k.lif_resetCause.trans h.lif_resetCause
  lif_errorLimit := k.lif_errorLimit.trans h.lif_errorLimit
  lif_afterReset := k.lif_afterReset.trans h.lif_afterReset
  lif_routes := k.lif_routes.trans h.lif_routes
  lif_uplinkErrors := k.lif_uplinkErrors.trans h.lif_uplinkErrors
  lif_framesDiscarded := k.lif_framesDiscarded.trans h.lif_framesDiscarded
  lif_requestsDropped := k.lif_requestsDropped.trans h.lif_requestsDropped
  lif_snapshot := k.lif_snapshot.trans h.lif_snapshot
  lif_preparing := k.lif_preparing.trans h.lif_preparing
  lif_clearing := k.lif_clearing.trans h.lif_clearing
  proof_pending := fun f => (k.proof_pending f).trans (h.proof_pending f)
  proof_periodicAt := fun f => (k.proof_periodicAt f).trans (h.proof_periodicAt f)

theorem Reported.sequenced {s u : State} (h : Reported s u) : Sequenced s u where
  powered := h.powered
  resetPin := h.resetPin
  now := h.now
  freeCount := h.freeCount
  holds := h.holds
  aln := h.aln
  gap := h.gap
  tbs := h.tbs
  pending := h.pending
  berth := h.berth
  deferral := h.deferral
  reports := h.reports
  line := h.line
  lif_intake := h.lif_intake
  lif_replies := h.lif_replies
  lif_sending := h.lif_sending
  lif_lastNotice := h.lif_lastNotice
  lif_badCount := h.lif_badCount
  lif_goodStreak := h.lif_goodStreak
  lif_silence := h.lif_silence
  lif_degraded := h.lif_degraded
  lif_resetCause := h.lif_resetCause
  lif_errorLimit := h.lif_errorLimit
  lif_afterReset := h.lif_afterReset
  lif_routes := h.lif_routes
  lif_uplinkErrors := h.lif_uplinkErrors
  lif_framesDiscarded := h.lif_framesDiscarded
  lif_requestsDropped := h.lif_requestsDropped
  lif_snapshot := h.lif_snapshot
  lif_preparing := h.lif_preparing
  lif_clearing := h.lif_clearing
  proof_pending := h.proof_pending
  proof_periodicAt := h.proof_periodicAt

theorem Sequenced.ms {s u : State} (h : Sequenced s u) : u.ms = s.ms := by simp only [State.ms, h.now]

theorem Sequenced.running {s u : State} (h : Sequenced s u) : u.running = s.running := by
  simp only [State.running, h.powered, h.resetPin]

theorem Sequenced.tables? {s u : State} (h : Sequenced s u) (f : Face) : u.tables? f = s.tables? f := by
  simp only [State.tables?, h.tbs]

theorem Sequenced.params? {s u : State} (h : Sequenced s u) (f : Face) : u.params? f = s.params? f := by
  simp only [State.params?, h.tables?]

theorem Sequenced.configured {s u : State} (h : Sequenced s u) (f : Face) : u.configured f = s.configured f := by
  simp only [State.configured, h.params?]

theorem Sequenced.bump {s u : State} (h : Sequenced s u) (c : Counter) : u.bump c = s.bump c := by
  simp only [State.bump, h.lif_clearing]

theorem Sequenced.foldl {α : Type} (l : List α) (g : State → α → State) (hg : ∀ s x, Sequenced s (g s x)) (s : State) :
    Sequenced s (l.foldl g s) := by
  induction l generalizing s with
  | nil => exact .refl s
  | cons x rest ih => exact (hg s x).trans (ih _)

namespace State

theorem modDoors_sequenced (s : State) (f : Face) (g : List Door → List Door) : Sequenced s (s.modDoors f g) := by
  constructor <;> intros <;> simp

theorem modRelease_sequenced (s : State) (f : Face) (g : Release → Release) : Sequenced s (s.modRelease f g) := by
  constructor <;> intros <;> simp

theorem putDoor_sequenced (s : State) (f : Face) (n : Nat) (d : Door) : Sequenced s (s.putDoor f n d) :=
  modDoors_sequenced s f _

theorem setRelease_sequenced (s : State) (f : Face) (st : ReleaseState) : Sequenced s (s.setRelease f st) :=
  (modRelease_sequenced s f _).trans (decide_reported _ f).sequenced

theorem takeLatch_sequenced (s : State) (f : Face) (n : Nat) : Sequenced s (s.takeLatch f n) := by
  unfold takeLatch
  refine Sequenced.trans ?_ (raiseFace_reported _ f _).sequenced
  split
  · exact (modRelease_sequenced s f _).trans (setRelease_sequenced _ f _)
  · exact modRelease_sequenced s f _

theorem takeReport_sequenced (s : State) (f : Face) (n : Nat) (r : DoorReport) : Sequenced s (s.takeReport f n r) := by
  cases r with
  | latchSet => exact takeLatch_sequenced s f n
  | evacSet => exact modRelease_sequenced s f fun r => { r with set := setMark n false true r.set }
  | latchCleared => exact modRelease_sequenced s f fun r => { r with set := clearMark n true false r.set }
  | evacCleared => exact modRelease_sequenced s f fun r => { r with set := clearMark n false true r.set }

theorem takeReports_sequenced (s : State) (f : Face) (n : Nat) (l : List DoorReport) : Sequenced s (s.takeReports f n l) :=
  Sequenced.foldl l _ (fun s r => takeReport_sequenced s f n r) s

theorem applyDoor_sequenced (s : State) (f : Face) (n : Nat) (g : DoorContext → Door → DoorOutcome) :
    Sequenced s (s.applyDoor f n g) := by
  unfold applyDoor
  split
  · exact .refl s
  · exact ((((putDoor_sequenced s f n _).trans (takeReports_sequenced _ f n _)).trans (doorsHandOn_reported _ f).sequenced).trans
      (raiseAll_reported _ f _).sequenced).trans (takeReports_sequenced _ f n _)

theorem applyDoors_sequenced (s : State) (f : Face) (p : Door → Bool) (g : DoorContext → Door → DoorOutcome) :
    Sequenced s (s.applyDoors f p g) := Sequenced.foldl _ _ (fun s n => applyDoor_sequenced s f n g) s

theorem closeFaceNow_sequenced (s : State) (f : Face) : Sequenced s (s.closeFaceNow f) := applyDoors_sequenced s f _ _

theorem movementClose_sequenced (s : State) (f : Face) : Sequenced s (s.movementClose f) := applyDoors_sequenced s f _ _

theorem departureClose_sequenced (s : State) (f : Face) : Sequenced s (s.departureClose f) := applyDoors_sequenced s f _ _

theorem restoreClose_sequenced (s : State) (f : Face) : Sequenced s (s.restoreClose f) := applyDoors_sequenced s f _ _

theorem openDoors_sequenced (s : State) (f : Face) : Sequenced s (s.openDoors f) := applyDoors_sequenced s f _ _

theorem dropOpens_sequenced (s : State) (f : Face) : Sequenced s (s.dropOpens f) := modDoors_sequenced s f _

theorem followEnable_sequenced (s : State) (f : Face) : Sequenced s (s.followEnable f) := modDoors_sequenced s f _

theorem modDropLink_sequenced (s : State) (f : Face) (drop : Nat) (g : UnitLink → UnitLink) :
    Sequenced s (s.modDropLink f drop g) := modDoors_sequenced s f _

@[simp] theorem putDoor_powered (s : State) (g : Face) (n : Nat) (d : Door) :
    (s.putDoor g n d).powered = s.powered := (putDoor_sequenced s g n d).powered

@[simp] theorem putDoor_resetPin (s : State) (g : Face) (n : Nat) (d : Door) :
    (s.putDoor g n d).resetPin = s.resetPin := (putDoor_sequenced s g n d).resetPin

@[simp] theorem putDoor_now (s : State) (g : Face) (n : Nat) (d : Door) :
    (s.putDoor g n d).now = s.now := (putDoor_sequenced s g n d).now

@[simp] theorem putDoor_freeCount (s : State) (g : Face) (n : Nat) (d : Door) :
    (s.putDoor g n d).freeCount = s.freeCount := (putDoor_sequenced s g n d).freeCount

@[simp] theorem putDoor_holds (s : State) (g : Face) (n : Nat) (d : Door) :
    (s.putDoor g n d).holds = s.holds := (putDoor_sequenced s g n d).holds

@[simp] theorem putDoor_aln (s : State) (g : Face) (n : Nat) (d : Door) :
    (s.putDoor g n d).aln = s.aln := (putDoor_sequenced s g n d).aln

@[simp] theorem putDoor_gap (s : State) (g : Face) (n : Nat) (d : Door) :
    (s.putDoor g n d).gap = s.gap := (putDoor_sequenced s g n d).gap

@[simp] theorem putDoor_tbs (s : State) (g : Face) (n : Nat) (d : Door) :
    (s.putDoor g n d).tbs = s.tbs := (putDoor_sequenced s g n d).tbs

@[simp] theorem putDoor_pending (s : State) (g : Face) (n : Nat) (d : Door) :
    (s.putDoor g n d).pending = s.pending := (putDoor_sequenced s g n d).pending

@[simp] theorem putDoor_berth (s : State) (g : Face) (n : Nat) (d : Door) (f : Face) :
    ((s.putDoor g n d).face f).berth = (s.face f).berth := (putDoor_sequenced s g n d).berth f

@[simp] theorem putDoor_deferral (s : State) (g : Face) (n : Nat) (d : Door) (f : Face) :
    ((s.putDoor g n d).face f).deferral = (s.face f).deferral := (putDoor_sequenced s g n d).deferral f

@[simp] theorem putDoor_reports (s : State) (g : Face) (n : Nat) (d : Door) (f : Face) :
    ((s.putDoor g n d).face f).reports = (s.face f).reports := (putDoor_sequenced s g n d).reports f

@[simp] theorem putDoor_line (s : State) (g : Face) (n : Nat) (d : Door) (f : Face) :
    ((s.putDoor g n d).face f).line = (s.face f).line := (putDoor_sequenced s g n d).line f

@[simp] theorem putDoor_lif_intake (s : State) (g : Face) (n : Nat) (d : Door) :
    (s.putDoor g n d).lif.intake = s.lif.intake := (putDoor_sequenced s g n d).lif_intake

@[simp] theorem putDoor_lif_replies (s : State) (g : Face) (n : Nat) (d : Door) :
    (s.putDoor g n d).lif.replies = s.lif.replies := (putDoor_sequenced s g n d).lif_replies

@[simp] theorem putDoor_lif_sending (s : State) (g : Face) (n : Nat) (d : Door) :
    (s.putDoor g n d).lif.sending = s.lif.sending := (putDoor_sequenced s g n d).lif_sending

@[simp] theorem putDoor_lif_lastNotice (s : State) (g : Face) (n : Nat) (d : Door) :
    (s.putDoor g n d).lif.lastNotice = s.lif.lastNotice := (putDoor_sequenced s g n d).lif_lastNotice

@[simp] theorem putDoor_lif_badCount (s : State) (g : Face) (n : Nat) (d : Door) :
    (s.putDoor g n d).lif.badCount = s.lif.badCount := (putDoor_sequenced s g n d).lif_badCount

@[simp] theorem putDoor_lif_goodStreak (s : State) (g : Face) (n : Nat) (d : Door) :
    (s.putDoor g n d).lif.goodStreak = s.lif.goodStreak := (putDoor_sequenced s g n d).lif_goodStreak

@[simp] theorem putDoor_lif_silence (s : State) (g : Face) (n : Nat) (d : Door) :
    (s.putDoor g n d).lif.silence = s.lif.silence := (putDoor_sequenced s g n d).lif_silence

@[simp] theorem putDoor_lif_degraded (s : State) (g : Face) (n : Nat) (d : Door) :
    (s.putDoor g n d).lif.degraded = s.lif.degraded := (putDoor_sequenced s g n d).lif_degraded

@[simp] theorem putDoor_lif_resetCause (s : State) (g : Face) (n : Nat) (d : Door) :
    (s.putDoor g n d).lif.resetCause = s.lif.resetCause := (putDoor_sequenced s g n d).lif_resetCause

@[simp] theorem putDoor_lif_errorLimit (s : State) (g : Face) (n : Nat) (d : Door) :
    (s.putDoor g n d).lif.errorLimit = s.lif.errorLimit := (putDoor_sequenced s g n d).lif_errorLimit

@[simp] theorem putDoor_lif_afterReset (s : State) (g : Face) (n : Nat) (d : Door) :
    (s.putDoor g n d).lif.afterReset = s.lif.afterReset := (putDoor_sequenced s g n d).lif_afterReset

@[simp] theorem putDoor_lif_routes (s : State) (g : Face) (n : Nat) (d : Door) :
    (s.putDoor g n d).lif.routes = s.lif.routes := (putDoor_sequenced s g n d).lif_routes

@[simp] theorem putDoor_lif_uplinkErrors (s : State) (g : Face) (n : Nat) (d : Door) :
    (s.putDoor g n d).lif.uplinkErrors = s.lif.uplinkErrors := (putDoor_sequenced s g n d).lif_uplinkErrors

@[simp] theorem putDoor_lif_framesDiscarded (s : State) (g : Face) (n : Nat) (d : Door) :
    (s.putDoor g n d).lif.framesDiscarded = s.lif.framesDiscarded := (putDoor_sequenced s g n d).lif_framesDiscarded

@[simp] theorem putDoor_lif_requestsDropped (s : State) (g : Face) (n : Nat) (d : Door) :
    (s.putDoor g n d).lif.requestsDropped = s.lif.requestsDropped := (putDoor_sequenced s g n d).lif_requestsDropped

@[simp] theorem putDoor_lif_snapshot (s : State) (g : Face) (n : Nat) (d : Door) :
    (s.putDoor g n d).lif.snapshot = s.lif.snapshot := (putDoor_sequenced s g n d).lif_snapshot

@[simp] theorem putDoor_lif_preparing (s : State) (g : Face) (n : Nat) (d : Door) :
    (s.putDoor g n d).lif.preparing = s.lif.preparing := (putDoor_sequenced s g n d).lif_preparing

@[simp] theorem putDoor_lif_clearing (s : State) (g : Face) (n : Nat) (d : Door) :
    (s.putDoor g n d).lif.clearing = s.lif.clearing := (putDoor_sequenced s g n d).lif_clearing

@[simp] theorem putDoor_proof_pending (s : State) (g : Face) (n : Nat) (d : Door) (f : Face) :
    ((s.putDoor g n d).face f).proof.pending = (s.face f).proof.pending := (putDoor_sequenced s g n d).proof_pending f

@[simp] theorem putDoor_proof_periodicAt (s : State) (g : Face) (n : Nat) (d : Door) (f : Face) :
    ((s.putDoor g n d).face f).proof.periodicAt = (s.face f).proof.periodicAt := (putDoor_sequenced s g n d).proof_periodicAt f

@[simp] theorem putDoor_ms (s : State) (g : Face) (n : Nat) (d : Door) :
   (s.putDoor g n d).ms = s.ms := (putDoor_sequenced s g n d).ms

@[simp] theorem putDoor_running (s : State) (g : Face) (n : Nat) (d : Door) :
   (s.putDoor g n d).running = s.running := (putDoor_sequenced s g n d).running

@[simp] theorem putDoor_tables? (s : State) (g : Face) (n : Nat) (d : Door) (f : Face) :
   (s.putDoor g n d).tables? f = s.tables? f := (putDoor_sequenced s g n d).tables? f

@[simp] theorem putDoor_params? (s : State) (g : Face) (n : Nat) (d : Door) (f : Face) :
   (s.putDoor g n d).params? f = s.params? f := (putDoor_sequenced s g n d).params? f

@[simp] theorem putDoor_configured (s : State) (g : Face) (n : Nat) (d : Door) (f : Face) :
   (s.putDoor g n d).configured f = s.configured f := (putDoor_sequenced s g n d).configured f

@[simp] theorem setRelease_powered (s : State) (g : Face) (st : ReleaseState) :
    (s.setRelease g st).powered = s.powered := (setRelease_sequenced s g st).powered

@[simp] theorem setRelease_resetPin (s : State) (g : Face) (st : ReleaseState) :
    (s.setRelease g st).resetPin = s.resetPin := (setRelease_sequenced s g st).resetPin

@[simp] theorem setRelease_now (s : State) (g : Face) (st : ReleaseState) :
    (s.setRelease g st).now = s.now := (setRelease_sequenced s g st).now

@[simp] theorem setRelease_freeCount (s : State) (g : Face) (st : ReleaseState) :
    (s.setRelease g st).freeCount = s.freeCount := (setRelease_sequenced s g st).freeCount

@[simp] theorem setRelease_holds (s : State) (g : Face) (st : ReleaseState) :
    (s.setRelease g st).holds = s.holds := (setRelease_sequenced s g st).holds

@[simp] theorem setRelease_aln (s : State) (g : Face) (st : ReleaseState) :
    (s.setRelease g st).aln = s.aln := (setRelease_sequenced s g st).aln

@[simp] theorem setRelease_gap (s : State) (g : Face) (st : ReleaseState) :
    (s.setRelease g st).gap = s.gap := (setRelease_sequenced s g st).gap

@[simp] theorem setRelease_tbs (s : State) (g : Face) (st : ReleaseState) :
    (s.setRelease g st).tbs = s.tbs := (setRelease_sequenced s g st).tbs

@[simp] theorem setRelease_pending (s : State) (g : Face) (st : ReleaseState) :
    (s.setRelease g st).pending = s.pending := (setRelease_sequenced s g st).pending

@[simp] theorem setRelease_berth (s : State) (g : Face) (st : ReleaseState) (f : Face) :
    ((s.setRelease g st).face f).berth = (s.face f).berth := (setRelease_sequenced s g st).berth f

@[simp] theorem setRelease_deferral (s : State) (g : Face) (st : ReleaseState) (f : Face) :
    ((s.setRelease g st).face f).deferral = (s.face f).deferral := (setRelease_sequenced s g st).deferral f

@[simp] theorem setRelease_reports (s : State) (g : Face) (st : ReleaseState) (f : Face) :
    ((s.setRelease g st).face f).reports = (s.face f).reports := (setRelease_sequenced s g st).reports f

@[simp] theorem setRelease_line (s : State) (g : Face) (st : ReleaseState) (f : Face) :
    ((s.setRelease g st).face f).line = (s.face f).line := (setRelease_sequenced s g st).line f

@[simp] theorem setRelease_lif_intake (s : State) (g : Face) (st : ReleaseState) :
    (s.setRelease g st).lif.intake = s.lif.intake := (setRelease_sequenced s g st).lif_intake

@[simp] theorem setRelease_lif_replies (s : State) (g : Face) (st : ReleaseState) :
    (s.setRelease g st).lif.replies = s.lif.replies := (setRelease_sequenced s g st).lif_replies

@[simp] theorem setRelease_lif_sending (s : State) (g : Face) (st : ReleaseState) :
    (s.setRelease g st).lif.sending = s.lif.sending := (setRelease_sequenced s g st).lif_sending

@[simp] theorem setRelease_lif_lastNotice (s : State) (g : Face) (st : ReleaseState) :
    (s.setRelease g st).lif.lastNotice = s.lif.lastNotice := (setRelease_sequenced s g st).lif_lastNotice

@[simp] theorem setRelease_lif_badCount (s : State) (g : Face) (st : ReleaseState) :
    (s.setRelease g st).lif.badCount = s.lif.badCount := (setRelease_sequenced s g st).lif_badCount

@[simp] theorem setRelease_lif_goodStreak (s : State) (g : Face) (st : ReleaseState) :
    (s.setRelease g st).lif.goodStreak = s.lif.goodStreak := (setRelease_sequenced s g st).lif_goodStreak

@[simp] theorem setRelease_lif_silence (s : State) (g : Face) (st : ReleaseState) :
    (s.setRelease g st).lif.silence = s.lif.silence := (setRelease_sequenced s g st).lif_silence

@[simp] theorem setRelease_lif_degraded (s : State) (g : Face) (st : ReleaseState) :
    (s.setRelease g st).lif.degraded = s.lif.degraded := (setRelease_sequenced s g st).lif_degraded

@[simp] theorem setRelease_lif_resetCause (s : State) (g : Face) (st : ReleaseState) :
    (s.setRelease g st).lif.resetCause = s.lif.resetCause := (setRelease_sequenced s g st).lif_resetCause

@[simp] theorem setRelease_lif_errorLimit (s : State) (g : Face) (st : ReleaseState) :
    (s.setRelease g st).lif.errorLimit = s.lif.errorLimit := (setRelease_sequenced s g st).lif_errorLimit

@[simp] theorem setRelease_lif_afterReset (s : State) (g : Face) (st : ReleaseState) :
    (s.setRelease g st).lif.afterReset = s.lif.afterReset := (setRelease_sequenced s g st).lif_afterReset

@[simp] theorem setRelease_lif_routes (s : State) (g : Face) (st : ReleaseState) :
    (s.setRelease g st).lif.routes = s.lif.routes := (setRelease_sequenced s g st).lif_routes

@[simp] theorem setRelease_lif_uplinkErrors (s : State) (g : Face) (st : ReleaseState) :
    (s.setRelease g st).lif.uplinkErrors = s.lif.uplinkErrors := (setRelease_sequenced s g st).lif_uplinkErrors

@[simp] theorem setRelease_lif_framesDiscarded (s : State) (g : Face) (st : ReleaseState) :
    (s.setRelease g st).lif.framesDiscarded = s.lif.framesDiscarded := (setRelease_sequenced s g st).lif_framesDiscarded

@[simp] theorem setRelease_lif_requestsDropped (s : State) (g : Face) (st : ReleaseState) :
    (s.setRelease g st).lif.requestsDropped = s.lif.requestsDropped := (setRelease_sequenced s g st).lif_requestsDropped

@[simp] theorem setRelease_lif_snapshot (s : State) (g : Face) (st : ReleaseState) :
    (s.setRelease g st).lif.snapshot = s.lif.snapshot := (setRelease_sequenced s g st).lif_snapshot

@[simp] theorem setRelease_lif_preparing (s : State) (g : Face) (st : ReleaseState) :
    (s.setRelease g st).lif.preparing = s.lif.preparing := (setRelease_sequenced s g st).lif_preparing

@[simp] theorem setRelease_lif_clearing (s : State) (g : Face) (st : ReleaseState) :
    (s.setRelease g st).lif.clearing = s.lif.clearing := (setRelease_sequenced s g st).lif_clearing

@[simp] theorem setRelease_proof_pending (s : State) (g : Face) (st : ReleaseState) (f : Face) :
    ((s.setRelease g st).face f).proof.pending = (s.face f).proof.pending := (setRelease_sequenced s g st).proof_pending f

@[simp] theorem setRelease_proof_periodicAt (s : State) (g : Face) (st : ReleaseState) (f : Face) :
    ((s.setRelease g st).face f).proof.periodicAt = (s.face f).proof.periodicAt := (setRelease_sequenced s g st).proof_periodicAt f

@[simp] theorem setRelease_ms (s : State) (g : Face) (st : ReleaseState) :
   (s.setRelease g st).ms = s.ms := (setRelease_sequenced s g st).ms

@[simp] theorem setRelease_running (s : State) (g : Face) (st : ReleaseState) :
   (s.setRelease g st).running = s.running := (setRelease_sequenced s g st).running

@[simp] theorem setRelease_tables? (s : State) (g : Face) (st : ReleaseState) (f : Face) :
   (s.setRelease g st).tables? f = s.tables? f := (setRelease_sequenced s g st).tables? f

@[simp] theorem setRelease_params? (s : State) (g : Face) (st : ReleaseState) (f : Face) :
   (s.setRelease g st).params? f = s.params? f := (setRelease_sequenced s g st).params? f

@[simp] theorem setRelease_configured (s : State) (g : Face) (st : ReleaseState) (f : Face) :
   (s.setRelease g st).configured f = s.configured f := (setRelease_sequenced s g st).configured f

@[simp] theorem takeLatch_powered (s : State) (g : Face) (n : Nat) :
    (s.takeLatch g n).powered = s.powered := (takeLatch_sequenced s g n).powered

@[simp] theorem takeLatch_resetPin (s : State) (g : Face) (n : Nat) :
    (s.takeLatch g n).resetPin = s.resetPin := (takeLatch_sequenced s g n).resetPin

@[simp] theorem takeLatch_now (s : State) (g : Face) (n : Nat) :
    (s.takeLatch g n).now = s.now := (takeLatch_sequenced s g n).now

@[simp] theorem takeLatch_freeCount (s : State) (g : Face) (n : Nat) :
    (s.takeLatch g n).freeCount = s.freeCount := (takeLatch_sequenced s g n).freeCount

@[simp] theorem takeLatch_holds (s : State) (g : Face) (n : Nat) :
    (s.takeLatch g n).holds = s.holds := (takeLatch_sequenced s g n).holds

@[simp] theorem takeLatch_aln (s : State) (g : Face) (n : Nat) :
    (s.takeLatch g n).aln = s.aln := (takeLatch_sequenced s g n).aln

@[simp] theorem takeLatch_gap (s : State) (g : Face) (n : Nat) :
    (s.takeLatch g n).gap = s.gap := (takeLatch_sequenced s g n).gap

@[simp] theorem takeLatch_tbs (s : State) (g : Face) (n : Nat) :
    (s.takeLatch g n).tbs = s.tbs := (takeLatch_sequenced s g n).tbs

@[simp] theorem takeLatch_pending (s : State) (g : Face) (n : Nat) :
    (s.takeLatch g n).pending = s.pending := (takeLatch_sequenced s g n).pending

@[simp] theorem takeLatch_berth (s : State) (g : Face) (n : Nat) (f : Face) :
    ((s.takeLatch g n).face f).berth = (s.face f).berth := (takeLatch_sequenced s g n).berth f

@[simp] theorem takeLatch_deferral (s : State) (g : Face) (n : Nat) (f : Face) :
    ((s.takeLatch g n).face f).deferral = (s.face f).deferral := (takeLatch_sequenced s g n).deferral f

@[simp] theorem takeLatch_reports (s : State) (g : Face) (n : Nat) (f : Face) :
    ((s.takeLatch g n).face f).reports = (s.face f).reports := (takeLatch_sequenced s g n).reports f

@[simp] theorem takeLatch_line (s : State) (g : Face) (n : Nat) (f : Face) :
    ((s.takeLatch g n).face f).line = (s.face f).line := (takeLatch_sequenced s g n).line f

@[simp] theorem takeLatch_lif_intake (s : State) (g : Face) (n : Nat) :
    (s.takeLatch g n).lif.intake = s.lif.intake := (takeLatch_sequenced s g n).lif_intake

@[simp] theorem takeLatch_lif_replies (s : State) (g : Face) (n : Nat) :
    (s.takeLatch g n).lif.replies = s.lif.replies := (takeLatch_sequenced s g n).lif_replies

@[simp] theorem takeLatch_lif_sending (s : State) (g : Face) (n : Nat) :
    (s.takeLatch g n).lif.sending = s.lif.sending := (takeLatch_sequenced s g n).lif_sending

@[simp] theorem takeLatch_lif_lastNotice (s : State) (g : Face) (n : Nat) :
    (s.takeLatch g n).lif.lastNotice = s.lif.lastNotice := (takeLatch_sequenced s g n).lif_lastNotice

@[simp] theorem takeLatch_lif_badCount (s : State) (g : Face) (n : Nat) :
    (s.takeLatch g n).lif.badCount = s.lif.badCount := (takeLatch_sequenced s g n).lif_badCount

@[simp] theorem takeLatch_lif_goodStreak (s : State) (g : Face) (n : Nat) :
    (s.takeLatch g n).lif.goodStreak = s.lif.goodStreak := (takeLatch_sequenced s g n).lif_goodStreak

@[simp] theorem takeLatch_lif_silence (s : State) (g : Face) (n : Nat) :
    (s.takeLatch g n).lif.silence = s.lif.silence := (takeLatch_sequenced s g n).lif_silence

@[simp] theorem takeLatch_lif_degraded (s : State) (g : Face) (n : Nat) :
    (s.takeLatch g n).lif.degraded = s.lif.degraded := (takeLatch_sequenced s g n).lif_degraded

@[simp] theorem takeLatch_lif_resetCause (s : State) (g : Face) (n : Nat) :
    (s.takeLatch g n).lif.resetCause = s.lif.resetCause := (takeLatch_sequenced s g n).lif_resetCause

@[simp] theorem takeLatch_lif_errorLimit (s : State) (g : Face) (n : Nat) :
    (s.takeLatch g n).lif.errorLimit = s.lif.errorLimit := (takeLatch_sequenced s g n).lif_errorLimit

@[simp] theorem takeLatch_lif_afterReset (s : State) (g : Face) (n : Nat) :
    (s.takeLatch g n).lif.afterReset = s.lif.afterReset := (takeLatch_sequenced s g n).lif_afterReset

@[simp] theorem takeLatch_lif_routes (s : State) (g : Face) (n : Nat) :
    (s.takeLatch g n).lif.routes = s.lif.routes := (takeLatch_sequenced s g n).lif_routes

@[simp] theorem takeLatch_lif_uplinkErrors (s : State) (g : Face) (n : Nat) :
    (s.takeLatch g n).lif.uplinkErrors = s.lif.uplinkErrors := (takeLatch_sequenced s g n).lif_uplinkErrors

@[simp] theorem takeLatch_lif_framesDiscarded (s : State) (g : Face) (n : Nat) :
    (s.takeLatch g n).lif.framesDiscarded = s.lif.framesDiscarded := (takeLatch_sequenced s g n).lif_framesDiscarded

@[simp] theorem takeLatch_lif_requestsDropped (s : State) (g : Face) (n : Nat) :
    (s.takeLatch g n).lif.requestsDropped = s.lif.requestsDropped := (takeLatch_sequenced s g n).lif_requestsDropped

@[simp] theorem takeLatch_lif_snapshot (s : State) (g : Face) (n : Nat) :
    (s.takeLatch g n).lif.snapshot = s.lif.snapshot := (takeLatch_sequenced s g n).lif_snapshot

@[simp] theorem takeLatch_lif_preparing (s : State) (g : Face) (n : Nat) :
    (s.takeLatch g n).lif.preparing = s.lif.preparing := (takeLatch_sequenced s g n).lif_preparing

@[simp] theorem takeLatch_lif_clearing (s : State) (g : Face) (n : Nat) :
    (s.takeLatch g n).lif.clearing = s.lif.clearing := (takeLatch_sequenced s g n).lif_clearing

@[simp] theorem takeLatch_proof_pending (s : State) (g : Face) (n : Nat) (f : Face) :
    ((s.takeLatch g n).face f).proof.pending = (s.face f).proof.pending := (takeLatch_sequenced s g n).proof_pending f

@[simp] theorem takeLatch_proof_periodicAt (s : State) (g : Face) (n : Nat) (f : Face) :
    ((s.takeLatch g n).face f).proof.periodicAt = (s.face f).proof.periodicAt := (takeLatch_sequenced s g n).proof_periodicAt f

@[simp] theorem takeLatch_ms (s : State) (g : Face) (n : Nat) :
   (s.takeLatch g n).ms = s.ms := (takeLatch_sequenced s g n).ms

@[simp] theorem takeLatch_running (s : State) (g : Face) (n : Nat) :
   (s.takeLatch g n).running = s.running := (takeLatch_sequenced s g n).running

@[simp] theorem takeLatch_tables? (s : State) (g : Face) (n : Nat) (f : Face) :
   (s.takeLatch g n).tables? f = s.tables? f := (takeLatch_sequenced s g n).tables? f

@[simp] theorem takeLatch_params? (s : State) (g : Face) (n : Nat) (f : Face) :
   (s.takeLatch g n).params? f = s.params? f := (takeLatch_sequenced s g n).params? f

@[simp] theorem takeLatch_configured (s : State) (g : Face) (n : Nat) (f : Face) :
   (s.takeLatch g n).configured f = s.configured f := (takeLatch_sequenced s g n).configured f

@[simp] theorem takeReport_powered (s : State) (g : Face) (n : Nat) (r : DoorReport) :
    (s.takeReport g n r).powered = s.powered := (takeReport_sequenced s g n r).powered

@[simp] theorem takeReport_resetPin (s : State) (g : Face) (n : Nat) (r : DoorReport) :
    (s.takeReport g n r).resetPin = s.resetPin := (takeReport_sequenced s g n r).resetPin

@[simp] theorem takeReport_now (s : State) (g : Face) (n : Nat) (r : DoorReport) :
    (s.takeReport g n r).now = s.now := (takeReport_sequenced s g n r).now

@[simp] theorem takeReport_freeCount (s : State) (g : Face) (n : Nat) (r : DoorReport) :
    (s.takeReport g n r).freeCount = s.freeCount := (takeReport_sequenced s g n r).freeCount

@[simp] theorem takeReport_holds (s : State) (g : Face) (n : Nat) (r : DoorReport) :
    (s.takeReport g n r).holds = s.holds := (takeReport_sequenced s g n r).holds

@[simp] theorem takeReport_aln (s : State) (g : Face) (n : Nat) (r : DoorReport) :
    (s.takeReport g n r).aln = s.aln := (takeReport_sequenced s g n r).aln

@[simp] theorem takeReport_gap (s : State) (g : Face) (n : Nat) (r : DoorReport) :
    (s.takeReport g n r).gap = s.gap := (takeReport_sequenced s g n r).gap

@[simp] theorem takeReport_tbs (s : State) (g : Face) (n : Nat) (r : DoorReport) :
    (s.takeReport g n r).tbs = s.tbs := (takeReport_sequenced s g n r).tbs

@[simp] theorem takeReport_pending (s : State) (g : Face) (n : Nat) (r : DoorReport) :
    (s.takeReport g n r).pending = s.pending := (takeReport_sequenced s g n r).pending

@[simp] theorem takeReport_berth (s : State) (g : Face) (n : Nat) (r : DoorReport) (f : Face) :
    ((s.takeReport g n r).face f).berth = (s.face f).berth := (takeReport_sequenced s g n r).berth f

@[simp] theorem takeReport_deferral (s : State) (g : Face) (n : Nat) (r : DoorReport) (f : Face) :
    ((s.takeReport g n r).face f).deferral = (s.face f).deferral := (takeReport_sequenced s g n r).deferral f

@[simp] theorem takeReport_reports (s : State) (g : Face) (n : Nat) (r : DoorReport) (f : Face) :
    ((s.takeReport g n r).face f).reports = (s.face f).reports := (takeReport_sequenced s g n r).reports f

@[simp] theorem takeReport_line (s : State) (g : Face) (n : Nat) (r : DoorReport) (f : Face) :
    ((s.takeReport g n r).face f).line = (s.face f).line := (takeReport_sequenced s g n r).line f

@[simp] theorem takeReport_lif_intake (s : State) (g : Face) (n : Nat) (r : DoorReport) :
    (s.takeReport g n r).lif.intake = s.lif.intake := (takeReport_sequenced s g n r).lif_intake

@[simp] theorem takeReport_lif_replies (s : State) (g : Face) (n : Nat) (r : DoorReport) :
    (s.takeReport g n r).lif.replies = s.lif.replies := (takeReport_sequenced s g n r).lif_replies

@[simp] theorem takeReport_lif_sending (s : State) (g : Face) (n : Nat) (r : DoorReport) :
    (s.takeReport g n r).lif.sending = s.lif.sending := (takeReport_sequenced s g n r).lif_sending

@[simp] theorem takeReport_lif_lastNotice (s : State) (g : Face) (n : Nat) (r : DoorReport) :
    (s.takeReport g n r).lif.lastNotice = s.lif.lastNotice := (takeReport_sequenced s g n r).lif_lastNotice

@[simp] theorem takeReport_lif_badCount (s : State) (g : Face) (n : Nat) (r : DoorReport) :
    (s.takeReport g n r).lif.badCount = s.lif.badCount := (takeReport_sequenced s g n r).lif_badCount

@[simp] theorem takeReport_lif_goodStreak (s : State) (g : Face) (n : Nat) (r : DoorReport) :
    (s.takeReport g n r).lif.goodStreak = s.lif.goodStreak := (takeReport_sequenced s g n r).lif_goodStreak

@[simp] theorem takeReport_lif_silence (s : State) (g : Face) (n : Nat) (r : DoorReport) :
    (s.takeReport g n r).lif.silence = s.lif.silence := (takeReport_sequenced s g n r).lif_silence

@[simp] theorem takeReport_lif_degraded (s : State) (g : Face) (n : Nat) (r : DoorReport) :
    (s.takeReport g n r).lif.degraded = s.lif.degraded := (takeReport_sequenced s g n r).lif_degraded

@[simp] theorem takeReport_lif_resetCause (s : State) (g : Face) (n : Nat) (r : DoorReport) :
    (s.takeReport g n r).lif.resetCause = s.lif.resetCause := (takeReport_sequenced s g n r).lif_resetCause

@[simp] theorem takeReport_lif_errorLimit (s : State) (g : Face) (n : Nat) (r : DoorReport) :
    (s.takeReport g n r).lif.errorLimit = s.lif.errorLimit := (takeReport_sequenced s g n r).lif_errorLimit

@[simp] theorem takeReport_lif_afterReset (s : State) (g : Face) (n : Nat) (r : DoorReport) :
    (s.takeReport g n r).lif.afterReset = s.lif.afterReset := (takeReport_sequenced s g n r).lif_afterReset

@[simp] theorem takeReport_lif_routes (s : State) (g : Face) (n : Nat) (r : DoorReport) :
    (s.takeReport g n r).lif.routes = s.lif.routes := (takeReport_sequenced s g n r).lif_routes

@[simp] theorem takeReport_lif_uplinkErrors (s : State) (g : Face) (n : Nat) (r : DoorReport) :
    (s.takeReport g n r).lif.uplinkErrors = s.lif.uplinkErrors := (takeReport_sequenced s g n r).lif_uplinkErrors

@[simp] theorem takeReport_lif_framesDiscarded (s : State) (g : Face) (n : Nat) (r : DoorReport) :
    (s.takeReport g n r).lif.framesDiscarded = s.lif.framesDiscarded := (takeReport_sequenced s g n r).lif_framesDiscarded

@[simp] theorem takeReport_lif_requestsDropped (s : State) (g : Face) (n : Nat) (r : DoorReport) :
    (s.takeReport g n r).lif.requestsDropped = s.lif.requestsDropped := (takeReport_sequenced s g n r).lif_requestsDropped

@[simp] theorem takeReport_lif_snapshot (s : State) (g : Face) (n : Nat) (r : DoorReport) :
    (s.takeReport g n r).lif.snapshot = s.lif.snapshot := (takeReport_sequenced s g n r).lif_snapshot

@[simp] theorem takeReport_lif_preparing (s : State) (g : Face) (n : Nat) (r : DoorReport) :
    (s.takeReport g n r).lif.preparing = s.lif.preparing := (takeReport_sequenced s g n r).lif_preparing

@[simp] theorem takeReport_lif_clearing (s : State) (g : Face) (n : Nat) (r : DoorReport) :
    (s.takeReport g n r).lif.clearing = s.lif.clearing := (takeReport_sequenced s g n r).lif_clearing

@[simp] theorem takeReport_proof_pending (s : State) (g : Face) (n : Nat) (r : DoorReport) (f : Face) :
    ((s.takeReport g n r).face f).proof.pending = (s.face f).proof.pending := (takeReport_sequenced s g n r).proof_pending f

@[simp] theorem takeReport_proof_periodicAt (s : State) (g : Face) (n : Nat) (r : DoorReport) (f : Face) :
    ((s.takeReport g n r).face f).proof.periodicAt = (s.face f).proof.periodicAt := (takeReport_sequenced s g n r).proof_periodicAt f

@[simp] theorem takeReport_ms (s : State) (g : Face) (n : Nat) (r : DoorReport) :
   (s.takeReport g n r).ms = s.ms := (takeReport_sequenced s g n r).ms

@[simp] theorem takeReport_running (s : State) (g : Face) (n : Nat) (r : DoorReport) :
   (s.takeReport g n r).running = s.running := (takeReport_sequenced s g n r).running

@[simp] theorem takeReport_tables? (s : State) (g : Face) (n : Nat) (r : DoorReport) (f : Face) :
   (s.takeReport g n r).tables? f = s.tables? f := (takeReport_sequenced s g n r).tables? f

@[simp] theorem takeReport_params? (s : State) (g : Face) (n : Nat) (r : DoorReport) (f : Face) :
   (s.takeReport g n r).params? f = s.params? f := (takeReport_sequenced s g n r).params? f

@[simp] theorem takeReport_configured (s : State) (g : Face) (n : Nat) (r : DoorReport) (f : Face) :
   (s.takeReport g n r).configured f = s.configured f := (takeReport_sequenced s g n r).configured f

@[simp] theorem takeReports_powered (s : State) (g : Face) (n : Nat) (l : List DoorReport) :
    (s.takeReports g n l).powered = s.powered := (takeReports_sequenced s g n l).powered

@[simp] theorem takeReports_resetPin (s : State) (g : Face) (n : Nat) (l : List DoorReport) :
    (s.takeReports g n l).resetPin = s.resetPin := (takeReports_sequenced s g n l).resetPin

@[simp] theorem takeReports_now (s : State) (g : Face) (n : Nat) (l : List DoorReport) :
    (s.takeReports g n l).now = s.now := (takeReports_sequenced s g n l).now

@[simp] theorem takeReports_freeCount (s : State) (g : Face) (n : Nat) (l : List DoorReport) :
    (s.takeReports g n l).freeCount = s.freeCount := (takeReports_sequenced s g n l).freeCount

@[simp] theorem takeReports_holds (s : State) (g : Face) (n : Nat) (l : List DoorReport) :
    (s.takeReports g n l).holds = s.holds := (takeReports_sequenced s g n l).holds

@[simp] theorem takeReports_aln (s : State) (g : Face) (n : Nat) (l : List DoorReport) :
    (s.takeReports g n l).aln = s.aln := (takeReports_sequenced s g n l).aln

@[simp] theorem takeReports_gap (s : State) (g : Face) (n : Nat) (l : List DoorReport) :
    (s.takeReports g n l).gap = s.gap := (takeReports_sequenced s g n l).gap

@[simp] theorem takeReports_tbs (s : State) (g : Face) (n : Nat) (l : List DoorReport) :
    (s.takeReports g n l).tbs = s.tbs := (takeReports_sequenced s g n l).tbs

@[simp] theorem takeReports_pending (s : State) (g : Face) (n : Nat) (l : List DoorReport) :
    (s.takeReports g n l).pending = s.pending := (takeReports_sequenced s g n l).pending

@[simp] theorem takeReports_berth (s : State) (g : Face) (n : Nat) (l : List DoorReport) (f : Face) :
    ((s.takeReports g n l).face f).berth = (s.face f).berth := (takeReports_sequenced s g n l).berth f

@[simp] theorem takeReports_deferral (s : State) (g : Face) (n : Nat) (l : List DoorReport) (f : Face) :
    ((s.takeReports g n l).face f).deferral = (s.face f).deferral := (takeReports_sequenced s g n l).deferral f

@[simp] theorem takeReports_reports (s : State) (g : Face) (n : Nat) (l : List DoorReport) (f : Face) :
    ((s.takeReports g n l).face f).reports = (s.face f).reports := (takeReports_sequenced s g n l).reports f

@[simp] theorem takeReports_line (s : State) (g : Face) (n : Nat) (l : List DoorReport) (f : Face) :
    ((s.takeReports g n l).face f).line = (s.face f).line := (takeReports_sequenced s g n l).line f

@[simp] theorem takeReports_lif_intake (s : State) (g : Face) (n : Nat) (l : List DoorReport) :
    (s.takeReports g n l).lif.intake = s.lif.intake := (takeReports_sequenced s g n l).lif_intake

@[simp] theorem takeReports_lif_replies (s : State) (g : Face) (n : Nat) (l : List DoorReport) :
    (s.takeReports g n l).lif.replies = s.lif.replies := (takeReports_sequenced s g n l).lif_replies

@[simp] theorem takeReports_lif_sending (s : State) (g : Face) (n : Nat) (l : List DoorReport) :
    (s.takeReports g n l).lif.sending = s.lif.sending := (takeReports_sequenced s g n l).lif_sending

@[simp] theorem takeReports_lif_lastNotice (s : State) (g : Face) (n : Nat) (l : List DoorReport) :
    (s.takeReports g n l).lif.lastNotice = s.lif.lastNotice := (takeReports_sequenced s g n l).lif_lastNotice

@[simp] theorem takeReports_lif_badCount (s : State) (g : Face) (n : Nat) (l : List DoorReport) :
    (s.takeReports g n l).lif.badCount = s.lif.badCount := (takeReports_sequenced s g n l).lif_badCount

@[simp] theorem takeReports_lif_goodStreak (s : State) (g : Face) (n : Nat) (l : List DoorReport) :
    (s.takeReports g n l).lif.goodStreak = s.lif.goodStreak := (takeReports_sequenced s g n l).lif_goodStreak

@[simp] theorem takeReports_lif_silence (s : State) (g : Face) (n : Nat) (l : List DoorReport) :
    (s.takeReports g n l).lif.silence = s.lif.silence := (takeReports_sequenced s g n l).lif_silence

@[simp] theorem takeReports_lif_degraded (s : State) (g : Face) (n : Nat) (l : List DoorReport) :
    (s.takeReports g n l).lif.degraded = s.lif.degraded := (takeReports_sequenced s g n l).lif_degraded

@[simp] theorem takeReports_lif_resetCause (s : State) (g : Face) (n : Nat) (l : List DoorReport) :
    (s.takeReports g n l).lif.resetCause = s.lif.resetCause := (takeReports_sequenced s g n l).lif_resetCause

@[simp] theorem takeReports_lif_errorLimit (s : State) (g : Face) (n : Nat) (l : List DoorReport) :
    (s.takeReports g n l).lif.errorLimit = s.lif.errorLimit := (takeReports_sequenced s g n l).lif_errorLimit

@[simp] theorem takeReports_lif_afterReset (s : State) (g : Face) (n : Nat) (l : List DoorReport) :
    (s.takeReports g n l).lif.afterReset = s.lif.afterReset := (takeReports_sequenced s g n l).lif_afterReset

@[simp] theorem takeReports_lif_routes (s : State) (g : Face) (n : Nat) (l : List DoorReport) :
    (s.takeReports g n l).lif.routes = s.lif.routes := (takeReports_sequenced s g n l).lif_routes

@[simp] theorem takeReports_lif_uplinkErrors (s : State) (g : Face) (n : Nat) (l : List DoorReport) :
    (s.takeReports g n l).lif.uplinkErrors = s.lif.uplinkErrors := (takeReports_sequenced s g n l).lif_uplinkErrors

@[simp] theorem takeReports_lif_framesDiscarded (s : State) (g : Face) (n : Nat) (l : List DoorReport) :
    (s.takeReports g n l).lif.framesDiscarded = s.lif.framesDiscarded := (takeReports_sequenced s g n l).lif_framesDiscarded

@[simp] theorem takeReports_lif_requestsDropped (s : State) (g : Face) (n : Nat) (l : List DoorReport) :
    (s.takeReports g n l).lif.requestsDropped = s.lif.requestsDropped := (takeReports_sequenced s g n l).lif_requestsDropped

@[simp] theorem takeReports_lif_snapshot (s : State) (g : Face) (n : Nat) (l : List DoorReport) :
    (s.takeReports g n l).lif.snapshot = s.lif.snapshot := (takeReports_sequenced s g n l).lif_snapshot

@[simp] theorem takeReports_lif_preparing (s : State) (g : Face) (n : Nat) (l : List DoorReport) :
    (s.takeReports g n l).lif.preparing = s.lif.preparing := (takeReports_sequenced s g n l).lif_preparing

@[simp] theorem takeReports_lif_clearing (s : State) (g : Face) (n : Nat) (l : List DoorReport) :
    (s.takeReports g n l).lif.clearing = s.lif.clearing := (takeReports_sequenced s g n l).lif_clearing

@[simp] theorem takeReports_proof_pending (s : State) (g : Face) (n : Nat) (l : List DoorReport) (f : Face) :
    ((s.takeReports g n l).face f).proof.pending = (s.face f).proof.pending := (takeReports_sequenced s g n l).proof_pending f

@[simp] theorem takeReports_proof_periodicAt (s : State) (g : Face) (n : Nat) (l : List DoorReport) (f : Face) :
    ((s.takeReports g n l).face f).proof.periodicAt = (s.face f).proof.periodicAt := (takeReports_sequenced s g n l).proof_periodicAt f

@[simp] theorem takeReports_ms (s : State) (g : Face) (n : Nat) (l : List DoorReport) :
   (s.takeReports g n l).ms = s.ms := (takeReports_sequenced s g n l).ms

@[simp] theorem takeReports_running (s : State) (g : Face) (n : Nat) (l : List DoorReport) :
   (s.takeReports g n l).running = s.running := (takeReports_sequenced s g n l).running

@[simp] theorem takeReports_tables? (s : State) (g : Face) (n : Nat) (l : List DoorReport) (f : Face) :
   (s.takeReports g n l).tables? f = s.tables? f := (takeReports_sequenced s g n l).tables? f

@[simp] theorem takeReports_params? (s : State) (g : Face) (n : Nat) (l : List DoorReport) (f : Face) :
   (s.takeReports g n l).params? f = s.params? f := (takeReports_sequenced s g n l).params? f

@[simp] theorem takeReports_configured (s : State) (g : Face) (n : Nat) (l : List DoorReport) (f : Face) :
   (s.takeReports g n l).configured f = s.configured f := (takeReports_sequenced s g n l).configured f

@[simp] theorem applyDoor_powered (s : State) (g : Face) (n : Nat) (k : DoorContext → Door → DoorOutcome) :
    (s.applyDoor g n k).powered = s.powered := (applyDoor_sequenced s g n k).powered

@[simp] theorem applyDoor_resetPin (s : State) (g : Face) (n : Nat) (k : DoorContext → Door → DoorOutcome) :
    (s.applyDoor g n k).resetPin = s.resetPin := (applyDoor_sequenced s g n k).resetPin

@[simp] theorem applyDoor_now (s : State) (g : Face) (n : Nat) (k : DoorContext → Door → DoorOutcome) :
    (s.applyDoor g n k).now = s.now := (applyDoor_sequenced s g n k).now

@[simp] theorem applyDoor_freeCount (s : State) (g : Face) (n : Nat) (k : DoorContext → Door → DoorOutcome) :
    (s.applyDoor g n k).freeCount = s.freeCount := (applyDoor_sequenced s g n k).freeCount

@[simp] theorem applyDoor_holds (s : State) (g : Face) (n : Nat) (k : DoorContext → Door → DoorOutcome) :
    (s.applyDoor g n k).holds = s.holds := (applyDoor_sequenced s g n k).holds

@[simp] theorem applyDoor_aln (s : State) (g : Face) (n : Nat) (k : DoorContext → Door → DoorOutcome) :
    (s.applyDoor g n k).aln = s.aln := (applyDoor_sequenced s g n k).aln

@[simp] theorem applyDoor_gap (s : State) (g : Face) (n : Nat) (k : DoorContext → Door → DoorOutcome) :
    (s.applyDoor g n k).gap = s.gap := (applyDoor_sequenced s g n k).gap

@[simp] theorem applyDoor_tbs (s : State) (g : Face) (n : Nat) (k : DoorContext → Door → DoorOutcome) :
    (s.applyDoor g n k).tbs = s.tbs := (applyDoor_sequenced s g n k).tbs

@[simp] theorem applyDoor_pending (s : State) (g : Face) (n : Nat) (k : DoorContext → Door → DoorOutcome) :
    (s.applyDoor g n k).pending = s.pending := (applyDoor_sequenced s g n k).pending

@[simp] theorem applyDoor_berth (s : State) (g : Face) (n : Nat) (k : DoorContext → Door → DoorOutcome) (f : Face) :
    ((s.applyDoor g n k).face f).berth = (s.face f).berth := (applyDoor_sequenced s g n k).berth f

@[simp] theorem applyDoor_deferral (s : State) (g : Face) (n : Nat) (k : DoorContext → Door → DoorOutcome) (f : Face) :
    ((s.applyDoor g n k).face f).deferral = (s.face f).deferral := (applyDoor_sequenced s g n k).deferral f

@[simp] theorem applyDoor_reports (s : State) (g : Face) (n : Nat) (k : DoorContext → Door → DoorOutcome) (f : Face) :
    ((s.applyDoor g n k).face f).reports = (s.face f).reports := (applyDoor_sequenced s g n k).reports f

@[simp] theorem applyDoor_line (s : State) (g : Face) (n : Nat) (k : DoorContext → Door → DoorOutcome) (f : Face) :
    ((s.applyDoor g n k).face f).line = (s.face f).line := (applyDoor_sequenced s g n k).line f

@[simp] theorem applyDoor_lif_intake (s : State) (g : Face) (n : Nat) (k : DoorContext → Door → DoorOutcome) :
    (s.applyDoor g n k).lif.intake = s.lif.intake := (applyDoor_sequenced s g n k).lif_intake

@[simp] theorem applyDoor_lif_replies (s : State) (g : Face) (n : Nat) (k : DoorContext → Door → DoorOutcome) :
    (s.applyDoor g n k).lif.replies = s.lif.replies := (applyDoor_sequenced s g n k).lif_replies

@[simp] theorem applyDoor_lif_sending (s : State) (g : Face) (n : Nat) (k : DoorContext → Door → DoorOutcome) :
    (s.applyDoor g n k).lif.sending = s.lif.sending := (applyDoor_sequenced s g n k).lif_sending

@[simp] theorem applyDoor_lif_lastNotice (s : State) (g : Face) (n : Nat) (k : DoorContext → Door → DoorOutcome) :
    (s.applyDoor g n k).lif.lastNotice = s.lif.lastNotice := (applyDoor_sequenced s g n k).lif_lastNotice

@[simp] theorem applyDoor_lif_badCount (s : State) (g : Face) (n : Nat) (k : DoorContext → Door → DoorOutcome) :
    (s.applyDoor g n k).lif.badCount = s.lif.badCount := (applyDoor_sequenced s g n k).lif_badCount

@[simp] theorem applyDoor_lif_goodStreak (s : State) (g : Face) (n : Nat) (k : DoorContext → Door → DoorOutcome) :
    (s.applyDoor g n k).lif.goodStreak = s.lif.goodStreak := (applyDoor_sequenced s g n k).lif_goodStreak

@[simp] theorem applyDoor_lif_silence (s : State) (g : Face) (n : Nat) (k : DoorContext → Door → DoorOutcome) :
    (s.applyDoor g n k).lif.silence = s.lif.silence := (applyDoor_sequenced s g n k).lif_silence

@[simp] theorem applyDoor_lif_degraded (s : State) (g : Face) (n : Nat) (k : DoorContext → Door → DoorOutcome) :
    (s.applyDoor g n k).lif.degraded = s.lif.degraded := (applyDoor_sequenced s g n k).lif_degraded

@[simp] theorem applyDoor_lif_resetCause (s : State) (g : Face) (n : Nat) (k : DoorContext → Door → DoorOutcome) :
    (s.applyDoor g n k).lif.resetCause = s.lif.resetCause := (applyDoor_sequenced s g n k).lif_resetCause

@[simp] theorem applyDoor_lif_errorLimit (s : State) (g : Face) (n : Nat) (k : DoorContext → Door → DoorOutcome) :
    (s.applyDoor g n k).lif.errorLimit = s.lif.errorLimit := (applyDoor_sequenced s g n k).lif_errorLimit

@[simp] theorem applyDoor_lif_afterReset (s : State) (g : Face) (n : Nat) (k : DoorContext → Door → DoorOutcome) :
    (s.applyDoor g n k).lif.afterReset = s.lif.afterReset := (applyDoor_sequenced s g n k).lif_afterReset

@[simp] theorem applyDoor_lif_routes (s : State) (g : Face) (n : Nat) (k : DoorContext → Door → DoorOutcome) :
    (s.applyDoor g n k).lif.routes = s.lif.routes := (applyDoor_sequenced s g n k).lif_routes

@[simp] theorem applyDoor_lif_uplinkErrors (s : State) (g : Face) (n : Nat) (k : DoorContext → Door → DoorOutcome) :
    (s.applyDoor g n k).lif.uplinkErrors = s.lif.uplinkErrors := (applyDoor_sequenced s g n k).lif_uplinkErrors

@[simp] theorem applyDoor_lif_framesDiscarded (s : State) (g : Face) (n : Nat) (k : DoorContext → Door → DoorOutcome) :
    (s.applyDoor g n k).lif.framesDiscarded = s.lif.framesDiscarded := (applyDoor_sequenced s g n k).lif_framesDiscarded

@[simp] theorem applyDoor_lif_requestsDropped (s : State) (g : Face) (n : Nat) (k : DoorContext → Door → DoorOutcome) :
    (s.applyDoor g n k).lif.requestsDropped = s.lif.requestsDropped := (applyDoor_sequenced s g n k).lif_requestsDropped

@[simp] theorem applyDoor_lif_snapshot (s : State) (g : Face) (n : Nat) (k : DoorContext → Door → DoorOutcome) :
    (s.applyDoor g n k).lif.snapshot = s.lif.snapshot := (applyDoor_sequenced s g n k).lif_snapshot

@[simp] theorem applyDoor_lif_preparing (s : State) (g : Face) (n : Nat) (k : DoorContext → Door → DoorOutcome) :
    (s.applyDoor g n k).lif.preparing = s.lif.preparing := (applyDoor_sequenced s g n k).lif_preparing

@[simp] theorem applyDoor_lif_clearing (s : State) (g : Face) (n : Nat) (k : DoorContext → Door → DoorOutcome) :
    (s.applyDoor g n k).lif.clearing = s.lif.clearing := (applyDoor_sequenced s g n k).lif_clearing

@[simp] theorem applyDoor_proof_pending (s : State) (g : Face) (n : Nat) (k : DoorContext → Door → DoorOutcome) (f : Face) :
    ((s.applyDoor g n k).face f).proof.pending = (s.face f).proof.pending := (applyDoor_sequenced s g n k).proof_pending f

@[simp] theorem applyDoor_proof_periodicAt (s : State) (g : Face) (n : Nat) (k : DoorContext → Door → DoorOutcome) (f : Face) :
    ((s.applyDoor g n k).face f).proof.periodicAt = (s.face f).proof.periodicAt := (applyDoor_sequenced s g n k).proof_periodicAt f

@[simp] theorem applyDoor_ms (s : State) (g : Face) (n : Nat) (k : DoorContext → Door → DoorOutcome) :
   (s.applyDoor g n k).ms = s.ms := (applyDoor_sequenced s g n k).ms

@[simp] theorem applyDoor_running (s : State) (g : Face) (n : Nat) (k : DoorContext → Door → DoorOutcome) :
   (s.applyDoor g n k).running = s.running := (applyDoor_sequenced s g n k).running

@[simp] theorem applyDoor_tables? (s : State) (g : Face) (n : Nat) (k : DoorContext → Door → DoorOutcome) (f : Face) :
   (s.applyDoor g n k).tables? f = s.tables? f := (applyDoor_sequenced s g n k).tables? f

@[simp] theorem applyDoor_params? (s : State) (g : Face) (n : Nat) (k : DoorContext → Door → DoorOutcome) (f : Face) :
   (s.applyDoor g n k).params? f = s.params? f := (applyDoor_sequenced s g n k).params? f

@[simp] theorem applyDoor_configured (s : State) (g : Face) (n : Nat) (k : DoorContext → Door → DoorOutcome) (f : Face) :
   (s.applyDoor g n k).configured f = s.configured f := (applyDoor_sequenced s g n k).configured f

@[simp] theorem applyDoors_powered (s : State) (g : Face) (p : Door → Bool) (k : DoorContext → Door → DoorOutcome) :
    (s.applyDoors g p k).powered = s.powered := (applyDoors_sequenced s g p k).powered

@[simp] theorem applyDoors_resetPin (s : State) (g : Face) (p : Door → Bool) (k : DoorContext → Door → DoorOutcome) :
    (s.applyDoors g p k).resetPin = s.resetPin := (applyDoors_sequenced s g p k).resetPin

@[simp] theorem applyDoors_now (s : State) (g : Face) (p : Door → Bool) (k : DoorContext → Door → DoorOutcome) :
    (s.applyDoors g p k).now = s.now := (applyDoors_sequenced s g p k).now

@[simp] theorem applyDoors_freeCount (s : State) (g : Face) (p : Door → Bool) (k : DoorContext → Door → DoorOutcome) :
    (s.applyDoors g p k).freeCount = s.freeCount := (applyDoors_sequenced s g p k).freeCount

@[simp] theorem applyDoors_holds (s : State) (g : Face) (p : Door → Bool) (k : DoorContext → Door → DoorOutcome) :
    (s.applyDoors g p k).holds = s.holds := (applyDoors_sequenced s g p k).holds

@[simp] theorem applyDoors_aln (s : State) (g : Face) (p : Door → Bool) (k : DoorContext → Door → DoorOutcome) :
    (s.applyDoors g p k).aln = s.aln := (applyDoors_sequenced s g p k).aln

@[simp] theorem applyDoors_gap (s : State) (g : Face) (p : Door → Bool) (k : DoorContext → Door → DoorOutcome) :
    (s.applyDoors g p k).gap = s.gap := (applyDoors_sequenced s g p k).gap

@[simp] theorem applyDoors_tbs (s : State) (g : Face) (p : Door → Bool) (k : DoorContext → Door → DoorOutcome) :
    (s.applyDoors g p k).tbs = s.tbs := (applyDoors_sequenced s g p k).tbs

@[simp] theorem applyDoors_pending (s : State) (g : Face) (p : Door → Bool) (k : DoorContext → Door → DoorOutcome) :
    (s.applyDoors g p k).pending = s.pending := (applyDoors_sequenced s g p k).pending

@[simp] theorem applyDoors_berth (s : State) (g : Face) (p : Door → Bool) (k : DoorContext → Door → DoorOutcome) (f : Face) :
    ((s.applyDoors g p k).face f).berth = (s.face f).berth := (applyDoors_sequenced s g p k).berth f

@[simp] theorem applyDoors_deferral (s : State) (g : Face) (p : Door → Bool) (k : DoorContext → Door → DoorOutcome) (f : Face) :
    ((s.applyDoors g p k).face f).deferral = (s.face f).deferral := (applyDoors_sequenced s g p k).deferral f

@[simp] theorem applyDoors_reports (s : State) (g : Face) (p : Door → Bool) (k : DoorContext → Door → DoorOutcome) (f : Face) :
    ((s.applyDoors g p k).face f).reports = (s.face f).reports := (applyDoors_sequenced s g p k).reports f

@[simp] theorem applyDoors_line (s : State) (g : Face) (p : Door → Bool) (k : DoorContext → Door → DoorOutcome) (f : Face) :
    ((s.applyDoors g p k).face f).line = (s.face f).line := (applyDoors_sequenced s g p k).line f

@[simp] theorem applyDoors_lif_intake (s : State) (g : Face) (p : Door → Bool) (k : DoorContext → Door → DoorOutcome) :
    (s.applyDoors g p k).lif.intake = s.lif.intake := (applyDoors_sequenced s g p k).lif_intake

@[simp] theorem applyDoors_lif_replies (s : State) (g : Face) (p : Door → Bool) (k : DoorContext → Door → DoorOutcome) :
    (s.applyDoors g p k).lif.replies = s.lif.replies := (applyDoors_sequenced s g p k).lif_replies

@[simp] theorem applyDoors_lif_sending (s : State) (g : Face) (p : Door → Bool) (k : DoorContext → Door → DoorOutcome) :
    (s.applyDoors g p k).lif.sending = s.lif.sending := (applyDoors_sequenced s g p k).lif_sending

@[simp] theorem applyDoors_lif_lastNotice (s : State) (g : Face) (p : Door → Bool) (k : DoorContext → Door → DoorOutcome) :
    (s.applyDoors g p k).lif.lastNotice = s.lif.lastNotice := (applyDoors_sequenced s g p k).lif_lastNotice

@[simp] theorem applyDoors_lif_badCount (s : State) (g : Face) (p : Door → Bool) (k : DoorContext → Door → DoorOutcome) :
    (s.applyDoors g p k).lif.badCount = s.lif.badCount := (applyDoors_sequenced s g p k).lif_badCount

@[simp] theorem applyDoors_lif_goodStreak (s : State) (g : Face) (p : Door → Bool) (k : DoorContext → Door → DoorOutcome) :
    (s.applyDoors g p k).lif.goodStreak = s.lif.goodStreak := (applyDoors_sequenced s g p k).lif_goodStreak

@[simp] theorem applyDoors_lif_silence (s : State) (g : Face) (p : Door → Bool) (k : DoorContext → Door → DoorOutcome) :
    (s.applyDoors g p k).lif.silence = s.lif.silence := (applyDoors_sequenced s g p k).lif_silence

@[simp] theorem applyDoors_lif_degraded (s : State) (g : Face) (p : Door → Bool) (k : DoorContext → Door → DoorOutcome) :
    (s.applyDoors g p k).lif.degraded = s.lif.degraded := (applyDoors_sequenced s g p k).lif_degraded

@[simp] theorem applyDoors_lif_resetCause (s : State) (g : Face) (p : Door → Bool) (k : DoorContext → Door → DoorOutcome) :
    (s.applyDoors g p k).lif.resetCause = s.lif.resetCause := (applyDoors_sequenced s g p k).lif_resetCause

@[simp] theorem applyDoors_lif_errorLimit (s : State) (g : Face) (p : Door → Bool) (k : DoorContext → Door → DoorOutcome) :
    (s.applyDoors g p k).lif.errorLimit = s.lif.errorLimit := (applyDoors_sequenced s g p k).lif_errorLimit

@[simp] theorem applyDoors_lif_afterReset (s : State) (g : Face) (p : Door → Bool) (k : DoorContext → Door → DoorOutcome) :
    (s.applyDoors g p k).lif.afterReset = s.lif.afterReset := (applyDoors_sequenced s g p k).lif_afterReset

@[simp] theorem applyDoors_lif_routes (s : State) (g : Face) (p : Door → Bool) (k : DoorContext → Door → DoorOutcome) :
    (s.applyDoors g p k).lif.routes = s.lif.routes := (applyDoors_sequenced s g p k).lif_routes

@[simp] theorem applyDoors_lif_uplinkErrors (s : State) (g : Face) (p : Door → Bool) (k : DoorContext → Door → DoorOutcome) :
    (s.applyDoors g p k).lif.uplinkErrors = s.lif.uplinkErrors := (applyDoors_sequenced s g p k).lif_uplinkErrors

@[simp] theorem applyDoors_lif_framesDiscarded (s : State) (g : Face) (p : Door → Bool) (k : DoorContext → Door → DoorOutcome) :
    (s.applyDoors g p k).lif.framesDiscarded = s.lif.framesDiscarded := (applyDoors_sequenced s g p k).lif_framesDiscarded

@[simp] theorem applyDoors_lif_requestsDropped (s : State) (g : Face) (p : Door → Bool) (k : DoorContext → Door → DoorOutcome) :
    (s.applyDoors g p k).lif.requestsDropped = s.lif.requestsDropped := (applyDoors_sequenced s g p k).lif_requestsDropped

@[simp] theorem applyDoors_lif_snapshot (s : State) (g : Face) (p : Door → Bool) (k : DoorContext → Door → DoorOutcome) :
    (s.applyDoors g p k).lif.snapshot = s.lif.snapshot := (applyDoors_sequenced s g p k).lif_snapshot

@[simp] theorem applyDoors_lif_preparing (s : State) (g : Face) (p : Door → Bool) (k : DoorContext → Door → DoorOutcome) :
    (s.applyDoors g p k).lif.preparing = s.lif.preparing := (applyDoors_sequenced s g p k).lif_preparing

@[simp] theorem applyDoors_lif_clearing (s : State) (g : Face) (p : Door → Bool) (k : DoorContext → Door → DoorOutcome) :
    (s.applyDoors g p k).lif.clearing = s.lif.clearing := (applyDoors_sequenced s g p k).lif_clearing

@[simp] theorem applyDoors_proof_pending (s : State) (g : Face) (p : Door → Bool) (k : DoorContext → Door → DoorOutcome) (f : Face) :
    ((s.applyDoors g p k).face f).proof.pending = (s.face f).proof.pending := (applyDoors_sequenced s g p k).proof_pending f

@[simp] theorem applyDoors_proof_periodicAt (s : State) (g : Face) (p : Door → Bool) (k : DoorContext → Door → DoorOutcome) (f : Face) :
    ((s.applyDoors g p k).face f).proof.periodicAt = (s.face f).proof.periodicAt := (applyDoors_sequenced s g p k).proof_periodicAt f

@[simp] theorem applyDoors_ms (s : State) (g : Face) (p : Door → Bool) (k : DoorContext → Door → DoorOutcome) :
   (s.applyDoors g p k).ms = s.ms := (applyDoors_sequenced s g p k).ms

@[simp] theorem applyDoors_running (s : State) (g : Face) (p : Door → Bool) (k : DoorContext → Door → DoorOutcome) :
   (s.applyDoors g p k).running = s.running := (applyDoors_sequenced s g p k).running

@[simp] theorem applyDoors_tables? (s : State) (g : Face) (p : Door → Bool) (k : DoorContext → Door → DoorOutcome) (f : Face) :
   (s.applyDoors g p k).tables? f = s.tables? f := (applyDoors_sequenced s g p k).tables? f

@[simp] theorem applyDoors_params? (s : State) (g : Face) (p : Door → Bool) (k : DoorContext → Door → DoorOutcome) (f : Face) :
   (s.applyDoors g p k).params? f = s.params? f := (applyDoors_sequenced s g p k).params? f

@[simp] theorem applyDoors_configured (s : State) (g : Face) (p : Door → Bool) (k : DoorContext → Door → DoorOutcome) (f : Face) :
   (s.applyDoors g p k).configured f = s.configured f := (applyDoors_sequenced s g p k).configured f

@[simp] theorem closeFaceNow_powered (s : State) (g : Face) :
    (s.closeFaceNow g).powered = s.powered := (closeFaceNow_sequenced s g).powered

@[simp] theorem closeFaceNow_resetPin (s : State) (g : Face) :
    (s.closeFaceNow g).resetPin = s.resetPin := (closeFaceNow_sequenced s g).resetPin

@[simp] theorem closeFaceNow_now (s : State) (g : Face) :
    (s.closeFaceNow g).now = s.now := (closeFaceNow_sequenced s g).now

@[simp] theorem closeFaceNow_freeCount (s : State) (g : Face) :
    (s.closeFaceNow g).freeCount = s.freeCount := (closeFaceNow_sequenced s g).freeCount

@[simp] theorem closeFaceNow_holds (s : State) (g : Face) :
    (s.closeFaceNow g).holds = s.holds := (closeFaceNow_sequenced s g).holds

@[simp] theorem closeFaceNow_aln (s : State) (g : Face) :
    (s.closeFaceNow g).aln = s.aln := (closeFaceNow_sequenced s g).aln

@[simp] theorem closeFaceNow_gap (s : State) (g : Face) :
    (s.closeFaceNow g).gap = s.gap := (closeFaceNow_sequenced s g).gap

@[simp] theorem closeFaceNow_tbs (s : State) (g : Face) :
    (s.closeFaceNow g).tbs = s.tbs := (closeFaceNow_sequenced s g).tbs

@[simp] theorem closeFaceNow_pending (s : State) (g : Face) :
    (s.closeFaceNow g).pending = s.pending := (closeFaceNow_sequenced s g).pending

@[simp] theorem closeFaceNow_berth (s : State) (g : Face) (f : Face) :
    ((s.closeFaceNow g).face f).berth = (s.face f).berth := (closeFaceNow_sequenced s g).berth f

@[simp] theorem closeFaceNow_deferral (s : State) (g : Face) (f : Face) :
    ((s.closeFaceNow g).face f).deferral = (s.face f).deferral := (closeFaceNow_sequenced s g).deferral f

@[simp] theorem closeFaceNow_reports (s : State) (g : Face) (f : Face) :
    ((s.closeFaceNow g).face f).reports = (s.face f).reports := (closeFaceNow_sequenced s g).reports f

@[simp] theorem closeFaceNow_line (s : State) (g : Face) (f : Face) :
    ((s.closeFaceNow g).face f).line = (s.face f).line := (closeFaceNow_sequenced s g).line f

@[simp] theorem closeFaceNow_lif_intake (s : State) (g : Face) :
    (s.closeFaceNow g).lif.intake = s.lif.intake := (closeFaceNow_sequenced s g).lif_intake

@[simp] theorem closeFaceNow_lif_replies (s : State) (g : Face) :
    (s.closeFaceNow g).lif.replies = s.lif.replies := (closeFaceNow_sequenced s g).lif_replies

@[simp] theorem closeFaceNow_lif_sending (s : State) (g : Face) :
    (s.closeFaceNow g).lif.sending = s.lif.sending := (closeFaceNow_sequenced s g).lif_sending

@[simp] theorem closeFaceNow_lif_lastNotice (s : State) (g : Face) :
    (s.closeFaceNow g).lif.lastNotice = s.lif.lastNotice := (closeFaceNow_sequenced s g).lif_lastNotice

@[simp] theorem closeFaceNow_lif_badCount (s : State) (g : Face) :
    (s.closeFaceNow g).lif.badCount = s.lif.badCount := (closeFaceNow_sequenced s g).lif_badCount

@[simp] theorem closeFaceNow_lif_goodStreak (s : State) (g : Face) :
    (s.closeFaceNow g).lif.goodStreak = s.lif.goodStreak := (closeFaceNow_sequenced s g).lif_goodStreak

@[simp] theorem closeFaceNow_lif_silence (s : State) (g : Face) :
    (s.closeFaceNow g).lif.silence = s.lif.silence := (closeFaceNow_sequenced s g).lif_silence

@[simp] theorem closeFaceNow_lif_degraded (s : State) (g : Face) :
    (s.closeFaceNow g).lif.degraded = s.lif.degraded := (closeFaceNow_sequenced s g).lif_degraded

@[simp] theorem closeFaceNow_lif_resetCause (s : State) (g : Face) :
    (s.closeFaceNow g).lif.resetCause = s.lif.resetCause := (closeFaceNow_sequenced s g).lif_resetCause

@[simp] theorem closeFaceNow_lif_errorLimit (s : State) (g : Face) :
    (s.closeFaceNow g).lif.errorLimit = s.lif.errorLimit := (closeFaceNow_sequenced s g).lif_errorLimit

@[simp] theorem closeFaceNow_lif_afterReset (s : State) (g : Face) :
    (s.closeFaceNow g).lif.afterReset = s.lif.afterReset := (closeFaceNow_sequenced s g).lif_afterReset

@[simp] theorem closeFaceNow_lif_routes (s : State) (g : Face) :
    (s.closeFaceNow g).lif.routes = s.lif.routes := (closeFaceNow_sequenced s g).lif_routes

@[simp] theorem closeFaceNow_lif_uplinkErrors (s : State) (g : Face) :
    (s.closeFaceNow g).lif.uplinkErrors = s.lif.uplinkErrors := (closeFaceNow_sequenced s g).lif_uplinkErrors

@[simp] theorem closeFaceNow_lif_framesDiscarded (s : State) (g : Face) :
    (s.closeFaceNow g).lif.framesDiscarded = s.lif.framesDiscarded := (closeFaceNow_sequenced s g).lif_framesDiscarded

@[simp] theorem closeFaceNow_lif_requestsDropped (s : State) (g : Face) :
    (s.closeFaceNow g).lif.requestsDropped = s.lif.requestsDropped := (closeFaceNow_sequenced s g).lif_requestsDropped

@[simp] theorem closeFaceNow_lif_snapshot (s : State) (g : Face) :
    (s.closeFaceNow g).lif.snapshot = s.lif.snapshot := (closeFaceNow_sequenced s g).lif_snapshot

@[simp] theorem closeFaceNow_lif_preparing (s : State) (g : Face) :
    (s.closeFaceNow g).lif.preparing = s.lif.preparing := (closeFaceNow_sequenced s g).lif_preparing

@[simp] theorem closeFaceNow_lif_clearing (s : State) (g : Face) :
    (s.closeFaceNow g).lif.clearing = s.lif.clearing := (closeFaceNow_sequenced s g).lif_clearing

@[simp] theorem closeFaceNow_proof_pending (s : State) (g : Face) (f : Face) :
    ((s.closeFaceNow g).face f).proof.pending = (s.face f).proof.pending := (closeFaceNow_sequenced s g).proof_pending f

@[simp] theorem closeFaceNow_proof_periodicAt (s : State) (g : Face) (f : Face) :
    ((s.closeFaceNow g).face f).proof.periodicAt = (s.face f).proof.periodicAt := (closeFaceNow_sequenced s g).proof_periodicAt f

@[simp] theorem closeFaceNow_ms (s : State) (g : Face) :
   (s.closeFaceNow g).ms = s.ms := (closeFaceNow_sequenced s g).ms

@[simp] theorem closeFaceNow_running (s : State) (g : Face) :
   (s.closeFaceNow g).running = s.running := (closeFaceNow_sequenced s g).running

@[simp] theorem closeFaceNow_tables? (s : State) (g : Face) (f : Face) :
   (s.closeFaceNow g).tables? f = s.tables? f := (closeFaceNow_sequenced s g).tables? f

@[simp] theorem closeFaceNow_params? (s : State) (g : Face) (f : Face) :
   (s.closeFaceNow g).params? f = s.params? f := (closeFaceNow_sequenced s g).params? f

@[simp] theorem closeFaceNow_configured (s : State) (g : Face) (f : Face) :
   (s.closeFaceNow g).configured f = s.configured f := (closeFaceNow_sequenced s g).configured f

@[simp] theorem movementClose_powered (s : State) (g : Face) :
    (s.movementClose g).powered = s.powered := (movementClose_sequenced s g).powered

@[simp] theorem movementClose_resetPin (s : State) (g : Face) :
    (s.movementClose g).resetPin = s.resetPin := (movementClose_sequenced s g).resetPin

@[simp] theorem movementClose_now (s : State) (g : Face) :
    (s.movementClose g).now = s.now := (movementClose_sequenced s g).now

@[simp] theorem movementClose_freeCount (s : State) (g : Face) :
    (s.movementClose g).freeCount = s.freeCount := (movementClose_sequenced s g).freeCount

@[simp] theorem movementClose_holds (s : State) (g : Face) :
    (s.movementClose g).holds = s.holds := (movementClose_sequenced s g).holds

@[simp] theorem movementClose_aln (s : State) (g : Face) :
    (s.movementClose g).aln = s.aln := (movementClose_sequenced s g).aln

@[simp] theorem movementClose_gap (s : State) (g : Face) :
    (s.movementClose g).gap = s.gap := (movementClose_sequenced s g).gap

@[simp] theorem movementClose_tbs (s : State) (g : Face) :
    (s.movementClose g).tbs = s.tbs := (movementClose_sequenced s g).tbs

@[simp] theorem movementClose_pending (s : State) (g : Face) :
    (s.movementClose g).pending = s.pending := (movementClose_sequenced s g).pending

@[simp] theorem movementClose_berth (s : State) (g : Face) (f : Face) :
    ((s.movementClose g).face f).berth = (s.face f).berth := (movementClose_sequenced s g).berth f

@[simp] theorem movementClose_deferral (s : State) (g : Face) (f : Face) :
    ((s.movementClose g).face f).deferral = (s.face f).deferral := (movementClose_sequenced s g).deferral f

@[simp] theorem movementClose_reports (s : State) (g : Face) (f : Face) :
    ((s.movementClose g).face f).reports = (s.face f).reports := (movementClose_sequenced s g).reports f

@[simp] theorem movementClose_line (s : State) (g : Face) (f : Face) :
    ((s.movementClose g).face f).line = (s.face f).line := (movementClose_sequenced s g).line f

@[simp] theorem movementClose_lif_intake (s : State) (g : Face) :
    (s.movementClose g).lif.intake = s.lif.intake := (movementClose_sequenced s g).lif_intake

@[simp] theorem movementClose_lif_replies (s : State) (g : Face) :
    (s.movementClose g).lif.replies = s.lif.replies := (movementClose_sequenced s g).lif_replies

@[simp] theorem movementClose_lif_sending (s : State) (g : Face) :
    (s.movementClose g).lif.sending = s.lif.sending := (movementClose_sequenced s g).lif_sending

@[simp] theorem movementClose_lif_lastNotice (s : State) (g : Face) :
    (s.movementClose g).lif.lastNotice = s.lif.lastNotice := (movementClose_sequenced s g).lif_lastNotice

@[simp] theorem movementClose_lif_badCount (s : State) (g : Face) :
    (s.movementClose g).lif.badCount = s.lif.badCount := (movementClose_sequenced s g).lif_badCount

@[simp] theorem movementClose_lif_goodStreak (s : State) (g : Face) :
    (s.movementClose g).lif.goodStreak = s.lif.goodStreak := (movementClose_sequenced s g).lif_goodStreak

@[simp] theorem movementClose_lif_silence (s : State) (g : Face) :
    (s.movementClose g).lif.silence = s.lif.silence := (movementClose_sequenced s g).lif_silence

@[simp] theorem movementClose_lif_degraded (s : State) (g : Face) :
    (s.movementClose g).lif.degraded = s.lif.degraded := (movementClose_sequenced s g).lif_degraded

@[simp] theorem movementClose_lif_resetCause (s : State) (g : Face) :
    (s.movementClose g).lif.resetCause = s.lif.resetCause := (movementClose_sequenced s g).lif_resetCause

@[simp] theorem movementClose_lif_errorLimit (s : State) (g : Face) :
    (s.movementClose g).lif.errorLimit = s.lif.errorLimit := (movementClose_sequenced s g).lif_errorLimit

@[simp] theorem movementClose_lif_afterReset (s : State) (g : Face) :
    (s.movementClose g).lif.afterReset = s.lif.afterReset := (movementClose_sequenced s g).lif_afterReset

@[simp] theorem movementClose_lif_routes (s : State) (g : Face) :
    (s.movementClose g).lif.routes = s.lif.routes := (movementClose_sequenced s g).lif_routes

@[simp] theorem movementClose_lif_uplinkErrors (s : State) (g : Face) :
    (s.movementClose g).lif.uplinkErrors = s.lif.uplinkErrors := (movementClose_sequenced s g).lif_uplinkErrors

@[simp] theorem movementClose_lif_framesDiscarded (s : State) (g : Face) :
    (s.movementClose g).lif.framesDiscarded = s.lif.framesDiscarded := (movementClose_sequenced s g).lif_framesDiscarded

@[simp] theorem movementClose_lif_requestsDropped (s : State) (g : Face) :
    (s.movementClose g).lif.requestsDropped = s.lif.requestsDropped := (movementClose_sequenced s g).lif_requestsDropped

@[simp] theorem movementClose_lif_snapshot (s : State) (g : Face) :
    (s.movementClose g).lif.snapshot = s.lif.snapshot := (movementClose_sequenced s g).lif_snapshot

@[simp] theorem movementClose_lif_preparing (s : State) (g : Face) :
    (s.movementClose g).lif.preparing = s.lif.preparing := (movementClose_sequenced s g).lif_preparing

@[simp] theorem movementClose_lif_clearing (s : State) (g : Face) :
    (s.movementClose g).lif.clearing = s.lif.clearing := (movementClose_sequenced s g).lif_clearing

@[simp] theorem movementClose_proof_pending (s : State) (g : Face) (f : Face) :
    ((s.movementClose g).face f).proof.pending = (s.face f).proof.pending := (movementClose_sequenced s g).proof_pending f

@[simp] theorem movementClose_proof_periodicAt (s : State) (g : Face) (f : Face) :
    ((s.movementClose g).face f).proof.periodicAt = (s.face f).proof.periodicAt := (movementClose_sequenced s g).proof_periodicAt f

@[simp] theorem movementClose_ms (s : State) (g : Face) :
   (s.movementClose g).ms = s.ms := (movementClose_sequenced s g).ms

@[simp] theorem movementClose_running (s : State) (g : Face) :
   (s.movementClose g).running = s.running := (movementClose_sequenced s g).running

@[simp] theorem movementClose_tables? (s : State) (g : Face) (f : Face) :
   (s.movementClose g).tables? f = s.tables? f := (movementClose_sequenced s g).tables? f

@[simp] theorem movementClose_params? (s : State) (g : Face) (f : Face) :
   (s.movementClose g).params? f = s.params? f := (movementClose_sequenced s g).params? f

@[simp] theorem movementClose_configured (s : State) (g : Face) (f : Face) :
   (s.movementClose g).configured f = s.configured f := (movementClose_sequenced s g).configured f

@[simp] theorem departureClose_powered (s : State) (g : Face) :
    (s.departureClose g).powered = s.powered := (departureClose_sequenced s g).powered

@[simp] theorem departureClose_resetPin (s : State) (g : Face) :
    (s.departureClose g).resetPin = s.resetPin := (departureClose_sequenced s g).resetPin

@[simp] theorem departureClose_now (s : State) (g : Face) :
    (s.departureClose g).now = s.now := (departureClose_sequenced s g).now

@[simp] theorem departureClose_freeCount (s : State) (g : Face) :
    (s.departureClose g).freeCount = s.freeCount := (departureClose_sequenced s g).freeCount

@[simp] theorem departureClose_holds (s : State) (g : Face) :
    (s.departureClose g).holds = s.holds := (departureClose_sequenced s g).holds

@[simp] theorem departureClose_aln (s : State) (g : Face) :
    (s.departureClose g).aln = s.aln := (departureClose_sequenced s g).aln

@[simp] theorem departureClose_gap (s : State) (g : Face) :
    (s.departureClose g).gap = s.gap := (departureClose_sequenced s g).gap

@[simp] theorem departureClose_tbs (s : State) (g : Face) :
    (s.departureClose g).tbs = s.tbs := (departureClose_sequenced s g).tbs

@[simp] theorem departureClose_pending (s : State) (g : Face) :
    (s.departureClose g).pending = s.pending := (departureClose_sequenced s g).pending

@[simp] theorem departureClose_berth (s : State) (g : Face) (f : Face) :
    ((s.departureClose g).face f).berth = (s.face f).berth := (departureClose_sequenced s g).berth f

@[simp] theorem departureClose_deferral (s : State) (g : Face) (f : Face) :
    ((s.departureClose g).face f).deferral = (s.face f).deferral := (departureClose_sequenced s g).deferral f

@[simp] theorem departureClose_reports (s : State) (g : Face) (f : Face) :
    ((s.departureClose g).face f).reports = (s.face f).reports := (departureClose_sequenced s g).reports f

@[simp] theorem departureClose_line (s : State) (g : Face) (f : Face) :
    ((s.departureClose g).face f).line = (s.face f).line := (departureClose_sequenced s g).line f

@[simp] theorem departureClose_lif_intake (s : State) (g : Face) :
    (s.departureClose g).lif.intake = s.lif.intake := (departureClose_sequenced s g).lif_intake

@[simp] theorem departureClose_lif_replies (s : State) (g : Face) :
    (s.departureClose g).lif.replies = s.lif.replies := (departureClose_sequenced s g).lif_replies

@[simp] theorem departureClose_lif_sending (s : State) (g : Face) :
    (s.departureClose g).lif.sending = s.lif.sending := (departureClose_sequenced s g).lif_sending

@[simp] theorem departureClose_lif_lastNotice (s : State) (g : Face) :
    (s.departureClose g).lif.lastNotice = s.lif.lastNotice := (departureClose_sequenced s g).lif_lastNotice

@[simp] theorem departureClose_lif_badCount (s : State) (g : Face) :
    (s.departureClose g).lif.badCount = s.lif.badCount := (departureClose_sequenced s g).lif_badCount

@[simp] theorem departureClose_lif_goodStreak (s : State) (g : Face) :
    (s.departureClose g).lif.goodStreak = s.lif.goodStreak := (departureClose_sequenced s g).lif_goodStreak

@[simp] theorem departureClose_lif_silence (s : State) (g : Face) :
    (s.departureClose g).lif.silence = s.lif.silence := (departureClose_sequenced s g).lif_silence

@[simp] theorem departureClose_lif_degraded (s : State) (g : Face) :
    (s.departureClose g).lif.degraded = s.lif.degraded := (departureClose_sequenced s g).lif_degraded

@[simp] theorem departureClose_lif_resetCause (s : State) (g : Face) :
    (s.departureClose g).lif.resetCause = s.lif.resetCause := (departureClose_sequenced s g).lif_resetCause

@[simp] theorem departureClose_lif_errorLimit (s : State) (g : Face) :
    (s.departureClose g).lif.errorLimit = s.lif.errorLimit := (departureClose_sequenced s g).lif_errorLimit

@[simp] theorem departureClose_lif_afterReset (s : State) (g : Face) :
    (s.departureClose g).lif.afterReset = s.lif.afterReset := (departureClose_sequenced s g).lif_afterReset

@[simp] theorem departureClose_lif_routes (s : State) (g : Face) :
    (s.departureClose g).lif.routes = s.lif.routes := (departureClose_sequenced s g).lif_routes

@[simp] theorem departureClose_lif_uplinkErrors (s : State) (g : Face) :
    (s.departureClose g).lif.uplinkErrors = s.lif.uplinkErrors := (departureClose_sequenced s g).lif_uplinkErrors

@[simp] theorem departureClose_lif_framesDiscarded (s : State) (g : Face) :
    (s.departureClose g).lif.framesDiscarded = s.lif.framesDiscarded := (departureClose_sequenced s g).lif_framesDiscarded

@[simp] theorem departureClose_lif_requestsDropped (s : State) (g : Face) :
    (s.departureClose g).lif.requestsDropped = s.lif.requestsDropped := (departureClose_sequenced s g).lif_requestsDropped

@[simp] theorem departureClose_lif_snapshot (s : State) (g : Face) :
    (s.departureClose g).lif.snapshot = s.lif.snapshot := (departureClose_sequenced s g).lif_snapshot

@[simp] theorem departureClose_lif_preparing (s : State) (g : Face) :
    (s.departureClose g).lif.preparing = s.lif.preparing := (departureClose_sequenced s g).lif_preparing

@[simp] theorem departureClose_lif_clearing (s : State) (g : Face) :
    (s.departureClose g).lif.clearing = s.lif.clearing := (departureClose_sequenced s g).lif_clearing

@[simp] theorem departureClose_proof_pending (s : State) (g : Face) (f : Face) :
    ((s.departureClose g).face f).proof.pending = (s.face f).proof.pending := (departureClose_sequenced s g).proof_pending f

@[simp] theorem departureClose_proof_periodicAt (s : State) (g : Face) (f : Face) :
    ((s.departureClose g).face f).proof.periodicAt = (s.face f).proof.periodicAt := (departureClose_sequenced s g).proof_periodicAt f

@[simp] theorem departureClose_ms (s : State) (g : Face) :
   (s.departureClose g).ms = s.ms := (departureClose_sequenced s g).ms

@[simp] theorem departureClose_running (s : State) (g : Face) :
   (s.departureClose g).running = s.running := (departureClose_sequenced s g).running

@[simp] theorem departureClose_tables? (s : State) (g : Face) (f : Face) :
   (s.departureClose g).tables? f = s.tables? f := (departureClose_sequenced s g).tables? f

@[simp] theorem departureClose_params? (s : State) (g : Face) (f : Face) :
   (s.departureClose g).params? f = s.params? f := (departureClose_sequenced s g).params? f

@[simp] theorem departureClose_configured (s : State) (g : Face) (f : Face) :
   (s.departureClose g).configured f = s.configured f := (departureClose_sequenced s g).configured f

@[simp] theorem restoreClose_powered (s : State) (g : Face) :
    (s.restoreClose g).powered = s.powered := (restoreClose_sequenced s g).powered

@[simp] theorem restoreClose_resetPin (s : State) (g : Face) :
    (s.restoreClose g).resetPin = s.resetPin := (restoreClose_sequenced s g).resetPin

@[simp] theorem restoreClose_now (s : State) (g : Face) :
    (s.restoreClose g).now = s.now := (restoreClose_sequenced s g).now

@[simp] theorem restoreClose_freeCount (s : State) (g : Face) :
    (s.restoreClose g).freeCount = s.freeCount := (restoreClose_sequenced s g).freeCount

@[simp] theorem restoreClose_holds (s : State) (g : Face) :
    (s.restoreClose g).holds = s.holds := (restoreClose_sequenced s g).holds

@[simp] theorem restoreClose_aln (s : State) (g : Face) :
    (s.restoreClose g).aln = s.aln := (restoreClose_sequenced s g).aln

@[simp] theorem restoreClose_gap (s : State) (g : Face) :
    (s.restoreClose g).gap = s.gap := (restoreClose_sequenced s g).gap

@[simp] theorem restoreClose_tbs (s : State) (g : Face) :
    (s.restoreClose g).tbs = s.tbs := (restoreClose_sequenced s g).tbs

@[simp] theorem restoreClose_pending (s : State) (g : Face) :
    (s.restoreClose g).pending = s.pending := (restoreClose_sequenced s g).pending

@[simp] theorem restoreClose_berth (s : State) (g : Face) (f : Face) :
    ((s.restoreClose g).face f).berth = (s.face f).berth := (restoreClose_sequenced s g).berth f

@[simp] theorem restoreClose_deferral (s : State) (g : Face) (f : Face) :
    ((s.restoreClose g).face f).deferral = (s.face f).deferral := (restoreClose_sequenced s g).deferral f

@[simp] theorem restoreClose_reports (s : State) (g : Face) (f : Face) :
    ((s.restoreClose g).face f).reports = (s.face f).reports := (restoreClose_sequenced s g).reports f

@[simp] theorem restoreClose_line (s : State) (g : Face) (f : Face) :
    ((s.restoreClose g).face f).line = (s.face f).line := (restoreClose_sequenced s g).line f

@[simp] theorem restoreClose_lif_intake (s : State) (g : Face) :
    (s.restoreClose g).lif.intake = s.lif.intake := (restoreClose_sequenced s g).lif_intake

@[simp] theorem restoreClose_lif_replies (s : State) (g : Face) :
    (s.restoreClose g).lif.replies = s.lif.replies := (restoreClose_sequenced s g).lif_replies

@[simp] theorem restoreClose_lif_sending (s : State) (g : Face) :
    (s.restoreClose g).lif.sending = s.lif.sending := (restoreClose_sequenced s g).lif_sending

@[simp] theorem restoreClose_lif_lastNotice (s : State) (g : Face) :
    (s.restoreClose g).lif.lastNotice = s.lif.lastNotice := (restoreClose_sequenced s g).lif_lastNotice

@[simp] theorem restoreClose_lif_badCount (s : State) (g : Face) :
    (s.restoreClose g).lif.badCount = s.lif.badCount := (restoreClose_sequenced s g).lif_badCount

@[simp] theorem restoreClose_lif_goodStreak (s : State) (g : Face) :
    (s.restoreClose g).lif.goodStreak = s.lif.goodStreak := (restoreClose_sequenced s g).lif_goodStreak

@[simp] theorem restoreClose_lif_silence (s : State) (g : Face) :
    (s.restoreClose g).lif.silence = s.lif.silence := (restoreClose_sequenced s g).lif_silence

@[simp] theorem restoreClose_lif_degraded (s : State) (g : Face) :
    (s.restoreClose g).lif.degraded = s.lif.degraded := (restoreClose_sequenced s g).lif_degraded

@[simp] theorem restoreClose_lif_resetCause (s : State) (g : Face) :
    (s.restoreClose g).lif.resetCause = s.lif.resetCause := (restoreClose_sequenced s g).lif_resetCause

@[simp] theorem restoreClose_lif_errorLimit (s : State) (g : Face) :
    (s.restoreClose g).lif.errorLimit = s.lif.errorLimit := (restoreClose_sequenced s g).lif_errorLimit

@[simp] theorem restoreClose_lif_afterReset (s : State) (g : Face) :
    (s.restoreClose g).lif.afterReset = s.lif.afterReset := (restoreClose_sequenced s g).lif_afterReset

@[simp] theorem restoreClose_lif_routes (s : State) (g : Face) :
    (s.restoreClose g).lif.routes = s.lif.routes := (restoreClose_sequenced s g).lif_routes

@[simp] theorem restoreClose_lif_uplinkErrors (s : State) (g : Face) :
    (s.restoreClose g).lif.uplinkErrors = s.lif.uplinkErrors := (restoreClose_sequenced s g).lif_uplinkErrors

@[simp] theorem restoreClose_lif_framesDiscarded (s : State) (g : Face) :
    (s.restoreClose g).lif.framesDiscarded = s.lif.framesDiscarded := (restoreClose_sequenced s g).lif_framesDiscarded

@[simp] theorem restoreClose_lif_requestsDropped (s : State) (g : Face) :
    (s.restoreClose g).lif.requestsDropped = s.lif.requestsDropped := (restoreClose_sequenced s g).lif_requestsDropped

@[simp] theorem restoreClose_lif_snapshot (s : State) (g : Face) :
    (s.restoreClose g).lif.snapshot = s.lif.snapshot := (restoreClose_sequenced s g).lif_snapshot

@[simp] theorem restoreClose_lif_preparing (s : State) (g : Face) :
    (s.restoreClose g).lif.preparing = s.lif.preparing := (restoreClose_sequenced s g).lif_preparing

@[simp] theorem restoreClose_lif_clearing (s : State) (g : Face) :
    (s.restoreClose g).lif.clearing = s.lif.clearing := (restoreClose_sequenced s g).lif_clearing

@[simp] theorem restoreClose_proof_pending (s : State) (g : Face) (f : Face) :
    ((s.restoreClose g).face f).proof.pending = (s.face f).proof.pending := (restoreClose_sequenced s g).proof_pending f

@[simp] theorem restoreClose_proof_periodicAt (s : State) (g : Face) (f : Face) :
    ((s.restoreClose g).face f).proof.periodicAt = (s.face f).proof.periodicAt := (restoreClose_sequenced s g).proof_periodicAt f

@[simp] theorem restoreClose_ms (s : State) (g : Face) :
   (s.restoreClose g).ms = s.ms := (restoreClose_sequenced s g).ms

@[simp] theorem restoreClose_running (s : State) (g : Face) :
   (s.restoreClose g).running = s.running := (restoreClose_sequenced s g).running

@[simp] theorem restoreClose_tables? (s : State) (g : Face) (f : Face) :
   (s.restoreClose g).tables? f = s.tables? f := (restoreClose_sequenced s g).tables? f

@[simp] theorem restoreClose_params? (s : State) (g : Face) (f : Face) :
   (s.restoreClose g).params? f = s.params? f := (restoreClose_sequenced s g).params? f

@[simp] theorem restoreClose_configured (s : State) (g : Face) (f : Face) :
   (s.restoreClose g).configured f = s.configured f := (restoreClose_sequenced s g).configured f

@[simp] theorem openDoors_powered (s : State) (g : Face) :
    (s.openDoors g).powered = s.powered := (openDoors_sequenced s g).powered

@[simp] theorem openDoors_resetPin (s : State) (g : Face) :
    (s.openDoors g).resetPin = s.resetPin := (openDoors_sequenced s g).resetPin

@[simp] theorem openDoors_now (s : State) (g : Face) :
    (s.openDoors g).now = s.now := (openDoors_sequenced s g).now

@[simp] theorem openDoors_freeCount (s : State) (g : Face) :
    (s.openDoors g).freeCount = s.freeCount := (openDoors_sequenced s g).freeCount

@[simp] theorem openDoors_holds (s : State) (g : Face) :
    (s.openDoors g).holds = s.holds := (openDoors_sequenced s g).holds

@[simp] theorem openDoors_aln (s : State) (g : Face) :
    (s.openDoors g).aln = s.aln := (openDoors_sequenced s g).aln

@[simp] theorem openDoors_gap (s : State) (g : Face) :
    (s.openDoors g).gap = s.gap := (openDoors_sequenced s g).gap

@[simp] theorem openDoors_tbs (s : State) (g : Face) :
    (s.openDoors g).tbs = s.tbs := (openDoors_sequenced s g).tbs

@[simp] theorem openDoors_pending (s : State) (g : Face) :
    (s.openDoors g).pending = s.pending := (openDoors_sequenced s g).pending

@[simp] theorem openDoors_berth (s : State) (g : Face) (f : Face) :
    ((s.openDoors g).face f).berth = (s.face f).berth := (openDoors_sequenced s g).berth f

@[simp] theorem openDoors_deferral (s : State) (g : Face) (f : Face) :
    ((s.openDoors g).face f).deferral = (s.face f).deferral := (openDoors_sequenced s g).deferral f

@[simp] theorem openDoors_reports (s : State) (g : Face) (f : Face) :
    ((s.openDoors g).face f).reports = (s.face f).reports := (openDoors_sequenced s g).reports f

@[simp] theorem openDoors_line (s : State) (g : Face) (f : Face) :
    ((s.openDoors g).face f).line = (s.face f).line := (openDoors_sequenced s g).line f

@[simp] theorem openDoors_lif_intake (s : State) (g : Face) :
    (s.openDoors g).lif.intake = s.lif.intake := (openDoors_sequenced s g).lif_intake

@[simp] theorem openDoors_lif_replies (s : State) (g : Face) :
    (s.openDoors g).lif.replies = s.lif.replies := (openDoors_sequenced s g).lif_replies

@[simp] theorem openDoors_lif_sending (s : State) (g : Face) :
    (s.openDoors g).lif.sending = s.lif.sending := (openDoors_sequenced s g).lif_sending

@[simp] theorem openDoors_lif_lastNotice (s : State) (g : Face) :
    (s.openDoors g).lif.lastNotice = s.lif.lastNotice := (openDoors_sequenced s g).lif_lastNotice

@[simp] theorem openDoors_lif_badCount (s : State) (g : Face) :
    (s.openDoors g).lif.badCount = s.lif.badCount := (openDoors_sequenced s g).lif_badCount

@[simp] theorem openDoors_lif_goodStreak (s : State) (g : Face) :
    (s.openDoors g).lif.goodStreak = s.lif.goodStreak := (openDoors_sequenced s g).lif_goodStreak

@[simp] theorem openDoors_lif_silence (s : State) (g : Face) :
    (s.openDoors g).lif.silence = s.lif.silence := (openDoors_sequenced s g).lif_silence

@[simp] theorem openDoors_lif_degraded (s : State) (g : Face) :
    (s.openDoors g).lif.degraded = s.lif.degraded := (openDoors_sequenced s g).lif_degraded

@[simp] theorem openDoors_lif_resetCause (s : State) (g : Face) :
    (s.openDoors g).lif.resetCause = s.lif.resetCause := (openDoors_sequenced s g).lif_resetCause

@[simp] theorem openDoors_lif_errorLimit (s : State) (g : Face) :
    (s.openDoors g).lif.errorLimit = s.lif.errorLimit := (openDoors_sequenced s g).lif_errorLimit

@[simp] theorem openDoors_lif_afterReset (s : State) (g : Face) :
    (s.openDoors g).lif.afterReset = s.lif.afterReset := (openDoors_sequenced s g).lif_afterReset

@[simp] theorem openDoors_lif_routes (s : State) (g : Face) :
    (s.openDoors g).lif.routes = s.lif.routes := (openDoors_sequenced s g).lif_routes

@[simp] theorem openDoors_lif_uplinkErrors (s : State) (g : Face) :
    (s.openDoors g).lif.uplinkErrors = s.lif.uplinkErrors := (openDoors_sequenced s g).lif_uplinkErrors

@[simp] theorem openDoors_lif_framesDiscarded (s : State) (g : Face) :
    (s.openDoors g).lif.framesDiscarded = s.lif.framesDiscarded := (openDoors_sequenced s g).lif_framesDiscarded

@[simp] theorem openDoors_lif_requestsDropped (s : State) (g : Face) :
    (s.openDoors g).lif.requestsDropped = s.lif.requestsDropped := (openDoors_sequenced s g).lif_requestsDropped

@[simp] theorem openDoors_lif_snapshot (s : State) (g : Face) :
    (s.openDoors g).lif.snapshot = s.lif.snapshot := (openDoors_sequenced s g).lif_snapshot

@[simp] theorem openDoors_lif_preparing (s : State) (g : Face) :
    (s.openDoors g).lif.preparing = s.lif.preparing := (openDoors_sequenced s g).lif_preparing

@[simp] theorem openDoors_lif_clearing (s : State) (g : Face) :
    (s.openDoors g).lif.clearing = s.lif.clearing := (openDoors_sequenced s g).lif_clearing

@[simp] theorem openDoors_proof_pending (s : State) (g : Face) (f : Face) :
    ((s.openDoors g).face f).proof.pending = (s.face f).proof.pending := (openDoors_sequenced s g).proof_pending f

@[simp] theorem openDoors_proof_periodicAt (s : State) (g : Face) (f : Face) :
    ((s.openDoors g).face f).proof.periodicAt = (s.face f).proof.periodicAt := (openDoors_sequenced s g).proof_periodicAt f

@[simp] theorem openDoors_ms (s : State) (g : Face) :
   (s.openDoors g).ms = s.ms := (openDoors_sequenced s g).ms

@[simp] theorem openDoors_running (s : State) (g : Face) :
   (s.openDoors g).running = s.running := (openDoors_sequenced s g).running

@[simp] theorem openDoors_tables? (s : State) (g : Face) (f : Face) :
   (s.openDoors g).tables? f = s.tables? f := (openDoors_sequenced s g).tables? f

@[simp] theorem openDoors_params? (s : State) (g : Face) (f : Face) :
   (s.openDoors g).params? f = s.params? f := (openDoors_sequenced s g).params? f

@[simp] theorem openDoors_configured (s : State) (g : Face) (f : Face) :
   (s.openDoors g).configured f = s.configured f := (openDoors_sequenced s g).configured f

@[simp] theorem dropOpens_powered (s : State) (g : Face) :
    (s.dropOpens g).powered = s.powered := (dropOpens_sequenced s g).powered

@[simp] theorem dropOpens_resetPin (s : State) (g : Face) :
    (s.dropOpens g).resetPin = s.resetPin := (dropOpens_sequenced s g).resetPin

@[simp] theorem dropOpens_now (s : State) (g : Face) :
    (s.dropOpens g).now = s.now := (dropOpens_sequenced s g).now

@[simp] theorem dropOpens_freeCount (s : State) (g : Face) :
    (s.dropOpens g).freeCount = s.freeCount := (dropOpens_sequenced s g).freeCount

@[simp] theorem dropOpens_holds (s : State) (g : Face) :
    (s.dropOpens g).holds = s.holds := (dropOpens_sequenced s g).holds

@[simp] theorem dropOpens_aln (s : State) (g : Face) :
    (s.dropOpens g).aln = s.aln := (dropOpens_sequenced s g).aln

@[simp] theorem dropOpens_gap (s : State) (g : Face) :
    (s.dropOpens g).gap = s.gap := (dropOpens_sequenced s g).gap

@[simp] theorem dropOpens_tbs (s : State) (g : Face) :
    (s.dropOpens g).tbs = s.tbs := (dropOpens_sequenced s g).tbs

@[simp] theorem dropOpens_pending (s : State) (g : Face) :
    (s.dropOpens g).pending = s.pending := (dropOpens_sequenced s g).pending

@[simp] theorem dropOpens_berth (s : State) (g : Face) (f : Face) :
    ((s.dropOpens g).face f).berth = (s.face f).berth := (dropOpens_sequenced s g).berth f

@[simp] theorem dropOpens_deferral (s : State) (g : Face) (f : Face) :
    ((s.dropOpens g).face f).deferral = (s.face f).deferral := (dropOpens_sequenced s g).deferral f

@[simp] theorem dropOpens_reports (s : State) (g : Face) (f : Face) :
    ((s.dropOpens g).face f).reports = (s.face f).reports := (dropOpens_sequenced s g).reports f

@[simp] theorem dropOpens_line (s : State) (g : Face) (f : Face) :
    ((s.dropOpens g).face f).line = (s.face f).line := (dropOpens_sequenced s g).line f

@[simp] theorem dropOpens_lif_intake (s : State) (g : Face) :
    (s.dropOpens g).lif.intake = s.lif.intake := (dropOpens_sequenced s g).lif_intake

@[simp] theorem dropOpens_lif_replies (s : State) (g : Face) :
    (s.dropOpens g).lif.replies = s.lif.replies := (dropOpens_sequenced s g).lif_replies

@[simp] theorem dropOpens_lif_sending (s : State) (g : Face) :
    (s.dropOpens g).lif.sending = s.lif.sending := (dropOpens_sequenced s g).lif_sending

@[simp] theorem dropOpens_lif_lastNotice (s : State) (g : Face) :
    (s.dropOpens g).lif.lastNotice = s.lif.lastNotice := (dropOpens_sequenced s g).lif_lastNotice

@[simp] theorem dropOpens_lif_badCount (s : State) (g : Face) :
    (s.dropOpens g).lif.badCount = s.lif.badCount := (dropOpens_sequenced s g).lif_badCount

@[simp] theorem dropOpens_lif_goodStreak (s : State) (g : Face) :
    (s.dropOpens g).lif.goodStreak = s.lif.goodStreak := (dropOpens_sequenced s g).lif_goodStreak

@[simp] theorem dropOpens_lif_silence (s : State) (g : Face) :
    (s.dropOpens g).lif.silence = s.lif.silence := (dropOpens_sequenced s g).lif_silence

@[simp] theorem dropOpens_lif_degraded (s : State) (g : Face) :
    (s.dropOpens g).lif.degraded = s.lif.degraded := (dropOpens_sequenced s g).lif_degraded

@[simp] theorem dropOpens_lif_resetCause (s : State) (g : Face) :
    (s.dropOpens g).lif.resetCause = s.lif.resetCause := (dropOpens_sequenced s g).lif_resetCause

@[simp] theorem dropOpens_lif_errorLimit (s : State) (g : Face) :
    (s.dropOpens g).lif.errorLimit = s.lif.errorLimit := (dropOpens_sequenced s g).lif_errorLimit

@[simp] theorem dropOpens_lif_afterReset (s : State) (g : Face) :
    (s.dropOpens g).lif.afterReset = s.lif.afterReset := (dropOpens_sequenced s g).lif_afterReset

@[simp] theorem dropOpens_lif_routes (s : State) (g : Face) :
    (s.dropOpens g).lif.routes = s.lif.routes := (dropOpens_sequenced s g).lif_routes

@[simp] theorem dropOpens_lif_uplinkErrors (s : State) (g : Face) :
    (s.dropOpens g).lif.uplinkErrors = s.lif.uplinkErrors := (dropOpens_sequenced s g).lif_uplinkErrors

@[simp] theorem dropOpens_lif_framesDiscarded (s : State) (g : Face) :
    (s.dropOpens g).lif.framesDiscarded = s.lif.framesDiscarded := (dropOpens_sequenced s g).lif_framesDiscarded

@[simp] theorem dropOpens_lif_requestsDropped (s : State) (g : Face) :
    (s.dropOpens g).lif.requestsDropped = s.lif.requestsDropped := (dropOpens_sequenced s g).lif_requestsDropped

@[simp] theorem dropOpens_lif_snapshot (s : State) (g : Face) :
    (s.dropOpens g).lif.snapshot = s.lif.snapshot := (dropOpens_sequenced s g).lif_snapshot

@[simp] theorem dropOpens_lif_preparing (s : State) (g : Face) :
    (s.dropOpens g).lif.preparing = s.lif.preparing := (dropOpens_sequenced s g).lif_preparing

@[simp] theorem dropOpens_lif_clearing (s : State) (g : Face) :
    (s.dropOpens g).lif.clearing = s.lif.clearing := (dropOpens_sequenced s g).lif_clearing

@[simp] theorem dropOpens_proof_pending (s : State) (g : Face) (f : Face) :
    ((s.dropOpens g).face f).proof.pending = (s.face f).proof.pending := (dropOpens_sequenced s g).proof_pending f

@[simp] theorem dropOpens_proof_periodicAt (s : State) (g : Face) (f : Face) :
    ((s.dropOpens g).face f).proof.periodicAt = (s.face f).proof.periodicAt := (dropOpens_sequenced s g).proof_periodicAt f

@[simp] theorem dropOpens_ms (s : State) (g : Face) :
   (s.dropOpens g).ms = s.ms := (dropOpens_sequenced s g).ms

@[simp] theorem dropOpens_running (s : State) (g : Face) :
   (s.dropOpens g).running = s.running := (dropOpens_sequenced s g).running

@[simp] theorem dropOpens_tables? (s : State) (g : Face) (f : Face) :
   (s.dropOpens g).tables? f = s.tables? f := (dropOpens_sequenced s g).tables? f

@[simp] theorem dropOpens_params? (s : State) (g : Face) (f : Face) :
   (s.dropOpens g).params? f = s.params? f := (dropOpens_sequenced s g).params? f

@[simp] theorem dropOpens_configured (s : State) (g : Face) (f : Face) :
   (s.dropOpens g).configured f = s.configured f := (dropOpens_sequenced s g).configured f

@[simp] theorem followEnable_powered (s : State) (g : Face) :
    (s.followEnable g).powered = s.powered := (followEnable_sequenced s g).powered

@[simp] theorem followEnable_resetPin (s : State) (g : Face) :
    (s.followEnable g).resetPin = s.resetPin := (followEnable_sequenced s g).resetPin

@[simp] theorem followEnable_now (s : State) (g : Face) :
    (s.followEnable g).now = s.now := (followEnable_sequenced s g).now

@[simp] theorem followEnable_freeCount (s : State) (g : Face) :
    (s.followEnable g).freeCount = s.freeCount := (followEnable_sequenced s g).freeCount

@[simp] theorem followEnable_holds (s : State) (g : Face) :
    (s.followEnable g).holds = s.holds := (followEnable_sequenced s g).holds

@[simp] theorem followEnable_aln (s : State) (g : Face) :
    (s.followEnable g).aln = s.aln := (followEnable_sequenced s g).aln

@[simp] theorem followEnable_gap (s : State) (g : Face) :
    (s.followEnable g).gap = s.gap := (followEnable_sequenced s g).gap

@[simp] theorem followEnable_tbs (s : State) (g : Face) :
    (s.followEnable g).tbs = s.tbs := (followEnable_sequenced s g).tbs

@[simp] theorem followEnable_pending (s : State) (g : Face) :
    (s.followEnable g).pending = s.pending := (followEnable_sequenced s g).pending

@[simp] theorem followEnable_berth (s : State) (g : Face) (f : Face) :
    ((s.followEnable g).face f).berth = (s.face f).berth := (followEnable_sequenced s g).berth f

@[simp] theorem followEnable_deferral (s : State) (g : Face) (f : Face) :
    ((s.followEnable g).face f).deferral = (s.face f).deferral := (followEnable_sequenced s g).deferral f

@[simp] theorem followEnable_reports (s : State) (g : Face) (f : Face) :
    ((s.followEnable g).face f).reports = (s.face f).reports := (followEnable_sequenced s g).reports f

@[simp] theorem followEnable_line (s : State) (g : Face) (f : Face) :
    ((s.followEnable g).face f).line = (s.face f).line := (followEnable_sequenced s g).line f

@[simp] theorem followEnable_lif_intake (s : State) (g : Face) :
    (s.followEnable g).lif.intake = s.lif.intake := (followEnable_sequenced s g).lif_intake

@[simp] theorem followEnable_lif_replies (s : State) (g : Face) :
    (s.followEnable g).lif.replies = s.lif.replies := (followEnable_sequenced s g).lif_replies

@[simp] theorem followEnable_lif_sending (s : State) (g : Face) :
    (s.followEnable g).lif.sending = s.lif.sending := (followEnable_sequenced s g).lif_sending

@[simp] theorem followEnable_lif_lastNotice (s : State) (g : Face) :
    (s.followEnable g).lif.lastNotice = s.lif.lastNotice := (followEnable_sequenced s g).lif_lastNotice

@[simp] theorem followEnable_lif_badCount (s : State) (g : Face) :
    (s.followEnable g).lif.badCount = s.lif.badCount := (followEnable_sequenced s g).lif_badCount

@[simp] theorem followEnable_lif_goodStreak (s : State) (g : Face) :
    (s.followEnable g).lif.goodStreak = s.lif.goodStreak := (followEnable_sequenced s g).lif_goodStreak

@[simp] theorem followEnable_lif_silence (s : State) (g : Face) :
    (s.followEnable g).lif.silence = s.lif.silence := (followEnable_sequenced s g).lif_silence

@[simp] theorem followEnable_lif_degraded (s : State) (g : Face) :
    (s.followEnable g).lif.degraded = s.lif.degraded := (followEnable_sequenced s g).lif_degraded

@[simp] theorem followEnable_lif_resetCause (s : State) (g : Face) :
    (s.followEnable g).lif.resetCause = s.lif.resetCause := (followEnable_sequenced s g).lif_resetCause

@[simp] theorem followEnable_lif_errorLimit (s : State) (g : Face) :
    (s.followEnable g).lif.errorLimit = s.lif.errorLimit := (followEnable_sequenced s g).lif_errorLimit

@[simp] theorem followEnable_lif_afterReset (s : State) (g : Face) :
    (s.followEnable g).lif.afterReset = s.lif.afterReset := (followEnable_sequenced s g).lif_afterReset

@[simp] theorem followEnable_lif_routes (s : State) (g : Face) :
    (s.followEnable g).lif.routes = s.lif.routes := (followEnable_sequenced s g).lif_routes

@[simp] theorem followEnable_lif_uplinkErrors (s : State) (g : Face) :
    (s.followEnable g).lif.uplinkErrors = s.lif.uplinkErrors := (followEnable_sequenced s g).lif_uplinkErrors

@[simp] theorem followEnable_lif_framesDiscarded (s : State) (g : Face) :
    (s.followEnable g).lif.framesDiscarded = s.lif.framesDiscarded := (followEnable_sequenced s g).lif_framesDiscarded

@[simp] theorem followEnable_lif_requestsDropped (s : State) (g : Face) :
    (s.followEnable g).lif.requestsDropped = s.lif.requestsDropped := (followEnable_sequenced s g).lif_requestsDropped

@[simp] theorem followEnable_lif_snapshot (s : State) (g : Face) :
    (s.followEnable g).lif.snapshot = s.lif.snapshot := (followEnable_sequenced s g).lif_snapshot

@[simp] theorem followEnable_lif_preparing (s : State) (g : Face) :
    (s.followEnable g).lif.preparing = s.lif.preparing := (followEnable_sequenced s g).lif_preparing

@[simp] theorem followEnable_lif_clearing (s : State) (g : Face) :
    (s.followEnable g).lif.clearing = s.lif.clearing := (followEnable_sequenced s g).lif_clearing

@[simp] theorem followEnable_proof_pending (s : State) (g : Face) (f : Face) :
    ((s.followEnable g).face f).proof.pending = (s.face f).proof.pending := (followEnable_sequenced s g).proof_pending f

@[simp] theorem followEnable_proof_periodicAt (s : State) (g : Face) (f : Face) :
    ((s.followEnable g).face f).proof.periodicAt = (s.face f).proof.periodicAt := (followEnable_sequenced s g).proof_periodicAt f

@[simp] theorem followEnable_ms (s : State) (g : Face) :
   (s.followEnable g).ms = s.ms := (followEnable_sequenced s g).ms

@[simp] theorem followEnable_running (s : State) (g : Face) :
   (s.followEnable g).running = s.running := (followEnable_sequenced s g).running

@[simp] theorem followEnable_tables? (s : State) (g : Face) (f : Face) :
   (s.followEnable g).tables? f = s.tables? f := (followEnable_sequenced s g).tables? f

@[simp] theorem followEnable_params? (s : State) (g : Face) (f : Face) :
   (s.followEnable g).params? f = s.params? f := (followEnable_sequenced s g).params? f

@[simp] theorem followEnable_configured (s : State) (g : Face) (f : Face) :
   (s.followEnable g).configured f = s.configured f := (followEnable_sequenced s g).configured f

@[simp] theorem modDropLink_powered (s : State) (g : Face) (drop : Nat) (k : UnitLink → UnitLink) :
    (s.modDropLink g drop k).powered = s.powered := (modDropLink_sequenced s g drop k).powered

@[simp] theorem modDropLink_resetPin (s : State) (g : Face) (drop : Nat) (k : UnitLink → UnitLink) :
    (s.modDropLink g drop k).resetPin = s.resetPin := (modDropLink_sequenced s g drop k).resetPin

@[simp] theorem modDropLink_now (s : State) (g : Face) (drop : Nat) (k : UnitLink → UnitLink) :
    (s.modDropLink g drop k).now = s.now := (modDropLink_sequenced s g drop k).now

@[simp] theorem modDropLink_freeCount (s : State) (g : Face) (drop : Nat) (k : UnitLink → UnitLink) :
    (s.modDropLink g drop k).freeCount = s.freeCount := (modDropLink_sequenced s g drop k).freeCount

@[simp] theorem modDropLink_holds (s : State) (g : Face) (drop : Nat) (k : UnitLink → UnitLink) :
    (s.modDropLink g drop k).holds = s.holds := (modDropLink_sequenced s g drop k).holds

@[simp] theorem modDropLink_aln (s : State) (g : Face) (drop : Nat) (k : UnitLink → UnitLink) :
    (s.modDropLink g drop k).aln = s.aln := (modDropLink_sequenced s g drop k).aln

@[simp] theorem modDropLink_gap (s : State) (g : Face) (drop : Nat) (k : UnitLink → UnitLink) :
    (s.modDropLink g drop k).gap = s.gap := (modDropLink_sequenced s g drop k).gap

@[simp] theorem modDropLink_tbs (s : State) (g : Face) (drop : Nat) (k : UnitLink → UnitLink) :
    (s.modDropLink g drop k).tbs = s.tbs := (modDropLink_sequenced s g drop k).tbs

@[simp] theorem modDropLink_pending (s : State) (g : Face) (drop : Nat) (k : UnitLink → UnitLink) :
    (s.modDropLink g drop k).pending = s.pending := (modDropLink_sequenced s g drop k).pending

@[simp] theorem modDropLink_berth (s : State) (g : Face) (drop : Nat) (k : UnitLink → UnitLink) (f : Face) :
    ((s.modDropLink g drop k).face f).berth = (s.face f).berth := (modDropLink_sequenced s g drop k).berth f

@[simp] theorem modDropLink_deferral (s : State) (g : Face) (drop : Nat) (k : UnitLink → UnitLink) (f : Face) :
    ((s.modDropLink g drop k).face f).deferral = (s.face f).deferral := (modDropLink_sequenced s g drop k).deferral f

@[simp] theorem modDropLink_reports (s : State) (g : Face) (drop : Nat) (k : UnitLink → UnitLink) (f : Face) :
    ((s.modDropLink g drop k).face f).reports = (s.face f).reports := (modDropLink_sequenced s g drop k).reports f

@[simp] theorem modDropLink_line (s : State) (g : Face) (drop : Nat) (k : UnitLink → UnitLink) (f : Face) :
    ((s.modDropLink g drop k).face f).line = (s.face f).line := (modDropLink_sequenced s g drop k).line f

@[simp] theorem modDropLink_lif_intake (s : State) (g : Face) (drop : Nat) (k : UnitLink → UnitLink) :
    (s.modDropLink g drop k).lif.intake = s.lif.intake := (modDropLink_sequenced s g drop k).lif_intake

@[simp] theorem modDropLink_lif_replies (s : State) (g : Face) (drop : Nat) (k : UnitLink → UnitLink) :
    (s.modDropLink g drop k).lif.replies = s.lif.replies := (modDropLink_sequenced s g drop k).lif_replies

@[simp] theorem modDropLink_lif_sending (s : State) (g : Face) (drop : Nat) (k : UnitLink → UnitLink) :
    (s.modDropLink g drop k).lif.sending = s.lif.sending := (modDropLink_sequenced s g drop k).lif_sending

@[simp] theorem modDropLink_lif_lastNotice (s : State) (g : Face) (drop : Nat) (k : UnitLink → UnitLink) :
    (s.modDropLink g drop k).lif.lastNotice = s.lif.lastNotice := (modDropLink_sequenced s g drop k).lif_lastNotice

@[simp] theorem modDropLink_lif_badCount (s : State) (g : Face) (drop : Nat) (k : UnitLink → UnitLink) :
    (s.modDropLink g drop k).lif.badCount = s.lif.badCount := (modDropLink_sequenced s g drop k).lif_badCount

@[simp] theorem modDropLink_lif_goodStreak (s : State) (g : Face) (drop : Nat) (k : UnitLink → UnitLink) :
    (s.modDropLink g drop k).lif.goodStreak = s.lif.goodStreak := (modDropLink_sequenced s g drop k).lif_goodStreak

@[simp] theorem modDropLink_lif_silence (s : State) (g : Face) (drop : Nat) (k : UnitLink → UnitLink) :
    (s.modDropLink g drop k).lif.silence = s.lif.silence := (modDropLink_sequenced s g drop k).lif_silence

@[simp] theorem modDropLink_lif_degraded (s : State) (g : Face) (drop : Nat) (k : UnitLink → UnitLink) :
    (s.modDropLink g drop k).lif.degraded = s.lif.degraded := (modDropLink_sequenced s g drop k).lif_degraded

@[simp] theorem modDropLink_lif_resetCause (s : State) (g : Face) (drop : Nat) (k : UnitLink → UnitLink) :
    (s.modDropLink g drop k).lif.resetCause = s.lif.resetCause := (modDropLink_sequenced s g drop k).lif_resetCause

@[simp] theorem modDropLink_lif_errorLimit (s : State) (g : Face) (drop : Nat) (k : UnitLink → UnitLink) :
    (s.modDropLink g drop k).lif.errorLimit = s.lif.errorLimit := (modDropLink_sequenced s g drop k).lif_errorLimit

@[simp] theorem modDropLink_lif_afterReset (s : State) (g : Face) (drop : Nat) (k : UnitLink → UnitLink) :
    (s.modDropLink g drop k).lif.afterReset = s.lif.afterReset := (modDropLink_sequenced s g drop k).lif_afterReset

@[simp] theorem modDropLink_lif_routes (s : State) (g : Face) (drop : Nat) (k : UnitLink → UnitLink) :
    (s.modDropLink g drop k).lif.routes = s.lif.routes := (modDropLink_sequenced s g drop k).lif_routes

@[simp] theorem modDropLink_lif_uplinkErrors (s : State) (g : Face) (drop : Nat) (k : UnitLink → UnitLink) :
    (s.modDropLink g drop k).lif.uplinkErrors = s.lif.uplinkErrors := (modDropLink_sequenced s g drop k).lif_uplinkErrors

@[simp] theorem modDropLink_lif_framesDiscarded (s : State) (g : Face) (drop : Nat) (k : UnitLink → UnitLink) :
    (s.modDropLink g drop k).lif.framesDiscarded = s.lif.framesDiscarded := (modDropLink_sequenced s g drop k).lif_framesDiscarded

@[simp] theorem modDropLink_lif_requestsDropped (s : State) (g : Face) (drop : Nat) (k : UnitLink → UnitLink) :
    (s.modDropLink g drop k).lif.requestsDropped = s.lif.requestsDropped := (modDropLink_sequenced s g drop k).lif_requestsDropped

@[simp] theorem modDropLink_lif_snapshot (s : State) (g : Face) (drop : Nat) (k : UnitLink → UnitLink) :
    (s.modDropLink g drop k).lif.snapshot = s.lif.snapshot := (modDropLink_sequenced s g drop k).lif_snapshot

@[simp] theorem modDropLink_lif_preparing (s : State) (g : Face) (drop : Nat) (k : UnitLink → UnitLink) :
    (s.modDropLink g drop k).lif.preparing = s.lif.preparing := (modDropLink_sequenced s g drop k).lif_preparing

@[simp] theorem modDropLink_lif_clearing (s : State) (g : Face) (drop : Nat) (k : UnitLink → UnitLink) :
    (s.modDropLink g drop k).lif.clearing = s.lif.clearing := (modDropLink_sequenced s g drop k).lif_clearing

@[simp] theorem modDropLink_proof_pending (s : State) (g : Face) (drop : Nat) (k : UnitLink → UnitLink) (f : Face) :
    ((s.modDropLink g drop k).face f).proof.pending = (s.face f).proof.pending := (modDropLink_sequenced s g drop k).proof_pending f

@[simp] theorem modDropLink_proof_periodicAt (s : State) (g : Face) (drop : Nat) (k : UnitLink → UnitLink) (f : Face) :
    ((s.modDropLink g drop k).face f).proof.periodicAt = (s.face f).proof.periodicAt := (modDropLink_sequenced s g drop k).proof_periodicAt f

@[simp] theorem modDropLink_ms (s : State) (g : Face) (drop : Nat) (k : UnitLink → UnitLink) :
   (s.modDropLink g drop k).ms = s.ms := (modDropLink_sequenced s g drop k).ms

@[simp] theorem modDropLink_running (s : State) (g : Face) (drop : Nat) (k : UnitLink → UnitLink) :
   (s.modDropLink g drop k).running = s.running := (modDropLink_sequenced s g drop k).running

@[simp] theorem modDropLink_tables? (s : State) (g : Face) (drop : Nat) (k : UnitLink → UnitLink) (f : Face) :
   (s.modDropLink g drop k).tables? f = s.tables? f := (modDropLink_sequenced s g drop k).tables? f

@[simp] theorem modDropLink_params? (s : State) (g : Face) (drop : Nat) (k : UnitLink → UnitLink) (f : Face) :
   (s.modDropLink g drop k).params? f = s.params? f := (modDropLink_sequenced s g drop k).params? f

@[simp] theorem modDropLink_configured (s : State) (g : Face) (drop : Nat) (k : UnitLink → UnitLink) (f : Face) :
   (s.modDropLink g drop k).configured f = s.configured f := (modDropLink_sequenced s g drop k).configured f

@[simp] theorem refreshAlerts_ms (s : State)  :
    s.refreshAlerts.ms = s.ms := (refreshAlerts_reported s).sequenced.ms

@[simp] theorem refreshAlerts_running (s : State)  :
    s.refreshAlerts.running = s.running := (refreshAlerts_reported s).sequenced.running

@[simp] theorem refreshAlerts_tables? (s : State) (f : Face) :
    s.refreshAlerts.tables? f = s.tables? f := (refreshAlerts_reported s).sequenced.tables? f

@[simp] theorem refreshAlerts_params? (s : State) (f : Face) :
    s.refreshAlerts.params? f = s.params? f := (refreshAlerts_reported s).sequenced.params? f

@[simp] theorem refreshAlerts_configured (s : State) (f : Face) :
    s.refreshAlerts.configured f = s.configured f := (refreshAlerts_reported s).sequenced.configured f

@[simp] theorem joinNotice_ms (s : State) (c : Scope) (k : EventKind) :
   (s.joinNotice c k).ms = s.ms := (joinNotice_reported s c k).sequenced.ms

@[simp] theorem joinNotice_running (s : State) (c : Scope) (k : EventKind) :
   (s.joinNotice c k).running = s.running := (joinNotice_reported s c k).sequenced.running

@[simp] theorem joinNotice_tables? (s : State) (c : Scope) (k : EventKind) (f : Face) :
   (s.joinNotice c k).tables? f = s.tables? f := (joinNotice_reported s c k).sequenced.tables? f

@[simp] theorem joinNotice_params? (s : State) (c : Scope) (k : EventKind) (f : Face) :
   (s.joinNotice c k).params? f = s.params? f := (joinNotice_reported s c k).sequenced.params? f

@[simp] theorem joinNotice_configured (s : State) (c : Scope) (k : EventKind) (f : Face) :
   (s.joinNotice c k).configured f = s.configured f := (joinNotice_reported s c k).sequenced.configured f

@[simp] theorem raise_ms (s : State) (c : Scope) (k : EventKind) :
   (s.raise c k).ms = s.ms := (raise_reported s c k).sequenced.ms

@[simp] theorem raise_running (s : State) (c : Scope) (k : EventKind) :
   (s.raise c k).running = s.running := (raise_reported s c k).sequenced.running

@[simp] theorem raise_tables? (s : State) (c : Scope) (k : EventKind) (f : Face) :
   (s.raise c k).tables? f = s.tables? f := (raise_reported s c k).sequenced.tables? f

@[simp] theorem raise_params? (s : State) (c : Scope) (k : EventKind) (f : Face) :
   (s.raise c k).params? f = s.params? f := (raise_reported s c k).sequenced.params? f

@[simp] theorem raise_configured (s : State) (c : Scope) (k : EventKind) (f : Face) :
   (s.raise c k).configured f = s.configured f := (raise_reported s c k).sequenced.configured f

@[simp] theorem raiseFace_ms (s : State) (g : Face) (k : EventKind) :
   (s.raiseFace g k).ms = s.ms := (raiseFace_reported s g k).sequenced.ms

@[simp] theorem raiseFace_running (s : State) (g : Face) (k : EventKind) :
   (s.raiseFace g k).running = s.running := (raiseFace_reported s g k).sequenced.running

@[simp] theorem raiseFace_tables? (s : State) (g : Face) (k : EventKind) (f : Face) :
   (s.raiseFace g k).tables? f = s.tables? f := (raiseFace_reported s g k).sequenced.tables? f

@[simp] theorem raiseFace_params? (s : State) (g : Face) (k : EventKind) (f : Face) :
   (s.raiseFace g k).params? f = s.params? f := (raiseFace_reported s g k).sequenced.params? f

@[simp] theorem raiseFace_configured (s : State) (g : Face) (k : EventKind) (f : Face) :
   (s.raiseFace g k).configured f = s.configured f := (raiseFace_reported s g k).sequenced.configured f

@[simp] theorem raiseDevice_ms (s : State) (k : EventKind) :
   (s.raiseDevice k).ms = s.ms := (raiseDevice_reported s k).sequenced.ms

@[simp] theorem raiseDevice_running (s : State) (k : EventKind) :
   (s.raiseDevice k).running = s.running := (raiseDevice_reported s k).sequenced.running

@[simp] theorem raiseDevice_tables? (s : State) (k : EventKind) (f : Face) :
   (s.raiseDevice k).tables? f = s.tables? f := (raiseDevice_reported s k).sequenced.tables? f

@[simp] theorem raiseDevice_params? (s : State) (k : EventKind) (f : Face) :
   (s.raiseDevice k).params? f = s.params? f := (raiseDevice_reported s k).sequenced.params? f

@[simp] theorem raiseDevice_configured (s : State) (k : EventKind) (f : Face) :
   (s.raiseDevice k).configured f = s.configured f := (raiseDevice_reported s k).sequenced.configured f

@[simp] theorem decide_ms (s : State) (g : Face) :
   (s.decide g).ms = s.ms := (decide_reported s g).sequenced.ms

@[simp] theorem decide_running (s : State) (g : Face) :
   (s.decide g).running = s.running := (decide_reported s g).sequenced.running

@[simp] theorem decide_tables? (s : State) (g : Face) (f : Face) :
   (s.decide g).tables? f = s.tables? f := (decide_reported s g).sequenced.tables? f

@[simp] theorem decide_params? (s : State) (g : Face) (f : Face) :
   (s.decide g).params? f = s.params? f := (decide_reported s g).sequenced.params? f

@[simp] theorem decide_configured (s : State) (g : Face) (f : Face) :
   (s.decide g).configured f = s.configured f := (decide_reported s g).sequenced.configured f

@[simp] theorem formSets_ms (s : State) (g : Face) :
   (s.formSets g).ms = s.ms := (formSets_reported s g).sequenced.ms

@[simp] theorem formSets_running (s : State) (g : Face) :
   (s.formSets g).running = s.running := (formSets_reported s g).sequenced.running

@[simp] theorem formSets_tables? (s : State) (g : Face) (f : Face) :
   (s.formSets g).tables? f = s.tables? f := (formSets_reported s g).sequenced.tables? f

@[simp] theorem formSets_params? (s : State) (g : Face) (f : Face) :
   (s.formSets g).params? f = s.params? f := (formSets_reported s g).sequenced.params? f

@[simp] theorem formSets_configured (s : State) (g : Face) (f : Face) :
   (s.formSets g).configured f = s.configured f := (formSets_reported s g).sequenced.configured f

@[simp] theorem setActive_ms (s : State) (g : Face) (c : ConditionSet) :
   (s.setActive g c).ms = s.ms := (setActive_reported s g c).sequenced.ms

@[simp] theorem setActive_running (s : State) (g : Face) (c : ConditionSet) :
   (s.setActive g c).running = s.running := (setActive_reported s g c).sequenced.running

@[simp] theorem setActive_tables? (s : State) (g : Face) (c : ConditionSet) (f : Face) :
   (s.setActive g c).tables? f = s.tables? f := (setActive_reported s g c).sequenced.tables? f

@[simp] theorem setActive_params? (s : State) (g : Face) (c : ConditionSet) (f : Face) :
   (s.setActive g c).params? f = s.params? f := (setActive_reported s g c).sequenced.params? f

@[simp] theorem setActive_configured (s : State) (g : Face) (c : ConditionSet) (f : Face) :
   (s.setActive g c).configured f = s.configured f := (setActive_reported s g c).sequenced.configured f

@[simp] theorem setCondition_ms (s : State) (g : Face) (c : Condition) (on : Bool) :
   (s.setCondition g c on).ms = s.ms := (setCondition_reported s g c on).sequenced.ms

@[simp] theorem setCondition_running (s : State) (g : Face) (c : Condition) (on : Bool) :
   (s.setCondition g c on).running = s.running := (setCondition_reported s g c on).sequenced.running

@[simp] theorem setCondition_tables? (s : State) (g : Face) (c : Condition) (on : Bool) (f : Face) :
   (s.setCondition g c on).tables? f = s.tables? f := (setCondition_reported s g c on).sequenced.tables? f

@[simp] theorem setCondition_params? (s : State) (g : Face) (c : Condition) (on : Bool) (f : Face) :
   (s.setCondition g c on).params? f = s.params? f := (setCondition_reported s g c on).sequenced.params? f

@[simp] theorem setCondition_configured (s : State) (g : Face) (c : Condition) (on : Bool) (f : Face) :
   (s.setCondition g c on).configured f = s.configured f := (setCondition_reported s g c on).sequenced.configured f

@[simp] theorem doorsHandOn_ms (s : State) (g : Face) :
   (s.doorsHandOn g).ms = s.ms := (doorsHandOn_reported s g).sequenced.ms

@[simp] theorem doorsHandOn_running (s : State) (g : Face) :
   (s.doorsHandOn g).running = s.running := (doorsHandOn_reported s g).sequenced.running

@[simp] theorem doorsHandOn_tables? (s : State) (g : Face) (f : Face) :
   (s.doorsHandOn g).tables? f = s.tables? f := (doorsHandOn_reported s g).sequenced.tables? f

@[simp] theorem doorsHandOn_params? (s : State) (g : Face) (f : Face) :
   (s.doorsHandOn g).params? f = s.params? f := (doorsHandOn_reported s g).sequenced.params? f

@[simp] theorem doorsHandOn_configured (s : State) (g : Face) (f : Face) :
   (s.doorsHandOn g).configured f = s.configured f := (doorsHandOn_reported s g).sequenced.configured f

@[simp] theorem activate_ms (s : State) (g : Face) (c : Condition) (k : EventKind) :
   (s.activate g c k).ms = s.ms := (activate_reported s g c k).sequenced.ms

@[simp] theorem activate_running (s : State) (g : Face) (c : Condition) (k : EventKind) :
   (s.activate g c k).running = s.running := (activate_reported s g c k).sequenced.running

@[simp] theorem activate_tables? (s : State) (g : Face) (c : Condition) (k : EventKind) (f : Face) :
   (s.activate g c k).tables? f = s.tables? f := (activate_reported s g c k).sequenced.tables? f

@[simp] theorem activate_params? (s : State) (g : Face) (c : Condition) (k : EventKind) (f : Face) :
   (s.activate g c k).params? f = s.params? f := (activate_reported s g c k).sequenced.params? f

@[simp] theorem activate_configured (s : State) (g : Face) (c : Condition) (k : EventKind) (f : Face) :
   (s.activate g c k).configured f = s.configured f := (activate_reported s g c k).sequenced.configured f

@[simp] theorem raiseAll_ms (s : State) (g : Face) (l : List EventKind) :
   (s.raiseAll g l).ms = s.ms := (raiseAll_reported s g l).sequenced.ms

@[simp] theorem raiseAll_running (s : State) (g : Face) (l : List EventKind) :
   (s.raiseAll g l).running = s.running := (raiseAll_reported s g l).sequenced.running

@[simp] theorem raiseAll_tables? (s : State) (g : Face) (l : List EventKind) (f : Face) :
   (s.raiseAll g l).tables? f = s.tables? f := (raiseAll_reported s g l).sequenced.tables? f

@[simp] theorem raiseAll_params? (s : State) (g : Face) (l : List EventKind) (f : Face) :
   (s.raiseAll g l).params? f = s.params? f := (raiseAll_reported s g l).sequenced.params? f

@[simp] theorem raiseAll_configured (s : State) (g : Face) (l : List EventKind) (f : Face) :
   (s.raiseAll g l).configured f = s.configured f := (raiseAll_reported s g l).sequenced.configured f

end State

end Sys2Proof.Machine
end

