-- ==== Sys2Proof/Laws/Doors.lean ====
section
/-! SUPPORT. The door records and release records after the Door Sequencer's operations: one event of one door, and one event for
each of a face's doors. -/

namespace Sys2Proof.Machine

namespace State

/-! ### Door records -/

@[simp] theorem setRelease_doors (s : State) (f h : Face) (st : ReleaseState) :
    ((s.setRelease f st).face h).doors = (s.face h).doors := by simp [setRelease]

@[simp] theorem takeLatch_doors (s : State) (f h : Face) (n : Nat) : ((s.takeLatch f n).face h).doors = (s.face h).doors := by
  unfold takeLatch
  split <;> simp

@[simp] theorem takeReport_doors (s : State) (f h : Face) (n : Nat) (r : DoorReport) :
    ((s.takeReport f n r).face h).doors = (s.face h).doors := by
  cases r <;> simp [takeReport]

@[simp] theorem takeReports_doors (s : State) (f h : Face) (n : Nat) (l : List DoorReport) :
    ((s.takeReports f n l).face h).doors = (s.face h).doors := by
  unfold takeReports
  induction l generalizing s with
  | nil => rfl
  | cons r rest ih => exact (ih _).trans (takeReport_doors s f h n r)

theorem putDoor_doors (s : State) (f : Face) (n : Nat) (d : Door) :
    ((s.putDoor f n d).face f).doors = (s.face f).doors.map fun x => if x.number = n then d else x := by simp [putDoor]

theorem putDoor_release (s : State) (f h : Face) (n : Nat) (d : Door) :
    ((s.putDoor f n d).face h).release = (s.face h).release := by simp [putDoor]

/-- The doors after one event of one door. -/
theorem applyDoor_doors (s : State) (f : Face) (n : Nat) (g : DoorContext → Door → DoorOutcome) (d : Door)
    (hd : s.findDoor f n = some d) :
    ((s.applyDoor f n g).face f).doors =
      (s.face f).doors.map fun x => if x.number = n then (g (s.doorContext f n) d).door else x := by
  simp [applyDoor, hd, putDoor_doors]

/-- An event of a door that no record has changes nothing. -/
theorem applyDoor_absent (s : State) (f : Face) (n : Nat) (g : DoorContext → Door → DoorOutcome)
    (hd : s.findDoor f n = none) : s.applyDoor f n g = s := by simp [applyDoor, hd]

/-- The other face's doors after an event of one door. -/
theorem applyDoor_doors_ne (s : State) {f h : Face} (hn : h ≠ f) (n : Nat) (g : DoorContext → Door → DoorOutcome) :
    ((s.applyDoor f n g).face h).doors = (s.face h).doors := by
  unfold applyDoor
  split
  · rfl
  · simp [putDoor, modDoors_face_ne s hn]

/-! ### Release records -/

/-- The release record after the Release Supervisor has taken a report (R132, R134). -/
def releaseAfter (r : Release) (n : Nat) : DoorReport → Release
  | .latchSet =>
    { r with seq := r.seq + 1, set := setMark n true false r.set
             state := if r.state = .normal ∨ r.state = .restoring then .released else r.state }
  | .evacSet => { r with set := setMark n false true r.set }
  | .latchCleared => { r with set := clearMark n true false r.set }
  | .evacCleared => { r with set := clearMark n false true r.set }

theorem setRelease_release (s : State) (f : Face) (st : ReleaseState) :
    ((s.setRelease f st).face f).release = { (s.face f).release with state := st } := by simp [setRelease]

theorem setRelease_release_ne (s : State) {f h : Face} (hn : h ≠ f) (st : ReleaseState) :
    ((s.setRelease f st).face h).release = (s.face h).release := by simp [setRelease, modRelease_face_ne s hn]

/-- A report taken: the release record becomes `releaseAfter`. -/
theorem takeReport_release (s : State) (f : Face) (n : Nat) (r : DoorReport) :
    ((s.takeReport f n r).face f).release = releaseAfter (s.face f).release n r := by
  cases r
  · simp only [takeReport, takeLatch, releaseAfter, raiseFace_release]
    split <;> simp_all [setRelease_release]
  all_goals simp [takeReport, releaseAfter]

theorem takeReport_release_ne (s : State) {f h : Face} (hn : h ≠ f) (n : Nat) (r : DoorReport) :
    ((s.takeReport f n r).face h).release = (s.face h).release := by
  cases r
  · simp only [takeReport, takeLatch, raiseFace_release]
    split <;> simp [setRelease_release_ne _ hn, modRelease_face_ne _ hn]
  all_goals simp [takeReport, modRelease_face_ne _ hn]

theorem takeReports_release (s : State) (f : Face) (n : Nat) (l : List DoorReport) :
    ((s.takeReports f n l).face f).release = l.foldl (fun r x => releaseAfter r n x) (s.face f).release := by
  unfold takeReports
  induction l generalizing s with
  | nil => rfl
  | cons r rest ih => simp only [List.foldl_cons]; rw [ih, takeReport_release]

theorem takeReports_release_ne (s : State) {f h : Face} (hn : h ≠ f) (n : Nat) (l : List DoorReport) :
    ((s.takeReports f n l).face h).release = (s.face h).release := by
  unfold takeReports
  induction l generalizing s with
  | nil => rfl
  | cons r rest ih => exact (ih _).trans (takeReport_release_ne s hn n r)

/-- The reports of an outcome in the order in which they are taken: marks set, then marks cleared (R132). -/
def inOrder (l : List DoorReport) : List DoorReport := l.filter (fun r => !r.clears) ++ l.filter fun r => r.clears

/-- The release record after one event of one door. -/
theorem applyDoor_release (s : State) (f : Face) (n : Nat) (g : DoorContext → Door → DoorOutcome) (d : Door)
    (hd : s.findDoor f n = some d) :
    ((s.applyDoor f n g).face f).release =
      (inOrder (g (s.doorContext f n) d).reports).foldl (fun r x => releaseAfter r n x) (s.face f).release := by
  simp [applyDoor, hd, takeReports_release, putDoor_release, inOrder, List.foldl_append]

theorem applyDoor_release_ne (s : State) {f h : Face} (hn : h ≠ f) (n : Nat) (g : DoorContext → Door → DoorOutcome) :
    ((s.applyDoor f n g).face h).release = (s.face h).release := by
  unfold applyDoor
  split
  · rfl
  · simp [takeReports_release_ne _ hn, putDoor_release]

/-- An event that reports nothing leaves every release record. -/
theorem applyDoor_release_quiet (s : State) (f h : Face) (n : Nat) (g : DoorContext → Door → DoorOutcome)
    (hq : ∀ c d, (g c d).reports = []) : ((s.applyDoor f n g).face h).release = (s.face h).release := by
  by_cases hn : h = f
  · subst hn
    cases hd : s.findDoor h n with
    | none => rw [applyDoor_absent _ _ _ _ hd]
    | some d => rw [applyDoor_release _ _ _ _ d hd, hq]; rfl
  · exact applyDoor_release_ne s hn n g

theorem releaseAfter_state {r : Release} {n : Nat} {x : DoorReport} (hx : x ≠ .latchSet) :
    (releaseAfter r n x).state = r.state := by
  cases x <;> first | exact absurd rfl hx | rfl

theorem foldl_releaseAfter_state (l : List DoorReport) (r : Release) (n : Nat) (hl : .latchSet ∉ l) :
    (l.foldl (fun r x => releaseAfter r n x) r).state = r.state := by
  induction l generalizing r with
  | nil => rfl
  | cons x rest ih =>
    simp only [List.mem_cons, not_or] at hl
    simp only [List.foldl_cons]
    rw [ih _ hl.2, releaseAfter_state (Ne.symm hl.1)]

/-- An event that latches no door leaves the release state. -/
theorem applyDoor_releaseState (s : State) (f h : Face) (n : Nat) (g : DoorContext → Door → DoorOutcome)
    (hq : ∀ c d, DoorReport.latchSet ∉ (g c d).reports) :
    ((s.applyDoor f n g).face h).release.state = (s.face h).release.state := by
  by_cases hn : h = f
  · subst hn
    cases hd : s.findDoor h n with
    | none => rw [applyDoor_absent _ _ _ _ hd]
    | some d =>
      rw [applyDoor_release _ _ _ _ d hd]
      refine foldl_releaseAfter_state _ _ _ ?_
      simp [inOrder, hq]
  · rw [applyDoor_release_ne s hn n g]

/-! ### Finding a door, and the context of its rules -/

theorem findDoor_some {s : State} {f : Face} {n : Nat} {d : Door} (h : s.findDoor f n = some d) :
    d ∈ (s.face f).doors ∧ d.number = n := by
  unfold findDoor at h
  exact ⟨List.mem_of_find?_eq_some h, by simpa using List.find?_some h⟩

theorem findDoor_none {s : State} {f : Face} {n : Nat} (h : s.findDoor f n = none) : ∀ d ∈ (s.face f).doors, d.number ≠ n := by
  unfold findDoor at h
  simpa [List.find?_eq_none] using h

/-- Where no two records share a number, a door is found by its number. -/
theorem findDoor_of_mem {s : State} {f : Face} {d : Door} (hn : ((s.face f).doors.map fun d => d.number).Nodup)
    (hd : d ∈ (s.face f).doors) : s.findDoor f d.number = some d := by
  cases h : s.findDoor f d.number with
  | none => exact absurd rfl (findDoor_none h d hd)
  | some e =>
    obtain ⟨he, hne⟩ := findDoor_some h
    rw [List.inj_on_of_nodup_map hn he hd hne]

/-- The context of a door's rules depends on time, parameters, counter clear, release state and zones alone. -/
theorem doorContext_congr {s u : State} (f : Face) (n : Nat) (h : Sequenced s u)
    (hr : (u.face f).release.state = (s.face f).release.state) : u.doorContext f n = s.doorContext f n := by
  simp only [doorContext, h.ms, h.params?, h.lif_clearing, h.gap, hr]

/-! ### One event for each of a face's doors -/

/-- A rule for a door that keeps the door's number and latches nothing. -/
structure Steady (g : DoorContext → Door → DoorOutcome) : Prop where
  number : ∀ c d, (g c d).door.number = d.number
  quiet : ∀ c d, DoorReport.latchSet ∉ (g c d).reports

theorem applyDoor_numbers (s : State) (f : Face) (n : Nat) (g : DoorContext → Door → DoorOutcome)
    (hg : ∀ c d, (g c d).door.number = d.number) (h : Face) :
    ((s.applyDoor f n g).face h).doors.map (fun d => d.number) = (s.face h).doors.map fun d => d.number := by
  by_cases hn : h = f
  · subst hn
    cases hd : s.findDoor h n with
    | none => rw [applyDoor_absent _ _ _ _ hd]
    | some d =>
      rw [applyDoor_doors _ _ _ _ d hd, List.map_map]
      refine List.map_congr_left fun x _ => ?_
      simp only [Function.comp]
      split
      · rw [hg, (findDoor_some hd).2]; exact Eq.symm ‹_›
      · rfl
  · rw [applyDoor_doors_ne s hn]

theorem foldl_applyDoor_doors (g : DoorContext → Door → DoorOutcome) (hg : Steady g) (f : Face) (ns : List Nat) (s : State)
    (hn : ((s.face f).doors.map fun d => d.number).Nodup) (hns : ns.Nodup) :
    ((ns.foldl (fun s n => s.applyDoor f n g) s).face f).doors =
      (s.face f).doors.map fun d => if d.number ∈ ns then (g (s.doorContext f d.number) d).door else d := by
  induction ns generalizing s with
  | nil => simp
  | cons n rest ih =>
    obtain ⟨hnr, hrest⟩ := List.nodup_cons.mp hns
    simp only [List.foldl_cons]
    rw [ih (s.applyDoor f n g) (by rw [applyDoor_numbers s f n g hg.number]; exact hn) hrest]
    have hctx : ∀ m, (s.applyDoor f n g).doorContext f m = s.doorContext f m := fun m =>
      doorContext_congr f m (applyDoor_sequenced s f n g) (applyDoor_releaseState s f f n g hg.quiet)
    simp only [hctx]
    cases hd : s.findDoor f n with
    | none =>
      rw [applyDoor_absent _ _ _ _ hd]
      refine List.map_congr_left fun d hm => ?_
      simp [findDoor_none hd d hm]
    | some d =>
      rw [applyDoor_doors _ _ _ _ d hd, List.map_map]
      refine List.map_congr_left fun x hx => ?_
      simp only [Function.comp]
      by_cases hxn : x.number = n
      · have hxd : x = d := by
          have := findDoor_of_mem hn hx
          rw [hxn, hd] at this
          exact (Option.some.inj this).symm
        subst hxd
        simp [hxn, hg.number, hnr]
      · simp [hxn]

/-- The doors after one event for each door that passes a test. -/
theorem applyDoors_doors (s : State) (f : Face) (p : Door → Bool) (g : DoorContext → Door → DoorOutcome) (hg : Steady g)
    (hn : ((s.face f).doors.map fun d => d.number).Nodup) :
    ((s.applyDoors f p g).face f).doors =
      (s.face f).doors.map fun d => if p d then (g (s.doorContext f d.number) d).door else d := by
  unfold applyDoors
  rw [foldl_applyDoor_doors g hg f _ s hn (by
    exact (List.filter_sublist.map _).nodup hn)]
  refine List.map_congr_left fun d hd => ?_
  have : (d.number ∈ ((s.face f).doors.filter p).map fun d => d.number) ↔ p d = true := by
    constructor
    · intro h
      obtain ⟨e, he, hne⟩ := List.mem_map.mp h
      obtain ⟨he, hpe⟩ := List.mem_filter.mp he
      rwa [← List.inj_on_of_nodup_map hn he hd hne]
    · intro h
      exact List.mem_map.mpr ⟨d, List.mem_filter.mpr ⟨hd, h⟩, rfl⟩
  by_cases hp : p d = true <;> simp [this, hp]

theorem applyDoors_doors_ne (s : State) {f h : Face} (hn : h ≠ f) (p : Door → Bool) (g : DoorContext → Door → DoorOutcome) :
    ((s.applyDoors f p g).face h).doors = (s.face h).doors := by
  unfold applyDoors
  generalize ((s.face f).doors.filter p).map (fun d => d.number) = ns
  induction ns generalizing s with
  | nil => rfl
  | cons n rest ih => exact (ih _).trans (applyDoor_doors_ne s hn n g)

/-- One event for each door leaves the release records where no event reports anything. -/
theorem applyDoors_release (s : State) (f h : Face) (p : Door → Bool) (g : DoorContext → Door → DoorOutcome)
    (hq : ∀ c d, (g c d).reports = []) : ((s.applyDoors f p g).face h).release = (s.face h).release := by
  unfold applyDoors
  generalize ((s.face f).doors.filter p).map (fun d => d.number) = ns
  induction ns generalizing s with
  | nil => rfl
  | cons n rest ih => exact (ih _).trans (applyDoor_release_quiet s f h n g hq)

theorem applyDoors_release_ne (s : State) {f h : Face} (hn : h ≠ f) (p : Door → Bool) (g : DoorContext → Door → DoorOutcome) :
    ((s.applyDoors f p g).face h).release = (s.face h).release := by
  unfold applyDoors
  generalize ((s.face f).doors.filter p).map (fun d => d.number) = ns
  induction ns generalizing s with
  | nil => rfl
  | cons n rest ih => exact (ih _).trans (applyDoor_release_ne s hn n g)

end State

end Sys2Proof.Machine
end

