-- ==== Sys2Proof/Laws/Arbiter.lean ====
section
/-! SUPPORT. The transmit arbiter, the form of a step, and requests taken: what the arbiter leaves alone (everything but the frame
being sent and the lists that frames wait in), and what a command's step amounts to. -/

namespace Sys2Proof.Machine

/-- `u` differs from `s` at most in what the transmit arbiter writes: the frame being sent, the changed-proof list, notice records,
pending periodic telegrams, the rotation, the after-reset mark and the count of free values. -/
structure Arbitrated (s u : State) : Prop where
  powered : u.powered = s.powered
  resetPin : u.resetPin = s.resetPin
  now : u.now = s.now
  holds : u.holds = s.holds
  aln : u.aln = s.aln
  gap : u.gap = s.gap
  tbs : u.tbs = s.tbs
  pending : u.pending = s.pending
  berth : ∀ f, (u.face f).berth = (s.face f).berth
  doors : ∀ f, (u.face f).doors = (s.face f).doors
  deferral : ∀ f, (u.face f).deferral = (s.face f).deferral
  reports : ∀ f, (u.face f).reports = (s.face f).reports
  line : ∀ f, (u.face f).line = (s.face f).line
  release : ∀ f, (u.face f).release = (s.face f).release
  lif_intake : u.lif.intake = s.lif.intake
  lif_replies : u.lif.replies = s.lif.replies
  lif_flags : u.lif.flags = s.lif.flags
  lif_badCount : u.lif.badCount = s.lif.badCount
  lif_goodStreak : u.lif.goodStreak = s.lif.goodStreak
  lif_silence : u.lif.silence = s.lif.silence
  lif_degraded : u.lif.degraded = s.lif.degraded
  lif_resetCause : u.lif.resetCause = s.lif.resetCause
  lif_errorLimit : u.lif.errorLimit = s.lif.errorLimit
  lif_routes : u.lif.routes = s.lif.routes
  lif_uplinkErrors : u.lif.uplinkErrors = s.lif.uplinkErrors
  lif_framesDiscarded : u.lif.framesDiscarded = s.lif.framesDiscarded
  lif_requestsDropped : u.lif.requestsDropped = s.lif.requestsDropped
  lif_snapshot : u.lif.snapshot = s.lif.snapshot
  lif_preparing : u.lif.preparing = s.lif.preparing
  lif_clearing : u.lif.clearing = s.lif.clearing
  proof_held : ∀ f, (u.face f).proof.held = (s.face f).proof.held
  proof_blockers : ∀ f, (u.face f).proof.blockers = (s.face f).proof.blockers
  proof_active : ∀ f, (u.face f).proof.active = (s.face f).proof.active
  proof_withhold : ∀ f, (u.face f).proof.withhold = (s.face f).proof.withhold
  proof_holdClosed : ∀ f, (u.face f).proof.holdClosed = (s.face f).proof.holdClosed
  proof_stalledCount : ∀ f, (u.face f).proof.stalledCount = (s.face f).proof.stalledCount
  proof_heldCount : ∀ f, (u.face f).proof.heldCount = (s.face f).proof.heldCount
  proof_loopClosed : ∀ f, (u.face f).proof.loopClosed = (s.face f).proof.loopClosed
  proof_alertDriven : ∀ f, (u.face f).proof.alertDriven = (s.face f).proof.alertDriven
  proof_periodicAt : ∀ f, (u.face f).proof.periodicAt = (s.face f).proof.periodicAt
  proof_losses : ∀ f, (u.face f).proof.losses = (s.face f).proof.losses

theorem Arbitrated.refl (s : State) : Arbitrated s s := by
  constructor <;> intros <;> rfl

theorem Arbitrated.trans {s u v : State} (h : Arbitrated s u) (k : Arbitrated u v) : Arbitrated s v where
  powered := k.powered.trans h.powered
  resetPin := k.resetPin.trans h.resetPin
  now := k.now.trans h.now
  holds := k.holds.trans h.holds
  aln := k.aln.trans h.aln
  gap := k.gap.trans h.gap
  tbs := k.tbs.trans h.tbs
  pending := k.pending.trans h.pending
  berth := fun f => (k.berth f).trans (h.berth f)
  doors := fun f => (k.doors f).trans (h.doors f)
  deferral := fun f => (k.deferral f).trans (h.deferral f)
  reports := fun f => (k.reports f).trans (h.reports f)
  line := fun f => (k.line f).trans (h.line f)
  release := fun f => (k.release f).trans (h.release f)
  lif_intake := k.lif_intake.trans h.lif_intake
  lif_replies := k.lif_replies.trans h.lif_replies
  lif_flags := k.lif_flags.trans h.lif_flags
  lif_badCount := k.lif_badCount.trans h.lif_badCount
  lif_goodStreak := k.lif_goodStreak.trans h.lif_goodStreak
  lif_silence := k.lif_silence.trans h.lif_silence
  lif_degraded := k.lif_degraded.trans h.lif_degraded
  lif_resetCause := k.lif_resetCause.trans h.lif_resetCause
  lif_errorLimit := k.lif_errorLimit.trans h.lif_errorLimit
  lif_routes := k.lif_routes.trans h.lif_routes
  lif_uplinkErrors := k.lif_uplinkErrors.trans h.lif_uplinkErrors
  lif_framesDiscarded := k.lif_framesDiscarded.trans h.lif_framesDiscarded
  lif_requestsDropped := k.lif_requestsDropped.trans h.lif_requestsDropped
  lif_snapshot := k.lif_snapshot.trans h.lif_snapshot
  lif_preparing := k.lif_preparing.trans h.lif_preparing
  lif_clearing := k.lif_clearing.trans h.lif_clearing
  proof_held := fun f => (k.proof_held f).trans (h.proof_held f)
  proof_blockers := fun f => (k.proof_blockers f).trans (h.proof_blockers f)
  proof_active := fun f => (k.proof_active f).trans (h.proof_active f)
  proof_withhold := fun f => (k.proof_withhold f).trans (h.proof_withhold f)
  proof_holdClosed := fun f => (k.proof_holdClosed f).trans (h.proof_holdClosed f)
  proof_stalledCount := fun f => (k.proof_stalledCount f).trans (h.proof_stalledCount f)
  proof_heldCount := fun f => (k.proof_heldCount f).trans (h.proof_heldCount f)
  proof_loopClosed := fun f => (k.proof_loopClosed f).trans (h.proof_loopClosed f)
  proof_alertDriven := fun f => (k.proof_alertDriven f).trans (h.proof_alertDriven f)
  proof_periodicAt := fun f => (k.proof_periodicAt f).trans (h.proof_periodicAt f)
  proof_losses := fun f => (k.proof_losses f).trans (h.proof_losses f)

namespace State

theorem beginSending_arbitrated (s : State) (i : SendItem) (x : OutFrame) : Arbitrated s (s.beginSending i x) := by
  constructor <;> intros <;> rfl

theorem sendNotice_arbitrated (s : State) (c : Scope) : Arbitrated s (s.sendNotice c) := by
  constructor <;> intros <;> rfl

theorem sendPeriodic_arbitrated (s : State) (f : Face) : Arbitrated s (s.sendPeriodic f) := by
  unfold sendPeriodic
  split
  · exact .refl s
  · constructor <;> intros <;> (try rename_i h) <;> cases f <;> (try cases h) <;> rfl

/-- The arbiter writes nothing but what `Arbitrated` names. -/
theorem arbitrate_arbitrated (s : State) : Arbitrated s s.arbitrate := by
  unfold arbitrate
  split
  · exact .refl s
  · split
    · constructor <;> intros <;> rfl
    · constructor <;> intros <;> rfl
    · split
      · exact sendNotice_arbitrated s _
      · split
        · exact sendPeriodic_arbitrated s _
        · exact .refl s

@[simp] theorem arbitrate_powered (s : State) : s.arbitrate.powered = s.powered :=
  (arbitrate_arbitrated s).powered

@[simp] theorem arbitrate_resetPin (s : State) : s.arbitrate.resetPin = s.resetPin :=
  (arbitrate_arbitrated s).resetPin

@[simp] theorem arbitrate_now (s : State) : s.arbitrate.now = s.now :=
  (arbitrate_arbitrated s).now

@[simp] theorem arbitrate_holds (s : State) : s.arbitrate.holds = s.holds :=
  (arbitrate_arbitrated s).holds

@[simp] theorem arbitrate_aln (s : State) : s.arbitrate.aln = s.aln :=
  (arbitrate_arbitrated s).aln

@[simp] theorem arbitrate_gap (s : State) : s.arbitrate.gap = s.gap :=
  (arbitrate_arbitrated s).gap

@[simp] theorem arbitrate_tbs (s : State) : s.arbitrate.tbs = s.tbs :=
  (arbitrate_arbitrated s).tbs

@[simp] theorem arbitrate_pending (s : State) : s.arbitrate.pending = s.pending :=
  (arbitrate_arbitrated s).pending

@[simp] theorem arbitrate_berth (s : State) (f : Face) : (s.arbitrate.face f).berth = (s.face f).berth :=
  (arbitrate_arbitrated s).berth f

@[simp] theorem arbitrate_doors (s : State) (f : Face) : (s.arbitrate.face f).doors = (s.face f).doors :=
  (arbitrate_arbitrated s).doors f

@[simp] theorem arbitrate_deferral (s : State) (f : Face) : (s.arbitrate.face f).deferral = (s.face f).deferral :=
  (arbitrate_arbitrated s).deferral f

@[simp] theorem arbitrate_reports (s : State) (f : Face) : (s.arbitrate.face f).reports = (s.face f).reports :=
  (arbitrate_arbitrated s).reports f

@[simp] theorem arbitrate_line (s : State) (f : Face) : (s.arbitrate.face f).line = (s.face f).line :=
  (arbitrate_arbitrated s).line f

@[simp] theorem arbitrate_release (s : State) (f : Face) : (s.arbitrate.face f).release = (s.face f).release :=
  (arbitrate_arbitrated s).release f

@[simp] theorem arbitrate_lif_intake (s : State) : s.arbitrate.lif.intake = s.lif.intake :=
  (arbitrate_arbitrated s).lif_intake

@[simp] theorem arbitrate_lif_replies (s : State) : s.arbitrate.lif.replies = s.lif.replies :=
  (arbitrate_arbitrated s).lif_replies

@[simp] theorem arbitrate_lif_flags (s : State) : s.arbitrate.lif.flags = s.lif.flags :=
  (arbitrate_arbitrated s).lif_flags

@[simp] theorem arbitrate_lif_badCount (s : State) : s.arbitrate.lif.badCount = s.lif.badCount :=
  (arbitrate_arbitrated s).lif_badCount

@[simp] theorem arbitrate_lif_goodStreak (s : State) : s.arbitrate.lif.goodStreak = s.lif.goodStreak :=
  (arbitrate_arbitrated s).lif_goodStreak

@[simp] theorem arbitrate_lif_silence (s : State) : s.arbitrate.lif.silence = s.lif.silence :=
  (arbitrate_arbitrated s).lif_silence

@[simp] theorem arbitrate_lif_degraded (s : State) : s.arbitrate.lif.degraded = s.lif.degraded :=
  (arbitrate_arbitrated s).lif_degraded

@[simp] theorem arbitrate_lif_resetCause (s : State) : s.arbitrate.lif.resetCause = s.lif.resetCause :=
  (arbitrate_arbitrated s).lif_resetCause

@[simp] theorem arbitrate_lif_errorLimit (s : State) : s.arbitrate.lif.errorLimit = s.lif.errorLimit :=
  (arbitrate_arbitrated s).lif_errorLimit

@[simp] theorem arbitrate_lif_routes (s : State) : s.arbitrate.lif.routes = s.lif.routes :=
  (arbitrate_arbitrated s).lif_routes

@[simp] theorem arbitrate_lif_uplinkErrors (s : State) : s.arbitrate.lif.uplinkErrors = s.lif.uplinkErrors :=
  (arbitrate_arbitrated s).lif_uplinkErrors

@[simp] theorem arbitrate_lif_framesDiscarded (s : State) : s.arbitrate.lif.framesDiscarded = s.lif.framesDiscarded :=
  (arbitrate_arbitrated s).lif_framesDiscarded

@[simp] theorem arbitrate_lif_requestsDropped (s : State) : s.arbitrate.lif.requestsDropped = s.lif.requestsDropped :=
  (arbitrate_arbitrated s).lif_requestsDropped

@[simp] theorem arbitrate_lif_snapshot (s : State) : s.arbitrate.lif.snapshot = s.lif.snapshot :=
  (arbitrate_arbitrated s).lif_snapshot

@[simp] theorem arbitrate_lif_preparing (s : State) : s.arbitrate.lif.preparing = s.lif.preparing :=
  (arbitrate_arbitrated s).lif_preparing

@[simp] theorem arbitrate_lif_clearing (s : State) : s.arbitrate.lif.clearing = s.lif.clearing :=
  (arbitrate_arbitrated s).lif_clearing

@[simp] theorem arbitrate_proof_held (s : State) (f : Face) : (s.arbitrate.face f).proof.held = (s.face f).proof.held :=
  (arbitrate_arbitrated s).proof_held f

@[simp] theorem arbitrate_proof_blockers (s : State) (f : Face) : (s.arbitrate.face f).proof.blockers = (s.face f).proof.blockers :=
  (arbitrate_arbitrated s).proof_blockers f

@[simp] theorem arbitrate_proof_active (s : State) (f : Face) : (s.arbitrate.face f).proof.active = (s.face f).proof.active :=
  (arbitrate_arbitrated s).proof_active f

@[simp] theorem arbitrate_proof_withhold (s : State) (f : Face) : (s.arbitrate.face f).proof.withhold = (s.face f).proof.withhold :=
  (arbitrate_arbitrated s).proof_withhold f

@[simp] theorem arbitrate_proof_holdClosed (s : State) (f : Face) : (s.arbitrate.face f).proof.holdClosed = (s.face f).proof.holdClosed :=
  (arbitrate_arbitrated s).proof_holdClosed f

@[simp] theorem arbitrate_proof_stalledCount (s : State) (f : Face) : (s.arbitrate.face f).proof.stalledCount = (s.face f).proof.stalledCount :=
  (arbitrate_arbitrated s).proof_stalledCount f

@[simp] theorem arbitrate_proof_heldCount (s : State) (f : Face) : (s.arbitrate.face f).proof.heldCount = (s.face f).proof.heldCount :=
  (arbitrate_arbitrated s).proof_heldCount f

@[simp] theorem arbitrate_proof_loopClosed (s : State) (f : Face) : (s.arbitrate.face f).proof.loopClosed = (s.face f).proof.loopClosed :=
  (arbitrate_arbitrated s).proof_loopClosed f

@[simp] theorem arbitrate_proof_alertDriven (s : State) (f : Face) : (s.arbitrate.face f).proof.alertDriven = (s.face f).proof.alertDriven :=
  (arbitrate_arbitrated s).proof_alertDriven f

@[simp] theorem arbitrate_proof_periodicAt (s : State) (f : Face) : (s.arbitrate.face f).proof.periodicAt = (s.face f).proof.periodicAt :=
  (arbitrate_arbitrated s).proof_periodicAt f

@[simp] theorem arbitrate_proof_losses (s : State) (f : Face) : (s.arbitrate.face f).proof.losses = (s.face f).proof.losses :=
  (arbitrate_arbitrated s).proof_losses f

@[simp] theorem arbitrate_ms (s : State) : s.arbitrate.ms = s.ms := by simp only [ms, arbitrate_now]

@[simp] theorem arbitrate_running (s : State) : s.arbitrate.running = s.running := by simp only [running, arbitrate_powered, arbitrate_resetPin]

@[simp] theorem arbitrate_tables? (s : State) (f : Face) : s.arbitrate.tables? f = s.tables? f := by simp only [tables?, arbitrate_tbs]

@[simp] theorem arbitrate_params? (s : State) (f : Face) : s.arbitrate.params? f = s.params? f := by simp only [params?, tables?, arbitrate_tbs]

@[simp] theorem arbitrate_configured (s : State) (f : Face) : s.arbitrate.configured f = s.configured f := by simp only [configured, params?, tables?, arbitrate_tbs]

@[simp] theorem arbitrate_faceEntries (s : State) (f : Face) : s.arbitrate.faceEntries f = s.faceEntries f := by simp only [faceEntries, params?, tables?, arbitrate_tbs]

@[simp] theorem arbitrate_bump (s : State) (c : Counter) : s.arbitrate.bump c = s.bump c := by simp only [bump, arbitrate_lif_clearing]

@[simp] theorem arbitrate_findDoor (s : State) (f : Face) (n : Nat) : s.arbitrate.findDoor f n = s.findDoor f n := by simp only [findDoor, arbitrate_doors]

@[simp] theorem arbitrate_findDrop (s : State) (f : Face) (n : Nat) : s.arbitrate.findDrop f n = s.findDrop f n := by simp only [findDrop, arbitrate_doors]

@[simp] theorem arbitrate_timedRequests (s : State) : s.arbitrate.timedRequests = s.timedRequests := by simp only [timedRequests, arbitrate_tbs, arbitrate_line, arbitrate_lif_preparing, arbitrate_lif_clearing]

@[simp] theorem arbitrate_doorContext (s : State) (f : Face) (n : Nat) : s.arbitrate.doorContext f n = s.doorContext f n := by simp only [doorContext, ms, params?, tables?, arbitrate_now, arbitrate_tbs, arbitrate_lif_clearing, arbitrate_release, arbitrate_gap]

@[simp] theorem arbitrate_due (s : State) (x : Option Millis) : s.arbitrate.due x = s.due x := by 
  cases x with
  | none => rfl
  | some e => unfold due ms; rw [arbitrate_now]

@[simp] theorem arbitrate_alignInput (s : State) (f : Face) : s.arbitrate.alignInput f = s.alignInput f := by simp only [alignInput, faceEntries, params?, tables?, arbitrate_tbs, arbitrate_berth]

@[simp] theorem arbitrate_heldBack (s : State) : s.arbitrate.heldBack = s.heldBack := by
  simp only [heldBack, arbitrate_lif_replies, arbitrate_timedRequests]

/-- The arbiter's step is invisible to the blocks. -/
@[simp] theorem arbitrate_blocks (s : State) : s.arbitrate.blocks = s.blocks := by
  have h := arbitrate_arbitrated s
  simp only [blocks, h.powered, h.resetPin, h.holds, h.aln, h.gap, h.tbs, h.pending, Blocks.mk.injEq, true_and, and_true]
  have (f : Face) : (s.arbitrate.face f).blocks = (s.face f).blocks := by
    simp only [FaceState.blocks, h.berth, h.doors, h.deferral, h.reports, h.line, h.release]
  simp only [PerFace.map, face_A, face_B, this]

/-- The time of a step, whatever it does. -/
theorem advance_ms (s : State) (t : Micros) : (s.advance t).ms = max s.now t / 1000 := rfl

/-- A step of a running part. -/
theorem event_running {s : State} (h : s.running = true) (t : Micros) (k : State → State) :
    s.event t k = (k (s.opened t)).arbitrate := by
  simp [event, opened, h]

/-- A step of a part that is unpowered or held in reset. -/
theorem event_idle {s : State} (h : s.running = false) (t : Micros) (k : State → State) : s.event t k = s.advance t := by
  simp [event, h]

@[simp] theorem opened_powered (s : State) (t : Micros) : (s.opened t).powered = s.powered := by simp [opened]

@[simp] theorem opened_resetPin (s : State) (t : Micros) : (s.opened t).resetPin = s.resetPin := by simp [opened]

@[simp] theorem opened_holds (s : State) (t : Micros) : (s.opened t).holds = s.holds := by simp [opened]

@[simp] theorem opened_aln (s : State) (t : Micros) : (s.opened t).aln = s.aln := by simp [opened]

@[simp] theorem opened_gap (s : State) (t : Micros) : (s.opened t).gap = s.gap := by simp [opened]

@[simp] theorem opened_tbs (s : State) (t : Micros) : (s.opened t).tbs = s.tbs := by simp [opened]

@[simp] theorem opened_pending (s : State) (t : Micros) : (s.opened t).pending = s.pending := by simp [opened]

@[simp] theorem opened_berth (s : State) (t : Micros) (f : Face) : ((s.opened t).face f).berth = (s.face f).berth := by simp [opened]

@[simp] theorem opened_doors (s : State) (t : Micros) (f : Face) : ((s.opened t).face f).doors = (s.face f).doors := by simp [opened]

@[simp] theorem opened_deferral (s : State) (t : Micros) (f : Face) : ((s.opened t).face f).deferral = (s.face f).deferral := by simp [opened]

@[simp] theorem opened_reports (s : State) (t : Micros) (f : Face) : ((s.opened t).face f).reports = (s.face f).reports := by simp [opened]

@[simp] theorem opened_line (s : State) (t : Micros) (f : Face) : ((s.opened t).face f).line = (s.face f).line := by simp [opened]

@[simp] theorem opened_release (s : State) (t : Micros) (f : Face) : ((s.opened t).face f).release = (s.face f).release := by simp [opened]

@[simp] theorem opened_lif_intake (s : State) (t : Micros) : (s.opened t).lif.intake = s.lif.intake := by simp [opened]

@[simp] theorem opened_lif_replies (s : State) (t : Micros) : (s.opened t).lif.replies = s.lif.replies := by simp [opened]

@[simp] theorem opened_lif_flags (s : State) (t : Micros) : (s.opened t).lif.flags = s.lif.flags := by simp [opened]

@[simp] theorem opened_lif_badCount (s : State) (t : Micros) : (s.opened t).lif.badCount = s.lif.badCount := by simp [opened]

@[simp] theorem opened_lif_goodStreak (s : State) (t : Micros) : (s.opened t).lif.goodStreak = s.lif.goodStreak := by simp [opened]

@[simp] theorem opened_lif_silence (s : State) (t : Micros) : (s.opened t).lif.silence = s.lif.silence := by simp [opened]

@[simp] theorem opened_lif_degraded (s : State) (t : Micros) : (s.opened t).lif.degraded = s.lif.degraded := by simp [opened]

@[simp] theorem opened_lif_resetCause (s : State) (t : Micros) : (s.opened t).lif.resetCause = s.lif.resetCause := by simp [opened]

@[simp] theorem opened_lif_errorLimit (s : State) (t : Micros) : (s.opened t).lif.errorLimit = s.lif.errorLimit := by simp [opened]

@[simp] theorem opened_lif_routes (s : State) (t : Micros) : (s.opened t).lif.routes = s.lif.routes := by simp [opened]

@[simp] theorem opened_lif_uplinkErrors (s : State) (t : Micros) : (s.opened t).lif.uplinkErrors = s.lif.uplinkErrors := by simp [opened]

@[simp] theorem opened_lif_framesDiscarded (s : State) (t : Micros) : (s.opened t).lif.framesDiscarded = s.lif.framesDiscarded := by simp [opened]

@[simp] theorem opened_lif_requestsDropped (s : State) (t : Micros) : (s.opened t).lif.requestsDropped = s.lif.requestsDropped := by simp [opened]

@[simp] theorem opened_lif_snapshot (s : State) (t : Micros) : (s.opened t).lif.snapshot = s.lif.snapshot := by simp [opened]

@[simp] theorem opened_lif_preparing (s : State) (t : Micros) : (s.opened t).lif.preparing = s.lif.preparing := by simp [opened]

@[simp] theorem opened_lif_clearing (s : State) (t : Micros) : (s.opened t).lif.clearing = s.lif.clearing := by simp [opened]

@[simp] theorem opened_proof_held (s : State) (t : Micros) (f : Face) : ((s.opened t).face f).proof.held = (s.face f).proof.held := by simp [opened]

@[simp] theorem opened_proof_blockers (s : State) (t : Micros) (f : Face) : ((s.opened t).face f).proof.blockers = (s.face f).proof.blockers := by simp [opened]

@[simp] theorem opened_proof_active (s : State) (t : Micros) (f : Face) : ((s.opened t).face f).proof.active = (s.face f).proof.active := by simp [opened]

@[simp] theorem opened_proof_withhold (s : State) (t : Micros) (f : Face) : ((s.opened t).face f).proof.withhold = (s.face f).proof.withhold := by simp [opened]

@[simp] theorem opened_proof_holdClosed (s : State) (t : Micros) (f : Face) : ((s.opened t).face f).proof.holdClosed = (s.face f).proof.holdClosed := by simp [opened]

@[simp] theorem opened_proof_stalledCount (s : State) (t : Micros) (f : Face) : ((s.opened t).face f).proof.stalledCount = (s.face f).proof.stalledCount := by simp [opened]

@[simp] theorem opened_proof_heldCount (s : State) (t : Micros) (f : Face) : ((s.opened t).face f).proof.heldCount = (s.face f).proof.heldCount := by simp [opened]

@[simp] theorem opened_proof_loopClosed (s : State) (t : Micros) (f : Face) : ((s.opened t).face f).proof.loopClosed = (s.face f).proof.loopClosed := by simp [opened]

@[simp] theorem opened_proof_alertDriven (s : State) (t : Micros) (f : Face) : ((s.opened t).face f).proof.alertDriven = (s.face f).proof.alertDriven := by simp [opened]

@[simp] theorem opened_proof_periodicAt (s : State) (t : Micros) (f : Face) : ((s.opened t).face f).proof.periodicAt = (s.face f).proof.periodicAt := by simp [opened]

@[simp] theorem opened_proof_losses (s : State) (t : Micros) (f : Face) : ((s.opened t).face f).proof.losses = (s.face f).proof.losses := by simp [opened]

@[simp] theorem opened_now (s : State) (t : Micros) : (s.opened t).now = max s.now t := by simp [opened]

theorem opened_ms (s : State) (t : Micros) : (s.opened t).ms = max s.now t / 1000 := by simp [ms]

@[simp] theorem opened_running (s : State) (t : Micros) : (s.opened t).running = s.running := by
  simp [running]

@[simp] theorem opened_tables? (s : State) (t : Micros) (f : Face) : (s.opened t).tables? f = s.tables? f := by
  simp [tables?]

@[simp] theorem opened_params? (s : State) (t : Micros) (f : Face) : (s.opened t).params? f = s.params? f := by
  simp [params?, tables?]

@[simp] theorem opened_configured (s : State) (t : Micros) (f : Face) : (s.opened t).configured f = s.configured f := by
  simp [configured, params?, tables?]

@[simp] theorem opened_faceEntries (s : State) (t : Micros) (f : Face) : (s.opened t).faceEntries f = s.faceEntries f := by
  simp [faceEntries, params?, tables?]

@[simp] theorem opened_bump (s : State) (t : Micros) (c : Counter) : (s.opened t).bump c = s.bump c := by
  simp [bump]

@[simp] theorem opened_findDoor (s : State) (t : Micros) (f : Face) (n : Nat) : (s.opened t).findDoor f n = s.findDoor f n := by
  simp [findDoor]

@[simp] theorem opened_findDrop (s : State) (t : Micros) (f : Face) (n : Nat) : (s.opened t).findDrop f n = s.findDrop f n := by
  simp [findDrop]

@[simp] theorem opened_timedRequests (s : State) (t : Micros) : (s.opened t).timedRequests = s.timedRequests := by
  simp [timedRequests]

@[simp] theorem opened_alignInput (s : State) (t : Micros) (f : Face) : (s.opened t).alignInput f = s.alignInput f := by
  simp [alignInput, faceEntries, params?, tables?]

@[simp] theorem opened_heldBack (s : State) (t : Micros) : (s.opened t).heldBack = s.heldBack := by simp [heldBack]

@[simp] theorem opened_blocks (s : State) (t : Micros) : (s.opened t).blocks = s.blocks := by
  simp only [opened, arbitrate_blocks]
  rfl

/-- A request taken in a running part: it leaves the queue and its meaning carries it out, between the arbiter's two acts. -/
theorem event_takes {s : State} {r : Request} {rest : List Request} {k : Option RequestKind} (h : Takes s r rest k) (t : Micros)
    (g : Request → State → State) :
    s.event t (fun s => s.takeRequest k g) =
      (g r ((s.opened t).modLif fun l => { l with intake := rest })).arbitrate := by
  obtain ⟨hr, hi, hk, hb⟩ := h
  rw [event_running hr]
  simp [takeRequest, hi, hk, hb]

end State

end Sys2Proof.Machine
end

