-- ==== Sys2Proof/Laws/Uplink.lean ====
section
/-! SUPPORT. The active conditions, the flags and the uplink's health after the operations that change them. -/

namespace Sys2Proof.Machine

@[simp] theorem PerCondition.get_set_same {α : Type} (p : PerCondition α) (c : Condition) (x : α) : (p.set c x).get c = x := by
  cases c <;> rfl

@[simp] theorem PerScope.get_set_same {α : Type} (p : PerScope α) (c : Scope) (x : α) : (p.set c x).get c = x := by
  cases c with
  | device => rfl
  | face f => cases f <;> rfl

theorem PerScope.get_set_ne {α : Type} (p : PerScope α) {c d : Scope} (h : d ≠ c) (x : α) : (p.set c x).get d = p.get d := by
  cases c with
  | device => cases d with
    | device => exact absurd rfl h
    | face f => cases f <;> rfl
  | face f => cases d with
    | device => cases f <;> rfl
    | face g => cases f <;> cases g <;> first | rfl | exact absurd rfl h

@[simp] theorem mem_insertKind (k x : EventKind) (l : List EventKind) : x ∈ insertKind k l ↔ x = k ∨ x ∈ l := by
  induction l with
  | nil => simp [insertKind]
  | cons y ys ih =>
    unfold insertKind
    split
    · rename_i h; subst h; simp
    · split
      · simp
      · simp only [List.mem_cons, ih]; tauto

namespace State

theorem refreshAlerts_flags (s : State) : s.refreshAlerts.lif = s.lif := rfl

theorem joinNotice_flags (s : State) (c : Scope) (k : EventKind) : (s.joinNotice c k).lif.flags = s.lif.flags := by
  unfold joinNotice; split <;> rfl

theorem raise_flags (s : State) (c : Scope) (k : EventKind) :
    (s.raise c k).lif.flags = if k ∈ s.lif.flags.get c then s.lif.flags else s.lif.flags.set c (insertKind k (s.lif.flags.get c)) := by
  unfold raise
  split
  · rfl
  · simp [refreshAlerts_flags, joinNotice_flags]

/-- A raised kind's flag is set (R188). -/
theorem raise_flag (s : State) (c : Scope) (k : EventKind) : k ∈ (s.raise c k).lif.flags.get c := by
  rw [raise_flags]; split <;> simp_all

/-- A flag that is set stays set when another is raised. -/
theorem raise_keeps_flag (s : State) (c d : Scope) (k x : EventKind) (h : x ∈ s.lif.flags.get d) :
    x ∈ (s.raise c k).lif.flags.get d := by
  rw [raise_flags]
  split
  · exact h
  · by_cases hd : d = c
    · subst hd; simp [h]
    · rwa [PerScope.get_set_ne _ hd]

@[simp] theorem decide_flags (s : State) (f : Face) : (s.decide f).lif.flags = s.lif.flags := by
  unfold decide; dsimp only; split <;> rfl

@[simp] theorem setActive_flags (s : State) (f : Face) (c : ConditionSet) : (s.setActive f c).lif.flags = s.lif.flags := by
  unfold setActive; split <;> simp [formSets]

@[simp] theorem setCondition_flags (s : State) (f : Face) (c : Condition) (on : Bool) :
    (s.setCondition f c on).lif.flags = s.lif.flags := by
  unfold setCondition; split <;> simp

@[simp] theorem doorsHandOn_flags (s : State) (f : Face) : (s.doorsHandOn f).lif.flags = s.lif.flags := by
  simp [doorsHandOn]

/-! ### Active conditions -/

@[simp] theorem refreshAlerts_active (s : State) (f : Face) : (s.refreshAlerts.face f).proof.active = (s.face f).proof.active := by
  cases f <;> rfl

@[simp] theorem raise_active (s : State) (c : Scope) (k : EventKind) (f : Face) :
    ((s.raise c k).face f).proof.active = (s.face f).proof.active := by
  unfold raise
  split
  · rfl
  · unfold joinNotice; split <;> simp

theorem decide_active (s : State) (f g : Face) : ((s.decide f).face g).proof.active = (s.face g).proof.active := by
  unfold decide
  dsimp only
  split
  · obtain rfl | rfl := Face.eq_or_partner f g <;> simp [decidedProof]
  · obtain rfl | rfl := Face.eq_or_partner f g <;> simp [decidedProof]

theorem setActive_active (s : State) (f : Face) (c : ConditionSet) : ((s.setActive f c).face f).proof.active = c := by
  unfold setActive
  split
  · rw [decide_active]; assumption
  · rw [decide_active]; simp [formSets]

theorem setActive_active_ne (s : State) {f g : Face} (h : g ≠ f) (c : ConditionSet) :
    ((s.setActive f c).face g).proof.active = (s.face g).proof.active := by
  unfold setActive
  split
  · rw [decide_active]
  · rw [decide_active]; simp [formSets, modProof_face_ne s h, modProof_face_ne _ h]

/-- A condition handed to a face stands as it was handed (R157). -/
theorem setCondition_active (s : State) (f : Face) (c : Condition) (on : Bool) :
    ((s.setCondition f c on).face f).proof.active.get c = on := by
  unfold setCondition
  split
  · assumption
  · rw [setActive_active]; simp

theorem setCondition_active_ne (s : State) {f g : Face} (h : g ≠ f) (c : Condition) (on : Bool) :
    ((s.setCondition f c on).face g).proof.active = (s.face g).proof.active := by
  unfold setCondition
  split
  · rfl
  · exact setActive_active_ne s h _

/-! ### UPLINK_DEGRADED (R183) -/

theorem degrade_blocks (s : State) : Reported (s.modLif fun l => { l with degraded := true }) s.degrade ∨ s.degrade = s := by
  unfold degrade
  split
  · exact .inr rfl
  · exact .inl (((raiseDevice_reported _ _).trans (setCondition_reported _ .A _ _)).trans (setCondition_reported _ .B _ _))

/-- UPLINK_DEGRADED is active after `degrade`. -/
theorem degrade_degraded (s : State) : s.degrade.lif.degraded = true := by
  unfold degrade
  split
  · assumption
  · simp

/-- Where UPLINK_DEGRADED was inactive, `degrade` raises it and hands it to both faces. -/
theorem degrade_raises (s : State) (h : s.lif.degraded = false) :
    .uplinkDegraded ∈ s.degrade.lif.flags.device ∧ ∀ f, (s.degrade.face f).proof.active.uplinkDegraded = true := by
  unfold degrade
  rw [if_neg (by simp [h])]
  constructor
  · simp only [setCondition_flags]
    exact raise_flag _ .device .uplinkDegraded
  · intro f
    cases f
    · rw [setCondition_active_ne _ (by decide)]
      exact setCondition_active _ .A .uplinkDegraded true
    · exact setCondition_active _ .B .uplinkDegraded true

theorem recover_reported (s : State) : Reported (s.modLif fun l => { l with degraded := false }) s.recover :=
  (setCondition_reported _ .A _ _).trans (setCondition_reported _ .B _ _)

theorem recover_active (s : State) (f : Face) : (s.recover.face f).proof.active.uplinkDegraded = false := by
  unfold recover
  cases f
  · rw [setCondition_active_ne _ (by decide)]
    exact setCondition_active _ .A .uplinkDegraded false
  · exact setCondition_active _ .B .uplinkDegraded false

/-- What raising and deciding leave alone includes the blocks. -/
theorem reported_blocks {s u : State} (h : Reported s u) : u.blocks = s.blocks := by
  have (f : Face) : (u.face f).blocks = (s.face f).blocks := by
    simp only [FaceState.blocks, h.berth, h.doors, h.deferral, h.reports, h.line, h.release]
  simp only [blocks, h.powered, h.resetPin, h.holds, h.aln, h.gap, h.tbs, h.pending, PerFace.map, face_A, face_B, this]

end State

end Sys2Proof.Machine
end

