-- ==== Sys2Proof/Laws/Kept.lean ====
section
/-! SUPPORT. What no operation inside a step changes: the supply and the reset pin, the clock, and the queue of commands. -/

namespace Sys2Proof.Machine

/-- The supply, the pin, the clock and the queue of commands stand as they stood. -/
structure Kept (s u : State) : Prop where
  powered : u.powered = s.powered
  resetPin : u.resetPin = s.resetPin
  now : u.now = s.now
  pending : u.pending = s.pending

theorem Kept.refl (s : State) : Kept s s := ⟨rfl, rfl, rfl, rfl⟩

theorem Kept.trans {s u v : State} (h : Kept s u) (k : Kept u v) : Kept s v :=
  ⟨k.powered.trans h.powered, k.resetPin.trans h.resetPin, k.now.trans h.now, k.pending.trans h.pending⟩

theorem Kept.ite {s a b : State} {c : Prop} {_ : Decidable c} (h : Kept s a) (k : Kept s b) : Kept s (if c then a else b) := by
  split
  · exact h
  · exact k

theorem Kept.opt {s a : State} {c : Prop} {_ : Decidable c} (h : Kept s a) : Kept s (if c then a else s) := .ite h (.refl s)

theorem Sequenced.kept {s u : State} (h : Sequenced s u) : Kept s u := ⟨h.powered, h.resetPin, h.now, h.pending⟩

theorem Reported.kept {s u : State} (h : Reported s u) : Kept s u := h.sequenced.kept

theorem Arbitrated.kept {s u : State} (h : Arbitrated s u) : Kept s u := ⟨h.powered, h.resetPin, h.now, h.pending⟩

theorem Kept.ms {s u : State} (h : Kept s u) : u.ms = s.ms := by simp only [State.ms, h.now]

theorem Kept.running {s u : State} (h : Kept s u) : u.running = s.running := by
  simp only [State.running, h.powered, h.resetPin]

namespace State

theorem setFace_kept (s : State) (f : Face) (x : FaceState) : Kept s (s.setFace f x) := ⟨rfl, rfl, rfl, rfl⟩

theorem modBerth_kept (s : State) (f : Face) (g : Berth → Berth) : Kept s (s.modBerth f g) := ⟨rfl, rfl, rfl, rfl⟩

theorem modDoors_kept (s : State) (f : Face) (g : List Door → List Door) : Kept s (s.modDoors f g) := ⟨rfl, rfl, rfl, rfl⟩

theorem modDeferral_kept (s : State) (f : Face) (g : Deferral → Deferral) : Kept s (s.modDeferral f g) := ⟨rfl, rfl, rfl, rfl⟩

theorem modReports_kept (s : State) (f : Face) (g : List ObstructionReport → List ObstructionReport) :
    Kept s (s.modReports f g) := ⟨rfl, rfl, rfl, rfl⟩

theorem modLine_kept (s : State) (f : Face) (g : DoorLine → DoorLine) : Kept s (s.modLine f g) := ⟨rfl, rfl, rfl, rfl⟩

theorem modRelease_kept (s : State) (f : Face) (g : Release → Release) : Kept s (s.modRelease f g) := ⟨rfl, rfl, rfl, rfl⟩

theorem modProof_kept (s : State) (f : Face) (g : ProofRecord → ProofRecord) : Kept s (s.modProof f g) := ⟨rfl, rfl, rfl, rfl⟩

theorem modLif_kept (s : State) (g : LinkInterface → LinkInterface) : Kept s (s.modLif g) := ⟨rfl, rfl, rfl, rfl⟩

theorem modTbs_kept (s : State) (g : TableStore → TableStore) : Kept s (s.modTbs g) := ⟨rfl, rfl, rfl, rfl⟩

theorem modGap_kept (s : State) (g : GapMonitor → GapMonitor) : Kept s (s.modGap g) := ⟨rfl, rfl, rfl, rfl⟩

theorem modAln_kept (s : State) (g : Engine → Engine) : Kept s (s.modAln g) := ⟨rfl, rfl, rfl, rfl⟩

theorem raiseFace_kept (s : State) (f : Face) (k : EventKind) : Kept s (s.raiseFace f k) := (raiseFace_reported s f k).kept

theorem raiseDevice_kept (s : State) (k : EventKind) : Kept s (s.raiseDevice k) := (raiseDevice_reported s k).kept

theorem decide_kept (s : State) (f : Face) : Kept s (s.decide f) := (decide_reported s f).kept

theorem setCondition_kept (s : State) (f : Face) (c : Condition) (on : Bool) : Kept s (s.setCondition f c on) :=
  (setCondition_reported s f c on).kept

theorem activate_kept (s : State) (f : Face) (c : Condition) (k : EventKind) : Kept s (s.activate f c k) :=
  (activate_reported s f c k).kept

theorem arbitrate_kept (s : State) : Kept s s.arbitrate := (arbitrate_arbitrated s).kept

/-! ### The Door Sequencer, the close deferral, evacuation -/

theorem endDeferral_kept (s : State) (f : Face) (c : EndCause) : Kept s (s.endDeferral f c) :=
  (modDeferral_kept s f _).trans (raiseFace_kept _ f _)

theorem endWithClose_kept (s : State) (f : Face) (c : EndCause) : Kept s (s.endWithClose f c) :=
  (endDeferral_kept s f c).trans (closeFaceNow_sequenced _ f).kept

theorem cancelDeferral_kept (s : State) (f : Face) : Kept s (s.cancelDeferral f) := by
  unfold cancelDeferral; split
  · exact endDeferral_kept s f _
  · exact .refl s

theorem partnerDwellLapse_kept (s : State) (f : Face) : Kept s (s.partnerDwellLapse f) := .opt (endWithClose_kept s f _)

theorem partnerEnters_kept (s : State) (f : Face) (x : Millis) : Kept s (s.partnerEnters f x) :=
  (modDeferral_kept s f _).trans (partnerDwellLapse_kept _ f)

theorem partnerExits_kept (s : State) (f : Face) : Kept s (s.partnerExits f) := by
  unfold partnerExits; dsimp only; split
  · exact (modDeferral_kept s f _).trans (endWithClose_kept _ f _)
  · exact modDeferral_kept s f _

theorem enterDwelling_kept (s : State) (f : Face) : Kept s (s.enterDwelling f) := by
  unfold enterDwelling; split
  · exact (modBerth_kept s f _).trans (partnerEnters_kept _ _ _)
  · exact .refl s

theorem evacuationOpening_kept (s : State) (f : Face) : Kept s (s.evacuationOpening f) :=
  ((cancelDeferral_kept s f).trans (applyDoors_sequenced _ f _ _).kept).trans (enterDwelling_kept _ f)

theorem beginEvacuation_kept (s : State) (f : Face) : Kept s (s.beginEvacuation f) := by
  have h := (setRelease_sequenced s f .evacuating).kept.trans (raiseFace_kept _ f .evacuationStart)
  unfold beginEvacuation; dsimp only; split
  · exact h.trans (evacuationOpening_kept _ f)
  · exact h.trans (departureClose_sequenced _ f).kept

theorem testEvacuation_kept (s : State) (f : Face) : Kept s (s.testEvacuation f) := by
  unfold testEvacuation; split
  · exact beginEvacuation_kept s f
  · exact .refl s

/-! ### The Door Line Controller -/

theorem reply_kept (s : State) (k t : Byte) (r : Result) (d : List Byte) : Kept s (s.reply k t r d) := modLif_kept s _

theorem answer_kept (s : State) (q : Request) (r : Result) (d : List Byte) : Kept s (s.answer q r d) := reply_kept s _ _ r d

theorem done_kept (s : State) (q : Request) : Kept s (s.done q) := answer_kept s q _ _

theorem refuse_kept (s : State) (q : Request) (r : Reason) : Kept s (s.refuse q r) := answer_kept s q _ _

theorem beginTurn_kept (s : State) (f : Face) (k : TurnKind) (d : Nat) : Kept s (s.beginTurn f k d) := ⟨rfl, rfl, rfl, rfl⟩

theorem nextTurn_kept (s : State) (f : Face) : Kept s (s.nextTurn f) := by
  unfold nextTurn; dsimp only; split
  · split
    · exact (modLine_kept s f _).trans (beginTurn_kept _ f _ _)
    · exact modLine_kept s f _
  · exact (modLine_kept s f _).trans (modLine_kept _ f _)

theorem startLine_kept (s : State) (f : Face) : Kept s (s.startLine f) := by
  unfold startLine; dsimp only; split
  · exact modLine_kept s f _
  · exact (modLine_kept s f _).trans (nextTurn_kept _ f)

theorem endTunnel_kept (s : State) (f : Face) (r : Result) (d : List Byte) : Kept s (s.endTunnel f r d) := by
  unfold endTunnel; split
  · exact .refl s
  · exact (modLine_kept s f _).trans (reply_kept _ _ _ r d)

theorem followLine_kept (s : State) (f : Face) (was : Bool) : Kept s (s.followLine f was) := by
  unfold followLine
  refine Kept.trans (modLine_kept s f _) (.ite (.ite ?_ (startLine_kept _ f)) ?_)
  · split
    · exact .ite (.refl _) (endTunnel_kept _ f _ _)
    · exact .refl _
  · exact (endTunnel_kept _ f _ _).trans (.ite (.refl _) (modLine_kept _ f _))

theorem accountSend_kept (s : State) (f : Face) (d : Door) : Kept s (s.accountSend f d) := by
  unfold accountSend; dsimp only; split
  · exact (modDoors_kept s f _).trans (applyDoor_sequenced _ f _ _).kept
  · exact modDoors_kept s f _

theorem badFrame_kept (s : State) (f : Face) (t : Turn) : Kept s (s.badFrame f t) := by
  unfold badFrame
  generalize hg : (if t.kind = .tunnel ∧ ¬t.orphan then
      s.modLine f fun l => { l with tunnel := l.tunnel.map fun x => { x with sent := false } } else s) = v
  have h : Kept s v := hg ▸ .opt (modLine_kept s f _)
  dsimp only
  split
  · exact h
  · exact (h.trans (modDoors_kept _ f _)).trans
      (.ite (applyDoor_sequenced _ f _ _).kept (.ite (accountSend_kept _ f _) (.refl _)))

/-! ### Adoption, release, berths -/

theorem beginCopy_kept (s : State) (b : BankId) : Kept s (s.beginCopy b) := modTbs_kept s _

theorem handOnAdoption_kept (s : State) (f : Face) (was : Bool) : Kept s (s.handOnAdoption f was) :=
  ((((((modDoors_kept s f _).trans (doorsHandOn_reported _ f).kept).trans (followLine_kept _ f was)).trans
    (modGap_kept _ _)).trans (formSets_reported _ f).kept).trans (decide_kept _ f)).trans (testEvacuation_kept _ f)

theorem adopt_kept (s : State) (f : Face) (b : BankId) : Kept s (s.adopt f b) := by
  have h := ((modTbs_kept s fun t => { t with active := t.active.set f (some b) }).trans
    (handOnAdoption_kept _ f (s.configured f))).trans (raiseFace_kept _ f .bankAdopted)
  unfold adopt; dsimp only; split
  · exact h.trans (beginCopy_kept _ b)
  · exact h

theorem testAdoption_kept (s : State) (f : Face) : Kept s (s.testAdoption f) := by
  unfold testAdoption; split
  · exact .refl s
  · split
    · exact adopt_kept s f _
    · exact .refl s

theorem becomeNormal_kept (s : State) (f : Face) : Kept s (s.becomeNormal f) :=
  ((setRelease_sequenced s f _).kept.trans (raiseFace_kept _ f _)).trans (testAdoption_kept _ f)

theorem testRestore_kept (s : State) (f : Face) : Kept s (s.testRestore f) := by
  unfold testRestore; split
  · exact becomeNormal_kept s f
  · exact .refl s

theorem applyDoorRestore_kept (s : State) (f : Face) (n : Nat) (g : DoorContext → Door → DoorOutcome) :
    Kept s (s.applyDoorRestore f n g) := by
  unfold applyDoorRestore; split
  · exact .refl s
  · dsimp only; split
    · exact (applyDoor_sequenced s f n g).kept.trans (testRestore_kept _ f)
    · exact (applyDoor_sequenced s f n g).kept

theorem vacate_kept (s : State) (f : Face) : Kept s (s.vacate f) :=
  ((((modBerth_kept s f _).trans (setCondition_kept _ f _ _)).trans (setCondition_kept _ f _ _)).trans
    (followEnable_sequenced _ f).kept).trans (dropOpens_sequenced _ f).kept

theorem becomeVacant_kept (s : State) (f : Face) : Kept s (s.becomeVacant f) := (vacate_kept s f).trans (testAdoption_kept _ f)

theorem tunnelAnswered_kept (s : State) (f : Face) (t : Turn) (r : Option (List Byte)) : Kept s (s.tunnelAnswered f t r) := by
  unfold tunnelAnswered; split
  · exact endTunnel_kept s f _ _
  · exact .refl s

theorem goodFrame_kept (s : State) (f : Face) (t : Turn) (st : Status) (r : Option (List Byte)) :
    Kept s (s.goodFrame f t st r) := by
  unfold goodFrame
  split
  · exact .refl s
  · dsimp only
    refine Kept.trans ?_ (tunnelAnswered_kept _ f t r)
    refine Kept.trans ?_ (applyDoorRestore_kept _ f _ _)
    have h : Kept s (s.modDropLink f t.drop fun l => l.good st.echo) := modDoors_kept s f _
    refine h.trans ?_
    split
    · exact .opt (accountSend_kept _ f _)
    · exact .opt (accountSend_kept _ f _)

theorem requestAlignment_kept (s : State) (f : Face) (n : BitVec 8) : Kept s (s.requestAlignment f n) := by
  unfold requestAlignment; split <;> exact modAln_kept s _

theorem withdrawAlignment_kept (s : State) (f : Face) : Kept s (s.withdrawAlignment f) := by
  unfold withdrawAlignment; split
  · exact modAln_kept s _
  · exact .refl s

theorem acceptAlignment_kept (s : State) (f : Face) (r : AlignResult) : Kept s (s.acceptAlignment f r) :=
  (modBerth_kept s f _).trans <| (Kept.opt (raiseFace_kept _ f _)).trans <| (Kept.opt (raiseFace_kept _ f _)).trans <|
    (Kept.opt (activate_kept _ f _ _)).trans <| ((followEnable_sequenced _ f).kept.trans (dropOpens_sequenced _ f).kept).trans <|
    Kept.opt (evacuationOpening_kept _ f)

theorem completeAlignment_kept (s : State) : Kept s s.completeAlignment := by
  unfold completeAlignment
  split
  · exact .refl s
  · rename_i i _
    have h : Kept s (s.deliverAlignment i) := by
      unfold deliverAlignment; split
      · exact acceptAlignment_kept s _ _
      · exact .refl s
    dsimp only
    split
    · exact h.trans (modAln_kept _ _)
    · exact (h.trans (modAln_kept _ _)).trans (modAln_kept _ _)

theorem startSupervision_kept (s : State) (f : Face) : Kept s (s.startSupervision f) := by
  unfold startSupervision; split
  · exact .refl s
  · exact modBerth_kept s f _

theorem refuseTelegram_kept (s : State) (f : Face) (k : TelegramKind) (r : Reason) : Kept s (s.refuseTelegram f k r) :=
  modBerth_kept s f _

theorem becomeDeparting_kept (s : State) (f : Face) : Kept s (s.becomeDeparting f) :=
  ((modBerth_kept s f _).trans (startSupervision_kept _ f)).trans <| (setCondition_kept _ f _ _).trans <|
    ((followEnable_sequenced _ f).kept.trans (cancelDeferral_kept _ f)).trans <| (Kept.opt (partnerExits_kept _ _)).trans <|
    Kept.opt (withdrawAlignment_kept _ f)

theorem takeArrival_kept (s : State) (f : Face) (b : List Byte) : Kept s (s.takeArrival f b) := by
  unfold takeArrival
  split
  · split
    · exact refuseTelegram_kept s f _ _
    · split
      · exact refuseTelegram_kept s f _ _
      · exact (modBerth_kept s f _).trans (startSupervision_kept _ f)
  · exact refuseTelegram_kept s f _ _

theorem takeDeparture_kept (s : State) (f : Face) (b : List Byte) : Kept s (s.takeDeparture f b) := by
  unfold takeDeparture
  split
  · split
    · exact refuseTelegram_kept s f _ _
    · split
      · exact refuseTelegram_kept s f _ _
      · unfold acceptDeparture
        dsimp only
        split
        · exact (((becomeDeparting_kept s f).trans (raiseFace_kept _ f _)).trans (departureClose_sequenced _ f).kept).trans
            (dropOpens_sequenced _ f).kept
        · exact ((becomeDeparting_kept s f).trans (departureClose_sequenced _ f).kept).trans (dropOpens_sequenced _ f).kept
  · exact refuseTelegram_kept s f _ _

theorem takeCleared_kept (s : State) (f : Face) (b : List Byte) : Kept s (s.takeCleared f b) := by
  unfold takeCleared
  split
  · split
    · exact refuseTelegram_kept s f _ _
    · split
      · exact refuseTelegram_kept s f _ _
      · exact becomeVacant_kept s f
  · exact refuseTelegram_kept s f _ _

theorem returnToApproaching_kept (s : State) (f : Face) (x : Sample) : Kept s (s.returnToApproaching f x) := by
  have h := (((modBerth_kept s f fun b =>
      { b with state := .approaching, stop := none, stopError := none, enable := [], pairing := []
               train := b.train.map fun t => { t with ring := [x], gapMark := false } }).trans
    (setCondition_kept _ f .noProfile false)).trans (followEnable_sequenced _ f).kept).trans (dropOpens_sequenced _ f).kept
  unfold returnToApproaching
  dsimp only
  split
  · exact h.trans (withdrawAlignment_kept _ f)
  · exact h

theorem testSample_kept (s : State) (f : Face) (p : FaceParams) (x : Sample) : Kept s (s.testSample f p x) := by
  unfold testSample
  dsimp only
  split
  · split
    · exact (modBerth_kept s f _).trans (requestAlignment_kept _ f _)
    · exact .refl s
  · split
    · exact returnToApproaching_kept s f x
    · exact .refl s
  · split
    · exact returnToApproaching_kept s f x
    · exact .refl s
  · split
    · unfold moveFromDwelling
      dsimp only
      split
      · exact (becomeDeparting_kept s f).trans (dropOpens_sequenced _ f).kept
      · exact (((becomeDeparting_kept s f).trans (raiseFace_kept _ f _)).trans (movementClose_sequenced _ f).kept).trans
          (dropOpens_sequenced _ f).kept
    · exact .refl s
  · exact .refl s
  · exact .refl s

theorem takePosition_kept (s : State) (f : Face) (b : List Byte) : Kept s (s.takePosition f b) := by
  unfold takePosition
  split
  · exact refuseTelegram_kept s f _ _
  · split
    · exact refuseTelegram_kept s f _ _
    · split
      · exact refuseTelegram_kept s f _ _
      · split
        · exact modBerth_kept s f _
        · exact (((modBerth_kept s f _).trans (testSample_kept _ f _ _)).trans (startSupervision_kept _ f)).trans
            (setCondition_kept _ f _ _)

theorem supervisionLapse_kept (s : State) (f : Face) : Kept s (s.supervisionLapse f) := by
  unfold supervisionLapse
  split
  · dsimp only
    split
    · exact (modBerth_kept s f _).trans (becomeVacant_kept _ f)
    · exact modBerth_kept s f _
    all_goals exact (modBerth_kept s f _).trans (activate_kept _ f _ _)
  · exact .refl s

/-! ### The Link Interface, the Gap Monitor, the Table Store -/

theorem degrade_kept (s : State) : Kept s s.degrade := by
  rcases degrade_blocks s with h | h
  · exact (modLif_kept s _).trans h.kept
  · rw [h]; exact .refl s

theorem recover_kept (s : State) : Kept s s.recover := (modLif_kept s _).trans (recover_reported s).kept

theorem intactFrame_kept (s : State) : Kept s s.intactFrame := by
  unfold intactFrame; dsimp only; split
  · exact (modLif_kept s _).trans (recover_kept _)
  · exact modLif_kept s _

theorem damagedFrame_kept (s : State) : Kept s s.damagedFrame := by
  unfold damagedFrame; dsimp only; split
  · exact (modLif_kept s _).trans (degrade_kept _)
  · exact modLif_kept s _

theorem silenceLapse_kept (s : State) : Kept s s.silenceLapse := by
  unfold silenceLapse; split
  · exact (modLif_kept s _).trans (degrade_kept _)
  · exact .refl s

theorem joinIntake_kept (s : State) (r : Request) : Kept s (s.joinIntake r) := by
  unfold joinIntake; split
  · exact modLif_kept s _
  · exact (modLif_kept s _).trans (raiseDevice_kept _ _)

theorem frameEnd_kept (s : State) : Kept s s.frameEnd := by
  unfold frameEnd; split
  · exact .refl s
  · exact modLif_kept s _

theorem followHeads_kept (s : State) (f : Face) (heads : List Head) : Kept s (s.followHeads f heads) := by
  unfold followHeads; split
  · exact activate_kept _ f _ _
  · exact setCondition_kept _ f _ _

theorem handOnZones_kept (s : State) (f : Face) (r : List Head) (h : Bool) (zs : List Zone) : Kept s (s.handOnZones f r h zs) := by
  unfold handOnZones
  have hf : Kept s (((s.decide f).followHeads f r).followHeads f s.gap.heads) :=
    ((decide_kept s f).trans (followHeads_kept _ f _)).trans (followHeads_kept _ f _)
  dsimp only
  split
  · exact (hf.trans (raiseFace_kept _ f _)).trans (modReports_kept _ f _)
  · exact hf.trans (modReports_kept _ f _)

theorem rebuildGap_kept (s : State) : Kept s s.rebuildGap := by
  unfold rebuildGap; dsimp only; split
  · exact modGap_kept s _
  · exact .refl s

theorem cycleEnd_kept (s : State) : Kept s s.cycleEnd := by
  unfold cycleEnd; split
  · exact (((((rebuildGap_kept s).trans (modGap_kept _ _)).trans (modGap_kept _ _)).trans (handOnZones_kept _ _ _ _ _)).trans
      (handOnZones_kept _ _ _ _ _)).trans (modGap_kept _ _)
  · exact .refl s

theorem endValidation_kept (s : State) : Kept s s.endValidation := by
  unfold endValidation; split
  · exact .refl s
  · dsimp only
    split
    · exact (modTbs_kept s _).trans (reply_kept _ _ _ _ _)
    · split
      · exact (modTbs_kept s _).trans (reply_kept _ _ _ _ _)
      · exact ((((modTbs_kept s _).trans (modTbs_kept _ _)).trans (reply_kept _ _ _ _ _)).trans (testAdoption_kept _ _)).trans
          (testAdoption_kept _ _)

theorem clearDone_kept (s : State) : Kept s s.clearDone := by
  unfold clearDone; split
  · exact .refl s
  · dsimp only
    have h : Kept s (s.zeroCounters.modLif fun l => { l with clearing := none }) := ⟨rfl, rfl, rfl, rfl⟩
    split
    · exact (h.trans (reply_kept _ _ _ _ _)).trans (raiseDevice_kept _ _)
    · exact h.trans (raiseDevice_kept _ _)

end State

end Sys2Proof.Machine
end

