-- ==== Sys2Proof/Laws/Lines.lean ====
section
/-! SUPPORT. What the end of a turn and the partner dwell timer can do: one case lemma for each operation, to cite in place of its
definition. -/

namespace Sys2Proof.Machine

/-- The window keeps a whole run whose characters all begin within it. -/
theorem inWindow_whole (windowEnd now : Micros) (bytes : List Byte)
    (h : windowEnd + characterTime * bytes.length ≤ now + answerWindow) : inWindow windowEnd now bytes = bytes := by
  have hk : bytes.length ≤ (now + answerWindow - windowEnd) / characterTime := by
    simp only [Micros, characterTime, answerWindow] at *; omega
  simp [inWindow, Nat.sub_eq_zero_of_le hk]

/-- The window keeps nothing of a run that ends before it opens. -/
theorem inWindow_closed (windowEnd now : Micros) (bytes : List Byte) (h : now + answerWindow ≤ windowEnd) :
    inWindow windowEnd now bytes = [] := by
  simp [inWindow, Nat.sub_eq_zero_of_le h]

/-- The characters ahead of those that can lie in the window make no difference. -/
theorem inWindow_append (windowEnd now : Micros) (early rest : List Byte)
    (h : now + answerWindow < windowEnd + characterTime * (rest.length + 1)) :
    inWindow windowEnd now (early ++ rest) = inWindow windowEnd now rest := by
  have hk : (now + answerWindow - windowEnd) / characterTime ≤ rest.length := by
    simp only [Micros, characterTime, answerWindow] at *; omega
  simp only [inWindow, List.length_append, Nat.add_sub_assoc hk]
  simp [List.drop_append]

namespace State

/-- Bytes on a door line change nothing, or those within the open window of the turn in progress are its answer: a bad frame or a good one,
after which the next turn begins. -/
theorem takeAnswer_cases (s : State) (f : Face) (bytes : List Byte) (ok : Bool) :
    s.takeAnswer f bytes ok = s ∨
      ∃ x, (s.face f).line.turn = some x ∧ s.now ≤ x.windowEnd ∧
        (judgeAnswer x.drop (inWindow x.windowEnd s.now bytes) ok = .bad ∧ s.takeAnswer f bytes ok = (s.badFrame f x).nextTurn f ∨
          ∃ st r, judgeAnswer x.drop (inWindow x.windowEnd s.now bytes) ok = .good st r ∧
            s.takeAnswer f bytes ok = (s.goodFrame f x st r).nextTurn f) := by
  unfold takeAnswer
  split
  · exact .inl rfl
  next x hx =>
    split
    · exact .inl rfl
    next hw =>
      have hc := Nat.not_lt.mp hw
      cases hj : judgeAnswer x.drop (inWindow x.windowEnd s.now bytes) ok with
      | incomplete => exact .inl rfl
      | bad => exact .inr ⟨x, hx, hc, .inl ⟨hj, rfl⟩⟩
      | good st r => exact .inr ⟨x, hx, hc, .inr ⟨st, r, hj, rfl⟩⟩

/-- The expiry of an answer window changes nothing, or the turn's window is over and the turn counts as a bad frame. -/
theorem windowExpiry_cases (s : State) (f : Face) :
    s.windowExpiry f = s ∨
      ∃ x, (s.face f).line.turn = some x ∧ x.windowEnd ≤ s.now ∧ s.windowExpiry f = (s.badFrame f x).nextTurn f := by
  unfold windowExpiry
  split
  · exact .inl rfl
  next x hx =>
    split
    next h => exact .inr ⟨x, hx, h, rfl⟩
    · exact .inl rfl

/-- The partner dwell timer ends a deferral in progress with its held close when it is due, and otherwise does nothing. -/
theorem partnerDwellLapse_cases (s : State) (f : Face) :
    s.partnerDwellLapse f = s ∨
      (s.face f).deferral.used.isSome = true ∧ s.due (s.face f).deferral.partnerTimer = true ∧
        s.partnerDwellLapse f = s.endWithClose f .partnerDwell := by
  unfold partnerDwellLapse
  split
  next h => exact .inr ⟨h.1, h.2, rfl⟩
  · exact .inl rfl

end State

end Sys2Proof.Machine
end

