-- ==== Sys2Proof/Tests/Slice0.lean ====
section
/-! SUPPORT. Small tests: refusals of ill-formed commands, the worked cases of spec/ with their expected results as the spec prints them, and for
every statement with hypotheses a concrete state that meets them. -/

namespace Sys2Proof.Machine.Tests

set_option Elab.async false

/-! ## Helpers: the face of the worked sequences 1.9 and 2.7 -/

/-- Face A's parameters (1.9, 3.11, 4.11). -/
def paramsA : FaceParams :=
  { extentLow := 60000, extentHigh := 140000, target := 102500, creep := 20, supervision := 500, openTimeout := 6000, closeTimeout := 8000
    recycleDwell := 1500, maxRecycles := 2, badFrameLimit := 3
    actions := ⟨.withhold, .report, .withhold, .holdClosed, .withhold, .holdClosed⟩ }

/-- A Platform Door Table that begins with the entries listed. -/
def tableOf (l : List DoorEntry) : Vector (Option DoorEntry) 32 := Vector.ofFn fun i => l[i.val]?

/-- The door entries of 2.7, with the drop addresses 3, 5, 9, 12, 14. -/
def doorsA : List DoorEntry := [⟨3, 86500, 900, 700⟩, ⟨5, 91000, 900, 700⟩, ⟨9, 95500, 900, 700⟩, ⟨12, 100000, 900, 700⟩, ⟨14, 104500, 900, 700⟩]

/-- The profile of 2.7. -/
def profileA : Profile := ⟨20000, 0, [⟨2500, 650⟩, ⟨7000, 650⟩, ⟨11500, 650⟩, ⟨16000, 650⟩]⟩

/-- Tables that configure face A alone; every identifier matches entry 0, and zone 9 of 5.7 stands at door 3. -/
def tablesA : Tables :=
  { Tables.empty with
    params := ⟨some paramsA, none⟩, doors := ⟨tableOf doorsA, Vector.replicate 32 none⟩
    profiles := (Vector.replicate 16 none).set 0 (some profileA)
    consist := (Vector.replicate 32 MatchEntry.absent).set 0 ⟨true, 0, 0, 0⟩
    zones := (Vector.replicate 64 none).set 9 (some ⟨.A, 3, 4, 0x01C0, 3, 1, .recycle⟩) }

/-- A CLOSED door record of face A. -/
def closedDoor (number drop : Nat) : Door := { Door.build number drop with state := .closed }

/-- Face A's door records, all CLOSED. -/
def recordsA : List Door := [closedDoor 1 3, closedDoor 2 5, closedDoor 3 9, closedDoor 4 12, closedDoor 5 14]

/-- A running part with face A configured from bank 0, its doors CLOSED, bank 1 the edit bank, and face B unconfigured. -/
def base : State :=
  { State.reset with
    faces := ⟨{ State.reset.faces.a with doors := recordsA }, State.reset.faces.b⟩
    tbs := { bank0 := ⟨.active, tablesA⟩, bank1 := ⟨.edit, tablesA⟩, active := ⟨some .b0, some .b0⟩, edit := some .b1, staged := none,
             validation := none, copy := none } }

/-- A train of one unit. -/
def trainA (ring : List Sample) : Train := ⟨.up, [⟨0x11223344, .end1Leading, some 0⟩], ring, false⟩

/-- Face A's berth with a train in a given state. -/
def berthIn (st : BerthState) (ring : List Sample) (s : State) : State :=
  s.modBerth .A fun b => { b with state := st, train := some (trainA ring) }

/-- Face A standing at 101784 with doors 1 to 4 enabled. -/
def standing (st : BerthState) : State :=
  ((berthIn st [] base).modBerth .A fun b => { b with stop := some 101784, stopError := some (-716), enable := [1, 2, 3, 4] }).modDoors .A
    fun ds => ds.map fun d => { d with enabled := decide (d.number ≤ 4) }

/-- One door of face A changed. -/
def withDoorA (n : Nat) (g : Door → Door) (s : State) : State := s.modDoors .A fun ds => ds.map fun d => if d.number = n then g d else d

/-- A request of tag 7 whose class follows from its kind. -/
def rq (kind face : Byte) (body : List Byte) : Request :=
  ⟨if kind.toNat < 0x20 then 2 else if kind.toNat < 0x30 then 3 else 4, face, 7, kind :: body⟩

/-- A request alone in the intake queue. -/
def ask (kind face : Byte) (body : List Byte) (s : State) : State := s.modLif fun l => { l with intake := [rq kind face body] }

/-- A property of the state that a command answers. -/
def after (o : Host.Outcome State Fault Refusal) (p : State → Bool) : Bool :=
  match o with
  | .next u => p u
  | .fault _ => false
  | .refused _ => false

/-! ## Well-formed commands -/

theorem test_wf_refuses_train_class : Instr.wf (.requestFrameReceived 0 ⟨0x01, 1, 0, []⟩) = false := by decide
theorem test_wf_refuses_long_payload : Instr.wf (.requestFrameReceived 0 ⟨0x02, 1, 0, List.replicate 251 0⟩) = false := by decide +kernel
theorem test_wf_refuses_long_body : Instr.wf (.arrival 0 .A (List.replicate 250 0)) = false := by decide +kernel
theorem test_wf_refuses_door_0 : Instr.wf (.obstructionReport 0 .A 0) = false := by decide
theorem test_wf_refuses_door_33 : Instr.wf (.openTimeoutExpiry 0 .B 33) = false := by decide
theorem test_wf_refuses_long_answer : Instr.wf (.turnAnswer 0 .A (List.replicate 261 0) true) = false := by decide +kernel
theorem test_wf_refuses_empty_scan : Instr.wf (.scanFrameArrival 0 [] true) = false := by decide
theorem test_wf_takes_limits : Instr.wf (.closeTimeoutExpiry 0 .A 32) ∧ Instr.wf (.recycleDwellExpiry 0 .B 1) := by decide

/-! ## Frames (R181, R182, R196 to R200) -/

/-- The check values of R198. -/
theorem test_crc_check_values :
    crc16 [0x31, 0x32, 0x33, 0x34, 0x35, 0x36, 0x37, 0x38, 0x39] = 0x29B1 ∧
      crc8 [0x31, 0x32, 0x33, 0x34, 0x35, 0x36, 0x37, 0x38, 0x39] = 0x20 := by decide +kernel

/-- A DEPARTURE of face B read from its bytes, with a second frame's bytes after it, and damaged with one byte missing. -/
theorem test_departure_frame_is_read :
    readFrame 5 (encodeFrame 0x01 2 9 [0x03] ++ [0xA5, 0x01]) = some (.departure 5 .B []) ∧
      readFrame 5 ((encodeFrame 0x01 2 9 [0x03]).take 7) = some (.inboundFrameDamaged 5) := by decide +kernel

/-- Bytes outside a frame are discarded (R196). -/
theorem test_bytes_outside_a_frame : readFrame 5 [] = none ∧ readFrame 5 [0x5A, 0x01, 2, 9] = none := by decide +kernel

/-- The header bytes of a frame in the order of R196. -/
theorem test_frame_header : (encodeFrame 0x02 1 7 [0x12, 3]).take 7 = [0xA5, 0x02, 1, 7, 2, 0x12, 3] := by decide +kernel

/-- An OPEN numbered 10 to drop address 20: command code in bits 6 to 4, sequence number in bits 3 to 0 (section 11.3). -/
theorem test_drop_frame : dropFrameBody 20 (.command .openCmd 10) = [20, 0x1A] := by decide

/-- A status frame with position OPEN, the release flag and echo 10 (R199). -/
theorem test_status_frame :
    judgeAnswer 20 [20, 0x23, 10, crc8 [20, 0x23, 10]] true = .good ⟨.opened, false, true, false, false, 10⟩ none ∧
      judgeAnswer 21 [20, 0x23, 10, crc8 [20, 0x23, 10]] true = .bad ∧ judgeAnswer 20 [20, 0x23, 10] true = .incomplete := by decide +kernel

/-- No word of the opcode table spells a command. -/
theorem test_no_table_word : decodeTableWord 8 0 = none := rfl

/-! ## The worked cases of Chapters 1 and 2 -/

/-- The standstill of 1.9 at t = 350. -/
theorem test_standstill_at_350 :
    after (exec (.position 350000 .A [0, 1, 0x8D, 0x94, 0, 0])
      (berthIn .approaching [⟨101800, 120, false⟩, ⟨101790, 0, false⟩, ⟨101779, 0, false⟩, ⟨101786, 0, false⟩] base)) (fun u =>
        (u.face .A).berth.state = .aligning ∧ (u.face .A).berth.stop = some 101784 ∧ (u.face .A).berth.stopError = some (-716) ∧
          (u.face .A).berth.ticket = 1 ∧ (u.face .A).berth.supervision = some 850) = true := by decide +kernel

/-- 1.9 at t = 130: policed 30 ms after the last accepted sample. -/
theorem test_policed_at_130 :
    after (exec (.position 130000 .A [0, 1, 0x8E, 0x0C, 0, 0])
      ((berthIn .approaching [⟨101950, 400, false⟩] base).modBerth .A fun b => { b with lastSample := some 100 })) (fun u =>
        (u.face .A).berth.policed = 1 ∧ (u.face .A).berth.lastSample = some 100) = true := by decide +kernel

/-- The movement of 1.9 at t = 450: 22 mm from the stop position. -/
theorem test_movement_at_450 :
    after (exec (.position 450000 .A [0, 1, 0x8D, 0xAE, 0, 0]) (standing .stopped)) (fun u =>
      (u.face .A).berth.state = .approaching ∧ (u.face .A).berth.enable = [] ∧ (u.face .A).berth.stop = none ∧
        (u.face .A).berth.train.map (fun t => t.ring) = some [⟨101806, 0, false⟩]) = true := by decide +kernel

/-- The inputs of 2.7 at a stop position. -/
def caseA (stop : Nat) : AlignInput :=
  ⟨stop, .up, [(.end1Leading, some profileA)], [(1, ⟨3, 86500, 900, 700⟩), (2, ⟨5, 91000, 900, 700⟩), (3, ⟨9, 95500, 900, 700⟩),
    (4, ⟨12, 100000, 900, 700⟩), (5, ⟨14, 104500, 900, 700⟩)], 60000, 140000⟩

/-- 2.7. -/
theorem test_case_27 : align (caseA 101784) =
    ⟨[1, 2, 3, 4], [⟨1, 1, 4, 834⟩, ⟨2, 1, 3, 834⟩, ⟨3, 1, 2, 834⟩, ⟨4, 1, 1, 834⟩], false, false, false⟩ := by decide +kernel

/-- 2.7 at the limits: 700 enables, 699 does not and is MISALIGNED without PARTIAL_ALIGN. -/
theorem test_case_27_limits : (align (caseA 101650)).enable = [1, 2, 3, 4] ∧ align (caseA 101649) = ⟨[], [], false, true, false⟩ := by
  decide +kernel

/-- The inputs of 2.8, with the orientation of unit 2. -/
def caseB (o : Orientation) : AlignInput :=
  ⟨120001, .down, [(.end1Leading, some ⟨12000, 400, [⟨3000, 700⟩, ⟨9000, 700⟩]⟩),
    (o, some ⟨18000, 600, [⟨2000, 650⟩, ⟨8000, 650⟩, ⟨14500, 650⟩]⟩)],
    [(1, ⟨1, 122500, 1000, 1000⟩), (2, ⟨2, 129300, 900, 1200⟩), (3, ⟨3, 136000, 800, 1300⟩), (4, ⟨4, 143900, 900, 1000⟩),
      (5, ⟨5, 148500, 700, 900⟩), (6, ⟨6, 160000, 900, 1000⟩)], 40000, 200000⟩

/-- 2.8, with unit 2 reversed: four doors enabled, and PARTIAL_ALIGN. -/
theorem test_case_28 : align (caseB .end2Leading) =
    ⟨[1, 2, 3, 5], [⟨1, 1, 1, 1199⟩, ⟨2, 1, 2, 1301⟩, ⟨3, 2, 3, 1300⟩, ⟨5, 2, 1, 1251⟩], false, false, true⟩ := by decide +kernel

/-- 2.8, had unit 2 led with end 1. -/
theorem test_case_28_unreversed : (align (caseB .end1Leading)).enable = [1, 2] ∧ (align (caseB .end1Leading)).partialAlign := by decide +kernel

/-- 2.9: one train door for two platform doors, and a tie that the lower door number wins. -/
theorem test_case_29 : align ⟨50000, .up, [(.end1Leading, some ⟨8000, 0, [⟨1000, 700⟩, ⟨3000, 700⟩, ⟨6000, 1200⟩]⟩)],
    [(1, ⟨1, 43300, 400, 600⟩), (2, ⟨2, 44700, 400, 600⟩), (3, ⟨3, 48000, 1500, 1000⟩)], 20000, 120000⟩ =
    ⟨[1, 2, 3], [⟨1, 1, 3, 800⟩, ⟨2, 1, 3, 800⟩, ⟨3, 1, 1, 1200⟩], false, false, true⟩ := by decide +kernel

/-! ## The worked sequences of Chapters 3 to 10 -/

/-- The context of door 3 in 3.11. -/
def contextAt (ms : Millis) (occupied : Bool) : DoorContext := ⟨ms, 6000, 8000, 1500, 2, false, false, occupied⟩

/-- Door 3 of 3.11 CLOSING with a recycle count. -/
def closing3 (count : Nat) : Door := { closedDoor 3 9 with state := .closing, enabled := true, recycleCount := count }

/-- 3.11 at t = 1200: recycle count 0 is below 2, so the door recycles. -/
theorem test_recycle_at_1200 : let o := (closing3 0).obstruct (contextAt 1200 true)
    o.door.state = .recycling ∧ o.door.recycleCount = 1 ∧ o.door.link.slot = some ⟨.openCmd, .urgent, none, 4⟩ ∧ o.events = [] := by
  decide +kernel

/-- 3.11 at t = 3800: the close after the dwell finds the zone OCCUPIED, and its CLOSE is superseded. -/
theorem test_dwell_end_at_3800 :
    let o := ({ closing3 1 with state := .recycling, timer := some ⟨.recycleDwell, 3800⟩ } : Door).dwellOver (contextAt 3800 true)
    o.door.state = .recycling ∧ o.door.recycleCount = 2 ∧ o.door.superseded = 1 ∧ o.door.timer = none := by decide +kernel

/-- 3.11 at t = 3840: the status that echoes the OPEN reports OPEN, so the dwell starts and the open timeout does not. -/
theorem test_echo_with_open_at_3840 :
    let d : Door := { closing3 2 with state := .recycling, link := { Door.newLink with slot := some ⟨.openCmd, .urgent, some 5, 4⟩ } }
    let o := d.takeStatus (contextAt 3840 true) ⟨.opened, false, false, false, false, 5⟩ false
    o.door.timer = some ⟨.recycleDwell, 5340⟩ ∧ o.door.link.slot = none ∧ o.door.state = .recycling := by decide +kernel

/-- 3.11 at t = 6100: stopped by an obstruction at the limit of recycles, the door is HELD. -/
theorem test_held_at_6100 :
    let o := (closing3 2).takeStatus (contextAt 6100 false) ⟨.stoppedMid, true, false, false, false, 0⟩ false
    o.door.state = .held ∧ o.events = [.doorHeld] ∧ o.door.link.slot = some ⟨.haltCmd, .urgent, none, 4⟩ := by decide +kernel

/-- 4.11: the number after 10 against base 10 is 11, and a door with a waiting CLOSE that is found CLOSED_LOCKED is CLOSED. -/
theorem test_return_with_close :
    let d : Door := { closedDoor 7 20 with state := .lost, link := ⟨0, false, some 10, some 10, 5, some ⟨.closeCmd, .urgent, none, 4⟩⟩ }
    let o := d.takeStatus (contextAt 0 false) ⟨.closedLocked, false, false, false, false, 10⟩ true
    nextSeq (some 10) 10 = 11 ∧ o.door.state = .closed ∧ o.door.link.slot = none ∧ o.events = [.doorReturned] := by decide +kernel

/-- R72 with R157: a LOST door that returns with a HALT in its slot enters HELD, and DOOR_HELD is raised with DOOR_RETURNED. -/
theorem test_return_with_halt :
    let d : Door := { closedDoor 7 20 with state := .lost, link := { Door.newLink with slot := some ⟨.haltCmd, .urgent, none, 4⟩ } }
    let o := d.takeStatus (contextAt 0 false) ⟨.opening, false, false, false, false, 1⟩ true
    o.door.state = .held ∧ o.events = [.doorReturned, .doorHeld] ∧ o.door.link.slot = d.link.slot := by decide +kernel

/-- Zone 9 of 5.7. -/
def zone9 (st : ZoneState) : Zone := ⟨9, 3, 4, 0x01C0, 3, 1, .recycle, st, none, 0⟩

/-- Head 4 of 5.7 with a window. -/
def head4 (window : List Beams) : Head := ⟨4, ⟨true, false⟩, .live, window, 0, 8, 0, .empty⟩

/-- 5.7: OCCUPIED at cycle 43 with metric 3, still at cycle 53 with 2, CLEAR at cycle 54 with 1. -/
theorem test_hysteresis :
    ((zone9 .clear).evaluate (some (head4 [0, 0, 0, 0, 0, 0x80, 0x180, 0x180])) fun n => n + 1).state = .occupied ∧
      ((zone9 .occupied).evaluate (some (head4 [0xFFFF, 0xFFFF, 0, 0, 0, 0, 0, 0])) fun n => n + 1).state = .occupied ∧
      ((zone9 .occupied).evaluate (some (head4 [0xFFFF, 0, 0, 0, 0, 0, 0, 0])) fun n => n + 1).state = .clear := by decide +kernel

/-- 5.7: the third missing scan makes the head SILENT. -/
theorem test_head_falls_silent :
    ({ head4 [] with missingStreak := 2 }.take 48 fun n => n + 1).state = .silent ∧
      ({ head4 [] with missingStreak := 1 }.take 47 fun n => n + 1).state = .live := by decide +kernel

/-- Face A of 7.7 with release sequence 19, door 4 latched, and its lever as the last status shows it. -/
def released (lever : Bool) : State :=
  (withDoorA 4 (fun d => { d with state := .released, latched := true, lastStatus := some ⟨.closedUnlocked, false, lever, false, false, 0⟩ })
    (standing .dwelling)).modRelease .A fun r => { r with state := .released, seq := 19, refused := 3, set := [⟨4, true, false⟩] }

/-- 7.7 at t = 9500, 10200 and 12000: PROTECT, RELEASE_ACTIVE, accepted. -/
theorem test_restore_tests :
    after (exec (.restore 0) (ask 0x16 1 [18, 237] (released true))) (fun u =>
        (u.face .A).release.refused = 4 ∧ u.lif.replies = [⟨0x16, 7, .refused .protect, [19], 0⟩]) ∧
      after (exec (.restore 0) (ask 0x16 1 [19, 236] (released true))) (fun u =>
        u.lif.replies = [⟨0x16, 7, .refused .releaseActive, [], 0⟩]) ∧
      after (exec (.restore 0) (ask 0x16 1 [19, 236] (released false))) (fun u =>
        (u.face .A).release.state = .restoring ∧ (u.findDoor .A 4).map (fun d => d.state) = some .closing ∧
          u.lif.replies = [⟨0x16, 7, .done, [], 0⟩]) := by decide +kernel

/-- The tables of 9.10, with the fourth and the fifth door entry. -/
def invalid (d4 d5 : DoorEntry) : Tables :=
  { tablesA with doors := ⟨tableOf [⟨3, 86500, 900, 700⟩, ⟨5, 91000, 900, 700⟩, ⟨9, 95500, 900, 700⟩, d4, d5], Vector.replicate 32 none⟩ }

/-- 9.10: entry 4 overlaps entry 3, then entry 5 repeats a drop address, then the bank passes. -/
theorem test_validation_910 :
    validate (invalid ⟨12, 97000, 700, 700⟩ ⟨5, 104500, 900, 700⟩) = some ⟨2, 1, 1, 4⟩ ∧
      validate (invalid ⟨12, 97300, 700, 700⟩ ⟨5, 104500, 900, 700⟩) = some ⟨2, 1, 1, 5⟩ ∧
      validate (invalid ⟨12, 97300, 700, 700⟩ ⟨14, 104500, 900, 700⟩) = none := by decide +kernel

/-- 8.8: with five doors CLOSED, no zone and nothing active, proof holds and the loop closes; a stalled door withholds it. -/
theorem test_proof_follows_doors :
    ((base.decide .A).face .A).proof.loopClosed ∧
      ((withDoorA 3 (fun d => { d with state := .stalled }) base).decide .A).lif.changed = [] := by decide +kernel

/-- 10.8: the first read returns both flags and keeps DOOR_HELD, whose condition is active. -/
theorem test_read_keeps_active_flag :
    after (exec (.readEvents 0) (ask 0x26 0 [1] ((base.modProof .A fun p =>
      { p with active := { noConditions with doorHeld := true } }).modLif fun l => { l with flags := ⟨[], [.doorHeld, .misaligned], []⟩ })))
      (fun u => u.lif.flags.a = [.doorHeld] ∧ u.lif.replies = [⟨0x26, 7, .done, [2, 6, 13], 0⟩]) = true := by decide +kernel

/-- R81: the window opens at 1,200; the four characters of a frame complete at 1,244 begin in it, and the frame is the turn's answer; of one
complete at 1,243 the first is discarded, and nothing is taken; a character before a whole frame in the window is not looked at. -/
theorem test_answer_window_opens :
    let s := base.modLine .A fun l => { l with running := true, turn := some ⟨3, .poll, .nothing 0, 2000, false⟩ }
    let bytes := [3, 0, 5, crc8 [3, 0, 5]]
    let baseOf := fun (u : State) => (u.findDoor .A 1).map fun d => d.link.base
    after (exec (.turnAnswer 1243 .A bytes true) s) (fun u => baseOf u = some none ∧ (u.face .A).line = (s.face .A).line) ∧
      after (exec (.turnAnswer 1244 .A bytes true) s) (fun u => baseOf u = some (some 5)) ∧
      after (exec (.turnAnswer 1250 .A (9 :: bytes) true) s) (fun u => baseOf u = some (some 5)) := by decide +kernel

/-- R110: a SILENT head that a rebuild gives to face A, and that is LIVE again by step 3 of the same cycle end, raises the flag; the condition
has ceased by the step's end. -/
theorem test_rebuild_raises_head_silent :
    let s := (((base.modTbs fun x => { x with
        bank0 := { x.bank0 with tables := { x.bank0.tables with zones := x.bank0.tables.zones.set 9 (some ⟨.A, 3, 4, 0x0010, 6, 2, .recycle⟩) } } }).modGap
        fun g => { g with
          heads := [{ head4 (List.replicate 8 0) with
            state := .silent, serves := ⟨false, true⟩, goodStreak := 7, scan := .one [4, 0, 0, 0, crc8 [4, 0, 0, 0]] true }]
          cycle := 0, zones := ⟨[], [zone9 .unknown]⟩, adopted := ⟨true, false⟩ }))
    after (exec (.sensorCycleEnd 20000) s) (fun u =>
      EventKind.headSilent ∈ u.lif.flags.a ∧ (u.face .A).proof.active.headSilent = false ∧
        u.gap.heads.map (fun h => h.state) = [.live]) = true := by decide +kernel

/-- R164, R194: a face whose every door is locked out, with a zone in force, is NOT_HELD after a soft reset and stays so: no loss is counted,
and no telegram of a change is formed. -/
theorem test_soft_reset_with_a_zone :
    let s := (base.modDoors .A fun ds => ds.map fun d => { d with state := .isolated, isolation := .lockedOut }).modGap fun g =>
      { g with zones := ⟨[zone9 .clear], []⟩ }
    after (exec (.softReset 0 ⟨.deasserted, .deasserted⟩) (ask 0x2A 0 [] s)) (fun u =>
      (u.face .A).proof.held = false ∧ (u.face .A).proof.losses = 0 ∧ u.lif.changed = []) = true := by decide +kernel

/-- R127: the partner's entry to DWELLING ends a deferral with a partner dwell time of 0 in the same step. -/
theorem test_partner_dwell_of_zero :
    let s := (standing .dwelling).modDeferral .A fun d => { d with used := some ⟨0, ⟨.A, 0, 0, 0, 120000⟩⟩ }
    ((s.partnerEnters .A 0).face .A).deferral.used = none ∧
      ((s.partnerEnters .A 0).face .A).deferral.lastEnd = some (.partnerDwell, 0) := by decide +kernel

/-! ## Witnesses: for every statement with hypotheses, states and operands that meet them, clause by clause -/

theorem witness_StepTakesTheFrontCommand : base.pending = [] ∧ ({ base with pending := [.closeFace 0] } : State).pending = .closeFace 0 :: [] :=
  ⟨rfl, rfl⟩

theorem witness_HeldInResetNothingHappens :
    ({ base with resetPin := true } : State).running = false ∧ ({ base with powered := false } : State).running = false ∧
      (∀ t e, Instr.sensorCycleEnd 0 ≠ .powerOn t e) ∧ (∀ t, Instr.sensorCycleEnd 0 ≠ .resetPinAssert t) ∧
      (∀ t e, Instr.sensorCycleEnd 0 ≠ .resetPinRelease t e) ∧ ∀ t, Instr.sensorCycleEnd 0 ≠ .powerLoss t :=
  ⟨rfl, rfl, nofun, nofun, nofun, nofun⟩

theorem witness_PowerOnAndPinReleaseResetEveryBlock : base.powered = true ∧ ({ base with powered := false } : State).powered = false := ⟨rfl, rfl⟩

theorem ordered_base : doorsOrdered base := by intro f; cases f <;> decide +kernel

/-- Bank 1 staged, for faces that have not adopted it. -/
def staged (s : State) : State := s.modTbs fun x => { x with staged := some .b1, edit := none }

/-- Face A RESTORING with a latched door 1, and face B unconfigured; face A with every door locked out and no zone; the smallest drop
address; an evacuation input deasserted. -/
theorem witness_SoftResetReturnsEveryBlock :
    let s := (withDoorA 1 (fun d => { d with state := .closing, latched := true }) base).modRelease .A fun r =>
      { r with state := .restoring, set := [⟨1, true, false⟩] }
    Takes (ask 0x2A 0 [] base) (rq 0x2A 0 []) [] (some .softReset) ∧ (rq 0x2A 0 []).body = [] ∧ doorsOrdered (ask 0x2A 0 [] base) ∧
      (∀ f, NoAdoption (ask 0x2A 0 [] base) f) ∧ base.configured .B = false ∧ base.configured .A = true ∧
      (⟨.deasserted, .asserted⟩ : PerFace Level).get .A = .deasserted ∧
      (Takes (ask 0x2A 0 [] s) (rq 0x2A 0 []) [] (some .softReset) ∧ (∀ f, NoAdoption s f) ∧ (s.face .A).release.state = .restoring ∧
        (s.findDoor .A 1).map (fun d => d.latched) = some true) ∧
      (closedDoor 1 3 ∈ (base.face .A).doors ∧ ∀ e ∈ (base.face .A).doors, 3 ≤ e.drop) ∧
      (let u := base.modDoors .A fun ds => ds.map fun d => { d with isolation := .lockedOut }
       (u.face .A).release.state = .normal ∧ u.gap.zones.get .A = [] ∧ ∀ d ∈ (u.face .A).doors, d.isolation = .lockedOut ∧ d.latched = false) :=
  ⟨⟨rfl, rfl, rfl, rfl⟩, rfl, ordered_base, (fun _ _ h => nomatch h), rfl, rfl, rfl,
    ⟨⟨rfl, rfl, rfl, rfl⟩, (fun _ _ h => nomatch h), rfl, rfl⟩, by decide +kernel, by decide +kernel⟩

/-- The clauses of an intact frame at the streak of 7, of the silence timer at the millisecond of its expiry, and of a bad count that reaches
the error limit. -/
theorem witness_FramesAndSilenceDecideTheUplinksHealth :
    base.running = true ∧ base.lif.silence = some 2000 ∧ 2000 ≤ max base.now 2000000 / 1000 ∧ base.lif.degraded = false ∧
      (let s := base.modLif fun l => { l with degraded := true, goodStreak := 7, badCount := 3 }
       s.running = true ∧ s.lif.degraded = true ∧ 7 ≤ s.lif.goodStreak) ∧
      (let s := base.modLif fun l => { l with badCount := 3 }
       s.lif.degraded = false ∧ after (exec (.inboundFrameDamaged 0) s) fun u => u.lif.degraded) := by decide +kernel

theorem witness_RequestFrameJoinsTheIntakeQueue :
    let full := fun n => base.modLif fun l => { l with intake := List.replicate n (rq 0x11 1 []) }
    (full 7).running = true ∧ (full 7).lif.intake.length < 8 ∧ (full 8).running = true ∧ 8 ≤ (full 8).lif.intake.length := by decide +kernel

/-- A proof telegram of face A. -/
def telegram : ProofTelegram := ⟨.A, .periodic, false, ⟨true, false, false, false, false⟩, .vacant, 0, .normal, 0, none, 5⟩

/-- Each priority of the arbiter: a frame being sent; a changed telegram; a reply; the device's notice after face B's, and face B's after face
A's while the device has none; a periodic telegram alone, and one formed before the other face's. -/
theorem witness_ArbiterFollowsItsPriorities :
    let quiet := base.modLif fun l => { l with notices := ⟨none, none, none⟩ }
    (base.modLif fun l => { l with sending := some ⟨.notice, noticeFrame .device [.reset]⟩ }).lif.sending ≠ none ∧
      (let s := base.modLif fun l => { l with changed := [telegram] }
       s.lif.sending = none ∧ s.lif.changed = telegram :: []) ∧
      (let s := base.modLif fun l => { l with replies := [⟨0x10, 7, .done, [], 0⟩] }
       s.lif.sending = none ∧ s.lif.changed = [] ∧ s.lif.replies = ⟨0x10, 7, .done, [], 0⟩ :: []) ∧
      (base.lif.sending = none ∧ base.lif.changed = [] ∧ base.lif.replies = [] ∧ base.lif.notices.get .device = some [.reset] ∧
        Scope.device = State.nextScope base.lif.lastNotice) ∧
      (let s := base.modLif fun l => { l with notices := ⟨none, some [.doorHeld], some [.doorHeld]⟩, lastNotice := .face .A }
       s.lif.notices.get (.face .B) = some [.doorHeld] ∧ Scope.face .B = State.nextScope s.lif.lastNotice) ∧
      (let s := quiet.modProof .A fun p => { p with pending := some telegram }
       s.lif.sending = none ∧ s.lif.replies = [] ∧ s.lif.notices = ⟨none, none, none⟩ ∧ (s.face .A).proof.pending = some telegram ∧
         (s.face (Face.A).partner).proof.pending = none) ∧
      (let s := (quiet.modProof .A fun p => { p with pending := some telegram }).modProof .B fun p =>
         { p with pending := some { telegram with face := .B, formedAt := 6 } }
       (s.face .A).proof.pending = some telegram ∧ telegram.formedAt < 6 ∧
         (s.face .B).proof.pending = some { telegram with face := .B, formedAt := 6 }) := by decide +kernel

/-- A reply of 243 data bytes has one part, and one of 244 bytes two. -/
theorem witness_FrameEndMovesTheReplyOn :
    (let s := base.modLif fun l => { l with sending := some ⟨.notice, noticeFrame .device [.reset]⟩ }
     s.running = true ∧ s.lif.sending = some ⟨.notice, noticeFrame .device [.reset]⟩) ∧
      (let r : Reply := ⟨0x20, 7, .done, List.replicate 243 0, 0⟩
       r.isLast 0 = true) ∧
      (let r : Reply := ⟨0x20, 7, .done, List.replicate 244 0, 0⟩
       (∀ k < 1, r.isLast k = false) ∧ r.isLast 1 = true) := by decide +kernel

theorem witness_TrainTelegramsAreRefusedInOrder :
    base.running = true ∧ base.configured .B = false ∧ base.configured .A = true ∧ (base.face .A).berth.state = .vacant ∧
      parseArrival [0, 4] = none ∧ (standing .stopped).running = true ∧ (standing .stopped).configured .A = true ∧
      ((standing .stopped).face .A).berth.state ≠ .vacant ∧ ((standing .stopped).face .A).berth.state ≠ .departing ∧
      parsePosition [0, 3, 0xD0, 0x91, 0, 0] = none ∧ ((standing .departing).face .A).berth.state = .departing ∧ [0x00#8] ≠ [] := by
  decide +kernel

theorem witness_ArrivalBuildsTheTrain :
    base.running = true ∧ base.params? .A = some paramsA ∧ base.tables? .A = some tablesA ∧ (base.face .A).berth.state = .vacant ∧
      parseArrival [1, 1, 0x11, 0x22, 0x33, 0x44, 0] = some (.down, [(0x11223344, .end1Leading)]) ∧
      tablesA.consist[0]? = some ⟨true, 0, 0, 0⟩ ∧ (0x11223344 : Word32) &&& 0 = 0 &&& 0 ∧ tablesA.profiles[0]? = some (some profileA) ∧
      ¬(({ tablesA with consist := Vector.replicate 32 MatchEntry.absent } : Tables).consist.toList.any fun m => m.valid) := by decide +kernel

/-- Face A's position bytes. -/
def positionBytes (position speed : Nat) : List Byte := u32 position ++ u16 speed

theorem witness_accepted (st : BerthState) (position speed : Nat) (ring : List Sample) (h : st ≠ .vacant)
    (hp : parsePosition (positionBytes position speed) = some (position, speed)) :
    SampleAccepted (berthIn st ring base) 0 .A (positionBytes position speed) paramsA (sampleEntry paramsA position speed) :=
  ⟨rfl, rfl, h, ⟨position, speed, hp, rfl⟩, (fun _ h => nomatch h)⟩

/-- Policed 39 ms after the last sample, accepted at 40 ms; no standstill with 3 entries, no movement at the creep limit, and DEPARTING. -/
theorem witness_SampleIsPolicedClampedAndTested :
    (let s := (berthIn .approaching [] base).modBerth .A fun b => { b with lastSample := some 100 }
     s.running = true ∧ s.params? .A = some paramsA ∧ (s.face .A).berth.state ≠ .vacant ∧
       parsePosition (positionBytes 250000 0) = some (250000, 0) ∧ (s.face .A).berth.lastSample = some 100 ∧ (s.advance 139999).ms < 100 + 40 ∧
       100 + 40 ≤ (s.advance 140000).ms) ∧
      standstill 20 [⟨101790, 0, false⟩, ⟨101779, 0, false⟩, ⟨101786, 0, false⟩] = false ∧
      standstill 20 [⟨100000, 0, false⟩, ⟨100020, 0, false⟩, ⟨100000, 0, false⟩, ⟨100010, 0, false⟩] = true ∧
      moved 20 (some 101784) ⟨101804, 0, false⟩ = false ∧ moved 20 (some 101784) ⟨101805, 0, false⟩ = true ∧
      parsePosition (positionBytes 59999 0) = some (59999, 0) ∧ (sampleEntry paramsA 59999 30001).clamped = true ∧
      ((berthIn .departing [] base).face .A).berth.state = .departing := by decide +kernel

theorem witness_StandstillAndMovementMoveTheBerth :
    standstill paramsA.creep [⟨101790, 0, false⟩, ⟨101779, 0, false⟩, ⟨101786, 0, false⟩, sampleEntry paramsA 101780 0] = true ∧
      SampleAccepted (standing .aligning) 0 .A (positionBytes 101805 0) paramsA (sampleEntry paramsA 101805 0) ∧
      SampleAccepted (standing .stopped) 0 .A (positionBytes 101805 0) paramsA (sampleEntry paramsA 101805 0) ∧
      moved paramsA.creep ((standing .stopped).face .A).berth.stop (sampleEntry paramsA 101805 0) = true :=
  ⟨by decide, ⟨rfl, rfl, by decide, ⟨101805, 0, by decide, rfl⟩, (fun _ h => nomatch h)⟩,
    ⟨rfl, rfl, by decide, ⟨101805, 0, by decide, rfl⟩, (fun _ h => nomatch h)⟩, by decide⟩

theorem ordered_standing (st : BerthState) : doorsOrdered (standing st) := by intro f; cases f <;> cases st <;> decide +kernel

/-- The inputs of a computation: a unit whose profile is in the active bank, one whose profile is absent there, and one without a profile. -/
theorem witness_inputs :
    let s := standing .aligning
    s.tbs.active.get .A = some .b0 ∧ (s.tbs.bank .b0).tables.params.get .A = some paramsA ∧ (s.face .A).berth.train = some (trainA []) ∧
      (s.face .A).berth.stop = some 101784 ∧ (trainA []).units[0]? = some ⟨0x11223344, .end1Leading, some 0⟩ ∧
      tablesA.profiles[0]? = some (some profileA) ∧ tablesA.profiles[1]? = some none ∧
      (s.alignInput .A).units.map (fun x => x.2.isSome) = [true] := by decide +kernel

/-- Movement without proof, and with it. -/
theorem witness_MovementInDwellingDeparts :
    doorsOrdered (standing .dwelling) ∧
      SampleAccepted (standing .dwelling) 0 .A (positionBytes 101805 0) paramsA (sampleEntry paramsA 101805 0) ∧
      ((standing .dwelling).face .A).berth.state = .dwelling ∧
      moved paramsA.creep ((standing .dwelling).face .A).berth.stop (sampleEntry paramsA 101805 0) = true ∧
      (((standing .dwelling).opened 0).intactFrame.face .A).proof.held = false ∧
      (((((standing .dwelling).modProof .A fun p => { p with held := true }).opened 0).intactFrame).face .A).proof.held = true :=
  ⟨ordered_standing _, ⟨rfl, rfl, by decide, ⟨101805, 0, by decide, rfl⟩, (fun _ h => nomatch h)⟩, rfl, by decide, by decide +kernel,
    by decide +kernel⟩

theorem witness_DepartureClosesTheDoors :
    let s := withDoorA 1 (fun d => { d with state := .opened }) (standing .dwelling)
    (∀ f, ((s.face f).doors.map fun d => d.number).Pairwise (· < ·)) ∧ s.running = true ∧ s.params? .A = some paramsA ∧
      (s.face .A).berth.state ≠ .vacant ∧ (s.face .A).berth.state ≠ .departing ∧ ((s.opened 0).intactFrame.face .A).proof.held = false ∧
      ∃ d ∈ (s.face .A).doors, d.state ≠ .closed ∧ d.state ≠ .isolated :=
  ⟨fun f => by cases f <;> decide +kernel, rfl, rfl, by decide, by decide, by decide +kernel, by decide +kernel⟩

theorem witness_ClearedAndLapsesEndTheTrain :
    let s := (standing .departing).modBerth .A fun b => { b with supervision := some 500 }
    s.running = true ∧ (s.face .A).berth.state = .departing ∧ NoAdoption s .A ∧ s.configured .A = true ∧
      (s.face .A).berth.supervision = some 500 ∧ 500 ≤ (s.advance 500000).ms ∧
      (((standing .dwelling).modBerth .A fun b => { b with supervision := some 500 }).face .A).berth.supervision = some 500 ∧
      ((staged s).running = true ∧ ((staged s).face .A).berth.state = .departing ∧ (staged s).configured .A = true) :=
  ⟨rfl, rfl, (fun _ h => nomatch h), rfl, rfl, by decide, rfl, rfl, rfl, rfl⟩

/-- The base with bank 1 staged, for a face that has not adopted it; for the second clause pair the partner has. -/
theorem witness_AdoptionTakesTheStagedBank :
    let s := staged base
    let u := s.modTbs fun x => { x with active := ⟨some .b0, some .b1⟩ }
    NoAdoption base .A ∧ ((standing .stopped).face .A).berth.state ≠ .vacant ∧ s.tbs.staged = some .b1 ∧ s.tbs.active.get .A ≠ some .b1 ∧
      (s.face .A).berth.state = .vacant ∧ (s.face .A).release.state = .normal ∧ (s.face .A).release.input = .deasserted ∧
      s.tbs.active.get (Face.A).partner ≠ some .b1 ∧ u.tbs.active.get (Face.A).partner = some .b1 ∧
      (s.face .A).doors.find? (fun x => x.drop = 3) = some (closedDoor 1 3) :=
  ⟨(fun _ h => nomatch h), by decide, rfl, by decide, rfl, rfl, rfl, by decide, rfl, by decide +kernel⟩

/-- For the second part of the adoption: an ASSERTED input; a face that the bank leaves unconfigured, and one that it newly configures, with
an idle line without doors; a turn and a tunnel exchange at a drop address that stays, and at one that leaves. -/
theorem witness_adoption_line_and_input :
    let s := staged base
    let drops := s.modTbs fun x => { x with bank1 := ⟨.staged, { tablesA with doors := ⟨tableOf (doorsA.take 2), Vector.replicate 32 none⟩ }⟩ }
    let exchange := fun drop => drops.modLine .A fun l =>
      { l with running := true, turn := some ⟨drop, .poll, .nothing 0, 900, false⟩, tunnel := some ⟨7, drop, [1], 0, false⟩ }
    let newly := s.modTbs fun x => { x with bank0 := ⟨.active, Tables.empty⟩ }
    (s.tbs.staged = some .b1 ∧ s.tbs.active.get .A ≠ some .b1 ∧ ((s.modRelease .A fun r => { r with input := .asserted }).face .A).release.input =
        .asserted ∧ ((s.tbs.bank .b1).tables.params.get .A).isSome = true ∧ s.configured .A = true) ∧
      (((s.tbs.bank .b1).tables.params.get .B).isSome = false ∧ (s.face .B).berth.state = .vacant ∧ (s.face .B).release.state = .normal) ∧
      (newly.configured .A = false ∧ ((newly.modDoors .A fun _ => []).face .A).doors = [] ∧
        (newly.face .A).line.turn = none ∧ ((newly.tbs.bank .b1).tables.params.get .A).isSome = true) ∧
      (((exchange 5).face .A).line.tunnel = some ⟨7, 5, [1], 0, false⟩ ∧ ∃ d ∈ ((exchange 5).testAdoption .A |>.face .A).doors, d.drop = 5) ∧
      (((exchange 9).face .A).line.tunnel = some ⟨7, 9, [1], 0, false⟩ ∧ ∀ d ∈ ((exchange 9).testAdoption .A |>.face .A).doors, d.drop ≠ 9) :=
  by decide +kernel

theorem witness_EnableSetNeedsTheClearWidth :
    (∃ o, (o, none) ∈ ({ caseA 101784 with units := [(.end1Leading, none)] } : AlignInput).units) ∧
      (caseA 101784).units = [(Orientation.end1Leading, profileA)].map fun u => (u.1, some u.2) :=
  ⟨⟨.end1Leading, by simp⟩, rfl⟩

/-- A computation for face A's ticket 0 under way, with the two faces' requests waiting. -/
def computing (st : BerthState) (w : PerFace (Option Waiting)) : State :=
  (standing st).modAln fun e => { e with inflight := some ⟨.A, 0, caseA 101784⟩, waiting := w }

theorem witness_CompletionIsTakenByItsTicket :
    (computing .aligning ⟨none, none⟩).running = true ∧
      (computing .aligning ⟨none, none⟩).aln.inflight = some ⟨.A, 0, caseA 101784⟩ ∧
      ((computing .aligning ⟨none, none⟩).face .A).berth.state = .aligning ∧
      ((computing .aligning ⟨none, none⟩).face .A).berth.ticket = 0 ∧
      ((computing .aligning ⟨none, none⟩).face .A).release.state ≠ .evacuating ∧
      ((computing .stopped ⟨some ⟨1, 5⟩, some ⟨2, 5⟩⟩).face .A).berth.state ≠ .aligning ∧ (align (caseA 101649)).misaligned = true ∧
      (align (caseB .end2Leading)).partialAlign = true ∧
      (align { caseA 101784 with units := [(.end1Leading, none)] }).noProfile = true :=
  ⟨rfl, rfl, rfl, rfl, by decide, by decide, by decide +kernel, by decide +kernel, by decide +kernel⟩

/-- A completion that face A's ALIGNING berth accepts under evacuation, with door 3, of its new set, CLOSED and unlatched. -/
theorem witness_completion_under_evacuation :
    let s := (computing .aligning ⟨none, none⟩).modRelease .A fun r => { r with state := .evacuating }
    (∀ f, ((s.face f).doors.map fun d => d.number).Pairwise (· < ·)) ∧ s.running = true ∧
      s.aln.inflight = some ⟨.A, 0, caseA 101784⟩ ∧ (s.face .A).berth.state = .aligning ∧ (s.face .A).berth.ticket = 0 ∧
      (s.face .A).release.state = .evacuating ∧ (align (caseA 101784)).enable.contains 3 = true ∧
      (s.findDoor .A 3).map (fun d => (d.state, d.latched, d.isolation)) = some (.closed, false, .none) :=
  ⟨fun f => by cases f <;> decide +kernel, rfl, rfl, rfl, rfl, rfl, by decide +kernel, by decide +kernel⟩

/-- Door requests with each test's failure: no face, an unconfigured face, no such door, and the states of the later tests. -/
theorem witness_DoorRequestsTestInOrder :
    (Takes (ask 0x10 0 [] base) (rq 0x10 0 []) [] (some .openFace) ∧ (rq 0x10 0 []).face? = none) ∧
      (Takes (ask 0x12 2 [1] base) (rq 0x12 2 [1]) [] (some .reopenDoor) ∧ (rq 0x12 2 [1]).face? = some .B ∧ base.configured .B = false) ∧
      (Takes (ask 0x21 1 [6] base) (rq 0x21 1 [6]) [] (some .readDoor) ∧ (rq 0x21 1 [6]).body = [6] ∧
        ∀ d ∈ (base.face .A).doors, d.number ≠ 6) ∧
      (Takes (ask 0x10 1 [] (standing .stopped)) (rq 0x10 1 []) [] (some .openFace) ∧ (standing .stopped).configured .A = true ∧
        (rq 0x10 1 []).face? = some .A ∧ (rq 0x10 1 []).body = []) ∧
      (Takes (ask 0x11 1 [] ((standing .dwelling).modRelease .A fun r => { r with state := .evacuating })) (rq 0x11 1 []) [] (some .closeFace)) ∧
      (Takes (ask 0x12 1 [1] (standing .dwelling)) (rq 0x12 1 [1]) [] (some .reopenDoor) ∧ (rq 0x12 1 [1]).body = [1] ∧
        ((standing .dwelling).findDoor .A (1 : Byte).toNat).map (fun d => (d.enabled, d.state)) = some (true, .closed) ∧
        ((standing .dwelling).findDoor .A (5 : Byte).toNat).map (fun d => d.enabled) = some false) ∧
      (Takes (ask 0x13 1 [1] (standing .dwelling)) (rq 0x13 1 [1]) [] (some .closeDoor)) ∧
      Takes (ask 0x15 1 [1] (standing .dwelling)) (rq 0x15 1 [1]) [] (some .returnDoor) ∧
      ((standing .dwelling).findDoor .A (1 : Byte).toNat).map (fun d => d.isolation) = some .none ∧
      Takes (ask 0x16 0 [0, 255] base) (rq 0x16 0 [0, 255]) [] (some .restore) ∧
      Takes (ask 0x17 3 [] base) (rq 0x17 3 []) [] (some .evacuate) ∧ (rq 0x17 3 []).face? = none ∧
      Takes (ask 0x19 0 [7] base) (rq 0x19 0 [7]) [] (some .holdCancel) ∧ (rq 0x19 0 [7]).face? = none :=
  ⟨⟨⟨rfl, rfl, rfl, rfl⟩, rfl⟩, ⟨⟨rfl, rfl, rfl, rfl⟩, rfl, rfl⟩, ⟨⟨rfl, rfl, rfl, rfl⟩, rfl, by decide⟩, ⟨⟨rfl, rfl, rfl, rfl⟩, rfl, rfl, rfl⟩,
    ⟨rfl, rfl, rfl, rfl⟩, ⟨⟨rfl, rfl, rfl, rfl⟩, rfl, rfl, rfl⟩, ⟨rfl, rfl, rfl, rfl⟩, ⟨rfl, rfl, rfl, rfl⟩, rfl, ⟨rfl, rfl, rfl, rfl⟩,
    ⟨rfl, rfl, rfl, rfl⟩, rfl, ⟨rfl, rfl, rfl, rfl⟩, rfl⟩

/-- The order of the doors does not depend on the intake queue. -/
theorem ordered_asked (st : BerthState) (k f : Byte) (b : List Byte) : doorsOrdered (ask k f b (standing st)) := ordered_standing st

theorem witness_OpenFaceOpensTheEnabledDoors :
    doorsOrdered (ask 0x10 1 [] (standing .stopped)) ∧ Takes (ask 0x10 1 [] (standing .stopped)) (rq 0x10 1 []) [] (some .openFace) ∧
      (rq 0x10 1 []).face? = some .A ∧ (rq 0x10 1 []).body = [] ∧ (standing .stopped).configured .A = true ∧
      ((standing .stopped).face .A).berth.state = .stopped ∧ ((standing .stopped).face .A).berth.enable ≠ [] ∧
      ((standing .stopped).face .A).release.state = .normal ∧ ((standing .stopped).face .A).proof.holdClosed.nonempty = false :=
  ⟨ordered_asked _ _ _ _, ⟨rfl, rfl, rfl, rfl⟩, rfl, rfl, rfl, rfl, by decide, rfl, rfl⟩

/-- The partner with a deferral whose partner dwell time is 0, and one whose is not; face A with a deferral of its own. -/
theorem witness_open_face_partner :
    let s := fun (t : Millis) => (standing .stopped).modDeferral .B fun d => { d with used := some ⟨0, ⟨.B, 0, 0, t, 120000⟩⟩ }
    (((s 0).face (Face.A).partner).deferral.used = some ⟨0, ⟨.B, 0, 0, 0, 120000⟩⟩ ∧ (((s 0).face .A).berth.state = .stopped)) ∧
      ((s 1).face (Face.A).partner).deferral.used = some ⟨0, ⟨.B, 0, 0, 1, 120000⟩⟩ ∧
      (((standing .stopped).modDeferral .A fun d => { d with used := some ⟨0, ⟨.A, 0, 0, 0, 1000⟩⟩ }).face .A).deferral.used ≠ none := by
  decide +kernel

/-- A hold entry of face A that every identifier matches. -/
def holdA : HoldEntry := ⟨.A, 0, 0, 60000, 120000⟩

/-- Face A dwelling with a hold in slot 7, asked to close. -/
def heldClose (view : PartnerView) : State :=
  ask 0x11 1 [] ({ standing .dwelling with holds := (Vector.replicate 8 none).set 7 (some holdA) }.modDeferral .A fun d =>
    { d with partnerView := view })

theorem witness_CloseFaceClosesTheDoors :
    doorsOrdered (ask 0x11 1 [] (standing .dwelling)) ∧ Takes (ask 0x11 1 [] (standing .dwelling)) (rq 0x11 1 []) [] (some .closeFace) ∧
      ((standing .dwelling).face .A).release.state ≠ .evacuating ∧ ((standing .dwelling).face .A).deferral.used = none ∧
      (∀ i : Fin 8, (standing .dwelling).holds[i] = none) ∧
      (((standing .dwelling).modDeferral .A fun d => { d with used := some ⟨0, holdA⟩ }).face .A).deferral.used ≠ none :=
  ⟨ordered_asked _ _ _ _, ⟨rfl, rfl, rfl, rfl⟩, by decide, rfl, by decide +kernel, by decide⟩

/-- The partner not dwelling; dwelling for exactly T; dwelling for 1 ms less than T. -/
theorem witness_CloseFaceBeginsADeferral :
    let s := heldClose (.dwelling 0)
    (∀ f, ((s.face f).doors.map fun d => d.number).Pairwise (· < ·)) ∧ Takes s (rq 0x11 1 []) [] (some .closeFace) ∧
      (s.face .A).release.state ≠ .evacuating ∧ (s.face .A).deferral.used = none ∧ (s.face .A).berth.state = .dwelling ∧
      s.firstUnit .A = some 0x11223344 ∧ s.holds[(7 : Fin 8)] = some holdA ∧ holdA.face = .A ∧
      (0x11223344 : Word32) &&& holdA.mask = holdA.key &&& holdA.mask ∧ (∀ j : Fin 8, j < 7 → s.holds[j] = none) ∧
      (s.face .A).deferral.partnerView = .dwelling 0 ∧ 0 + holdA.minDwell ≤ (s.advance 60000000).ms ∧
      (s.advance 59999999).ms < 0 + holdA.minDwell ∧ ((heldClose .notDwelling).face .A).deferral.partnerView = .notDwelling :=
  ⟨fun f => by cases f <;> decide +kernel, ⟨rfl, rfl, rfl, rfl⟩, by decide, rfl, rfl, rfl, by decide +kernel, rfl, by decide,
    by decide +kernel, rfl, by decide +kernel, by decide +kernel, rfl⟩

/-- Face A dwelling with its last door in a state, asked to do something with it. -/
def askDoor (kind : Byte) (n : Byte) (g : Door → Door) : State := ask kind 1 [n] (withDoorA n.toNat g (standing .dwelling))

theorem witness_ReopenAndCloseDoorActOnOneDoor :
    let s := askDoor 0x12 4 fun d => { d with state := .held }
    let u := askDoor 0x13 4 fun d => { d with state := .opened }
    (Takes s (rq 0x12 1 [4]) [] (some .reopenDoor) ∧ (rq 0x12 1 [4]).face? = some .A ∧ s.configured .A = true ∧ (rq 0x12 1 [4]).body = [4] ∧
      s.findDoor .A 4 = some { closedDoor 4 12 with state := .held, enabled := true } ∧ (s.face .A).berth.state = .dwelling ∧
      (s.face .A).release.state = .normal ∧ (s.face .A).proof.holdClosed.nonempty = false) ∧
      Takes u (rq 0x13 1 [4]) [] (some .closeDoor) ∧ u.findDoor .A 4 = some { closedDoor 4 12 with state := .opened, enabled := true } :=
  ⟨⟨⟨rfl, rfl, rfl, rfl⟩, rfl, rfl, rfl, by decide +kernel, rfl, rfl, rfl⟩, ⟨rfl, rfl, rfl, rfl⟩, by decide +kernel⟩

/-- The branches of an open and a close of a door: a slot that is empty, and one that is full; no zone OCCUPIED, and one; a door that may
recycle, and one that may not. The tables of R73 to R75: a LOST door; RECYCLING with and without its dwell. -/
theorem witness_opens_closes_and_tables :
    (closedDoor 1 3).link.slot = none ∧ (contextAt 0 false).occupied = false ∧ (contextAt 0 true).occupied = true ∧
      ((closing3 0).enabled = true ∧ 0 < (contextAt 0 true).maxRecycles ∧ (contextAt 0 true).evacuating = false) ∧
      (closedDoor 1 3).enabled = false ∧ ((closedDoor 1 3).place (contextAt 0 false) .openCmd .routine).link.slot ≠ none ∧
      ({ closedDoor 1 3 with state := .lost } : Door).departing = true ∧
      ({ closedDoor 1 3 with state := .lost, evacOpened := true } : Door).restorable = true ∧
      ({ closing3 0 with state := .recycling, timer := some ⟨.recycleDwell, 5⟩ } : Door).timer = some ⟨.recycleDwell, 5⟩ ∧
      ({ closing3 0 with state := .recycling, timer := none } : Door).evacuable = true := by decide +kernel

theorem witness_IsolateAndReturnDoor :
    let s := askDoor 0x14 1 fun d => { d with latched := true }
    let u := askDoor 0x15 1 fun d => { d with state := .isolated, isolation := .lockedOut,
                                              lastStatus := some ⟨.stoppedMid, false, false, false, false, 0⟩ }
    (Takes s (rq 0x14 1 [1]) [] (some .isolateDoor) ∧ (rq 0x14 1 [1]).face? = some .A ∧ s.configured .A = true ∧ (rq 0x14 1 [1]).body = [1] ∧
      s.findDoor .A 1 = some { closedDoor 1 3 with latched := true, enabled := true } ∧ s.tbs.staged = none) ∧
      (Takes u (rq 0x15 1 [1]) [] (some .returnDoor) ∧ (u.findDoor .A 1).map (fun d => d.isolation) = some .lockedOut ∧
        (u.findDoor .A 1).map (fun d => (d.latched, d.evacOpened, d.link.lost)) = some (false, false, false) ∧
        Status.settled ⟨.stoppedMid, false, false, false, false, 0⟩ = .stalled) ∧
      Takes (askDoor 0x14 1 fun d => { d with isolation := .lockedOut }) (rq 0x14 1 [1]) [] (some .isolateDoor) ∧
      (let v := staged (s.modRelease .A fun r => { r with state := .restoring, set := [⟨1, true, false⟩] })
       Takes v (rq 0x14 1 [1]) [] (some .isolateDoor) ∧ (v.face .A).release.state = .restoring ∧
         clearMark (1 : Byte).toNat true false (v.face .A).release.set = [] ∧ v.tbs.staged = some .b1) :=
  ⟨⟨⟨rfl, rfl, rfl, rfl⟩, rfl, rfl, rfl, by decide +kernel, rfl⟩, ⟨⟨rfl, rfl, rfl, rfl⟩, rfl, rfl, rfl⟩, ⟨rfl, rfl, rfl, rfl⟩,
    ⟨rfl, rfl, rfl, rfl⟩, rfl, by decide +kernel, rfl⟩

/-- The fields of HOLD_ADD with T 120,000 and H 300,000, the limits of both. -/
def holdFields : List Byte := [0, 0, 0, 0, 0, 0, 0, 0, 0, 1, 0xD4, 0xC0, 0, 4, 0x93, 0xE0]

theorem witness_HoldsAreAddedAndCancelled :
    (Takes (ask 0x18 1 holdFields base) (rq 0x18 1 holdFields) [] (some .holdAdd) ∧ (rq 0x18 1 holdFields).face? = some .A ∧
        base.configured .A = true ∧ parseHold .A (rq 0x18 1 holdFields).body = some ⟨.A, 0, 0, 120000, 300000⟩ ∧ base.holds[(0 : Fin 8)] = none) ∧
      parseHold .A (holdFields.take 15) = none ∧
      (let s := ({ base with holds := Vector.replicate 8 (some holdA) } : State)
       ∀ i : Fin 8, s.holds[i] ≠ none) ∧
      (Takes (ask 0x19 1 [7] { base with holds := (Vector.replicate 8 none).set 7 (some holdA) }) (rq 0x19 1 [7]) [] (some .holdCancel) ∧
        (rq 0x19 1 [7]).body = [BitVec.ofNat 8 (7 : Fin 8)]) ∧
      Takes (ask 0x19 1 [8] base) (rq 0x19 1 [8]) [] (some .holdCancel) ∧ 8 ≤ (8 : Byte).toNat :=
  ⟨⟨⟨rfl, rfl, rfl, rfl⟩, rfl, rfl, by decide +kernel, by decide +kernel⟩, by decide, by decide +kernel, ⟨⟨rfl, rfl, rfl, rfl⟩, rfl⟩,
    ⟨rfl, rfl, rfl, rfl⟩, by decide⟩

theorem witness_EvacuationBegins :
    doorsOrdered (ask 0x17 1 [] (standing .stopped)) ∧ (standing .stopped).configured .A = true ∧
      ((standing .stopped).face .A).release.state ≠ .evacuating ∧ (standing .stopped).running = true ∧
      Takes (ask 0x17 1 [] (standing .stopped)) (rq 0x17 1 []) [] (some .evacuate) ∧ (rq 0x17 1 []).face? = some .A ∧ (rq 0x17 1 []).body = [] ∧
      ((standing .stopped).face .A).berth.state = .stopped ∧ ((standing .approaching).face .A).berth.state ≠ .stopped ∧
      ((standing .approaching).face .A).berth.state ≠ .dwelling ∧ doorsOrdered (standing .approaching) :=
  ⟨ordered_asked _ _ _ _, rfl, by decide, rfl, ⟨rfl, rfl, rfl, rfl⟩, rfl, rfl, rfl, by decide, by decide, ordered_standing _⟩

theorem witness_EvacuationInForceOpensOnlyAStoppedTrain :
    let s := (standing .aligning).modRelease .A fun r => { r with state := .evacuating }
    base.running = true ∧ base.configured .B = false ∧ (s.face .A).release.state = .evacuating ∧
      Takes (ask 0x17 2 [] base) (rq 0x17 2 []) [] (some .evacuate) ∧ (rq 0x17 2 []).face? = some .B ∧
      Takes (ask 0x17 1 [] s) (rq 0x17 1 []) [] (some .evacuate) ∧ s.configured .A = true ∧ doorsOrdered s :=
  ⟨rfl, rfl, rfl, ⟨rfl, rfl, rfl, rfl⟩, rfl, ⟨rfl, rfl, rfl, rfl⟩, rfl, fun f => by cases f <;> decide +kernel⟩

theorem witness_RestoreIsRefusedInOrder :
    let s := ask 0x16 1 [19, 236] (released true)
    Takes s (rq 0x16 1 [19, 236]) [] (some .restore) ∧ (rq 0x16 1 [19, 236]).face? = some .A ∧ (rq 0x16 1 [19, 236]).body = [19, 236] ∧
      (rq 0x16 0 []).face? = none ∧ (rq 0x16 1 [19]).body.length ≠ 2 ∧ s.configured .A = true ∧ base.configured .B = false ∧
      (s.face .A).release.state = .released ∧ (base.face .A).release.state = .normal ∧
      ¬((18 : Byte) = (s.face .A).release.seq ∧ (237 : Byte).toNat = 255 - (18 : Byte).toNat) ∧ (19 : Byte) = (s.face .A).release.seq ∧
      (236 : Byte).toNat = 255 - (19 : Byte).toNat ∧ (s.face .A).release.input = .deasserted ∧
      (∃ m ∈ (s.face .A).release.set, m.latched = true ∧
        ∃ d st, s.findDoor .A m.door = some d ∧ d.lastStatus = some st ∧ st.releaseActuated = true) :=
  ⟨⟨rfl, rfl, rfl, rfl⟩, rfl, rfl, rfl, by decide, rfl, rfl, rfl, rfl, by decide, rfl, by decide, rfl,
    ⟨⟨4, true, false⟩, by decide, rfl, _, _, rfl, rfl, rfl⟩⟩

theorem witness_RestoreClosesTheReleasedDoors :
    let s := ask 0x16 1 [19, 236] (released false)
    let u := ask 0x16 1 [0, 255] ((standing .dwelling).modRelease .A fun r => { r with state := .evacuating })
    (∀ f, ((s.face f).doors.map fun d => d.number).Pairwise (· < ·)) ∧ Takes s (rq 0x16 1 [19, 236]) [] (some .restore) ∧
      s.configured .A = true ∧ (s.face .A).release.state = .released ∧ (19 : Byte) = (s.face .A).release.seq ∧
      (236 : Byte).toNat = 255 - (19 : Byte).toNat ∧ (s.face .A).release.input = .deasserted ∧
      (∀ m ∈ (s.face .A).release.set, ((s.findDoor .A m.door).bind fun d => d.lastStatus).all fun st => st.releaseActuated = false) ∧
      s.tbs.staged = none ∧ (s.face .A).release.set ≠ [] ∧
      Takes u (rq 0x16 1 [0, 255]) [] (some .restore) ∧ (u.face .A).release.state = .evacuating ∧ (u.face .A).release.set = [] ∧
      (255 : Byte).toNat = 255 - (0 : Byte).toNat ∧ (staged u).tbs.staged = some .b1 ∧
      Takes (staged u) (rq 0x16 1 [0, 255]) [] (some .restore) ∧ ((staged u).face .A).release.set = [] :=
  ⟨fun f => by cases f <;> decide +kernel, ⟨rfl, rfl, rfl, rfl⟩, rfl, rfl, rfl, by decide, rfl, by decide +kernel, rfl, by decide,
    ⟨rfl, rfl, rfl, rfl⟩, rfl, rfl, by decide, rfl, ⟨rfl, rfl, rfl, rfl⟩, rfl⟩

/-- Payloads of 1 and of 32 bytes are forwarded, of 33 bytes refused. -/
theorem witness_TunnelIsForwardedOrRefused :
    let body := fun n => 1 :: List.replicate n 0x55#8
    Takes (ask 0x30 1 (body 32) base) (rq 0x30 1 (body 32)) [] (some .tunnel) ∧ (rq 0x30 1 (body 32)).face? = some .A ∧
      (rq 0x30 1 (body 32)).body = 1 :: List.replicate 32 0x55#8 ∧ 33 < (body 33).length ∧ 1 ≤ (List.replicate 1 0x55#8).length ∧
      base.findDoor .A 1 = some (closedDoor 1 3) ∧ (base.face .A).berth.state = .vacant ∧ (base.face .A).line.tunnel = none ∧
      ((standing .stopped).findDoor .A 1).map (fun d => d.state) = some .closed ∧ ((standing .stopped).face .A).berth.state ≠ .vacant ∧
      (let s := base.modLine .A fun l => { l with tunnel := some ⟨7, 3, [1], 0, true⟩ }
       s.running = true ∧ (s.face .A).line.tunnel = some ⟨7, 3, [1], 0, true⟩ ∧ 0 + 200 ≤ (s.advance 200000).ms) :=
  ⟨⟨rfl, rfl, rfl, rfl⟩, rfl, rfl, by decide, by decide, by decide +kernel, rfl, rfl, rfl, by decide, rfl, rfl, by decide⟩

/-- Every branch of a status: a LOST door; one that is locked out, and one RELEASED; a lever found actuated; the local switch found,
kept and given back as each settled state; a drive fault at a door that is STALLED, and at one that is not; an obstruction of a door that
stays CLOSING, and of one that the position makes CLOSED. -/
theorem witness_StatusIsMappedByTheDoorState :
    let inState := fun (x : DoorState) => ({ closedDoor 3 9 with state := x } : Door)
    let cut := { inState .isolated with isolation := .localSwitch }
    let st := fun (p : Position) (o r l f : Bool) => (⟨p, o, r, l, f, 0⟩ : Status)
    (inState .lost).state = .lost ∧ { inState .isolated with isolation := .lockedOut }.isolation = .lockedOut ∧ (inState .released).state = .released ∧
      ((inState .closing).isolation = .none ∧ (inState .closing).latched = false ∧ (st .opened false true false false).releaseActuated = true) ∧
      ((st .opened false false true false).releaseActuated = false ∧ (st .opened false false true false).localIsolation = true) ∧
      (cut.isolation = .localSwitch ∧ (st .opened false false false false).localIsolation = false ∧
        (st .stoppedMid false false false false).settled = .stalled ∧ (st .closedLocked false false false false).settled = .closed ∧
        (st .opened false false false false).settled = .opened ∧ (st .closing false false false false).settled = .unknown) ∧
      ((inState .stalled).state = .stalled ∧ (st .opened false false false true).driveFault = true) ∧
      (((inState .closing).mapPosition (contextAt 0 false) (st .stoppedMid true false false false)).door.state = .closing ∧
        (st .stoppedMid true false false false).obstruction = true) ∧
      ((inState .closing).mapPosition (contextAt 0 false) (st .closedLocked true false false false)).door.state ≠ .closing := by decide +kernel

/-- A door below the limit of recycles by 1, and one at it; an obstruction report on its way for a door in CLOSING. -/
theorem witness_ObstructionRecyclesOrHolds :
    ((closing3 1).enabled = true ∧ (closing3 1).recycleCount < (contextAt 0 false).maxRecycles ∧ (contextAt 0 false).evacuating = false) ∧
      ¬((closing3 2).recycleCount < (contextAt 0 false).maxRecycles) ∧ (contextAt 0 true).occupied = true ∧
      (let s := (withDoorA 3 (fun _ => closing3 0) base).modReports .A fun _ => [⟨2, [1]⟩, ⟨3, [9]⟩]
       s.running = true ∧ (s.face .A).reports = [⟨2, [1]⟩] ++ ⟨3, [9]⟩ :: [] ∧ s.findDoor .A 3 = some (closing3 0)) := by decide +kernel

/-- Each case of the return decision: a lever, a latched door with and without its CLOSE, each settled state, each waiting command. -/
theorem witness_ReturnDecisionFollowsItsTable :
    (contextAt 0 false).occupied = false ∧ (contextAt 0 true).occupied = true ∧
      ({ closedDoor 1 3 with isolation := .localSwitch } : Door).isolation = .localSwitch ∧ (closedDoor 1 3).latched = false ∧
      (closedDoor 1 3).slotCommand = none ∧
      ({ closedDoor 1 3 with link := { Door.newLink with slot := some ⟨.closeCmd, .urgent, none, 4⟩ } } : Door).slotCommand = some .closeCmd ∧
      ({ closedDoor 1 3 with link := { Door.newLink with slot := some ⟨.openCmd, .urgent, none, 4⟩ } } : Door).slotCommand = some .openCmd ∧
      ({ closedDoor 1 3 with link := { Door.newLink with slot := some ⟨.haltCmd, .urgent, none, 4⟩ } } : Door).slotCommand = some .haltCmd ∧
      Status.settled ⟨.opened, false, false, true, false, 0⟩ = .isolated ∧ Status.settled ⟨.opened, false, false, false, true, 0⟩ = .stalled ∧
      Status.settled ⟨.closedLocked, false, false, false, false, 0⟩ = .closed ∧
      Status.settled ⟨.opened, false, false, false, false, 0⟩ = .opened ∧ Status.settled ⟨.closing, false, false, false, false, 0⟩ = .unknown := by
  decide

/-- Each timer at the millisecond of its expiry. -/
theorem witness_DoorTimersStallOrClose :
    let s := fun st k => withDoorA 3 (fun d => { d with state := st, timer := some ⟨k, 6000⟩ }) base
    (s .opening .openTimeout).running = true ∧ 6000 ≤ ((s .opening .openTimeout).advance 6000000).ms ∧
      ((s .opening .openTimeout).findDoor .A 3).map (fun d => (d.state, d.timer)) = some (.opening, some ⟨.openTimeout, 6000⟩) ∧
      ((s .closing .closeTimeout).findDoor .A 3).map (fun d => (d.state, d.timer)) = some (.closing, some ⟨.closeTimeout, 6000⟩) ∧
      ((s .recycling .recycleDwell).findDoor .A 3).map (fun d => (d.state, d.timer)) = some (.recycling, some ⟨.recycleDwell, 6000⟩) := by
  decide +kernel

/-- A deferral at the millisecond at which its maximum timer and its partner dwell timer expire, with the partner seen dwelling. -/
theorem witness_DeferralEndsWithItsClose :
    let s := (standing .dwelling).modDeferral .A fun d =>
      { d with used := some ⟨0, holdA⟩, maximum := some 120000, partnerTimer := some 120000, partnerSeen := true }
    doorsOrdered s ∧ s.running = true ∧ (s.face .A).deferral.used ≠ none ∧ (s.face .A).deferral.maximum = some 120000 ∧
      (s.face .A).deferral.partnerTimer = some 120000 ∧ 120000 ≤ (s.advance 120000000).ms ∧ (s.face .A).deferral.partnerSeen = true ∧
      (base.face .A).deferral.used = none ∧ (s.ms < 0 + holdA.minDwell ∧ 0 + holdA.minDwell ≤ (s.advance 60000000).ms) :=
  ⟨fun f => by cases f <;> decide +kernel, rfl, by decide, rfl, rfl, by decide, rfl, rfl, by decide⟩

/-- An URGENT command before a tunnel exchange before the rotation; a first send in each class, at base 15; a lost link. -/
theorem witness_TurnsAndSendsAreChosenInOrder :
    let cmd : SlotCommand := ⟨.closeCmd, .urgent, none, 4⟩
    let d : Door := { closedDoor 5 14 with link := { Door.newLink with base := some 15, slot := some cmd } }
    (d ∈ [closedDoor 1 3, d] ∧ d.link.lost = false ∧ d.link.slot = some cmd ∧ cmd.urgency = .urgent) ∧
      (∀ x ∈ recordsA, x.link.slot = none) ∧ chooseTurn recordsA ⟨true, none, some 14, none⟩ = some (.poll, 3) ∧
      (let line : DoorLine := ⟨true, none, some 5, some ⟨7, 3, [1], 0, false⟩⟩
       line.tunnel = some ⟨7, 3, [1], 0, false⟩) ∧
      (closedDoor 3 9 ∈ recordsA ∧ 5 < 9 ∧ ∀ x ∈ recordsA, 5 < x.drop → 9 ≤ x.drop) ∧
      (d.link.slot = some cmd ∧ d.link.base = some 15 ∧ d.link.lost = false ∧ cmd.seq = none) ∧ { d.link with lost := true }.lost = true := by
  decide +kernel

/-- A turn of face A's line to drop address 9. -/
def turned (kind : TurnKind) (carried : Carried) (g : Door → Door) : State :=
  (withDoorA 3 g base).modLine .A fun l =>
    { l with running := true, turn := some ⟨9, kind, carried, 800, false⟩, tunnel := some ⟨7, 9, [1], 0, true⟩ }

/-- The bytes of a good frame with position CLOSED_LOCKED and echo 0 (R199), a lost link's return among them. -/
theorem witness_GoodFrameGivesTheDoorItsStatus :
    let s := turned .tunnel (.tunnel [1] 0) fun d => { d with link := { d.link with lost := true } }
    (∀ f, ((s.face f).doors.map fun d => d.number).Pairwise (· < ·)) ∧ ((s.face .A).doors.map fun y => y.drop).Nodup ∧ s.running = true ∧
      s.configured .A = true ∧ s.tbs.staged = none ∧ (s.face .A).line.turn = some ⟨9, .tunnel, .tunnel [1] 0, 800, false⟩ ∧
      (max s.now 800 ≤ 800 ∧ 800 + 11 * [9#8, 0, 0, 0].length ≤ max s.now 44 + 800) ∧ (s.face .A).release.state ≠ .restoring ∧
      judgeAnswer 9 [9, 0, 0, crc8 [9, 0, 0]] true = .good ⟨.closedLocked, false, false, false, false, 0⟩ none ∧
      s.findDrop .A 9 = some { closedDoor 3 9 with link := { Door.newLink with lost := true } } ∧
      (s.face .A).line.tunnel = some ⟨7, 9, [1], 0, true⟩ :=
  ⟨fun f => by cases f <;> decide +kernel, by decide +kernel, rfl, rfl, rfl, rfl, by decide, by decide, by decide +kernel, by decide +kernel, rfl⟩

/-- A status that clears the last mark of a RESTORING face with a bank staged; a CLOSE that a frame answers with another echo, with 2 sends
and with 1 left, and one whose link was lost. -/
theorem witness_good_frame_restores_and_charges :
    let s := staged ((turned .poll (.nothing 0) fun d => { d with state := .closing, latched := true }).modRelease .A fun r =>
      { r with state := .restoring, set := [⟨3, true, false⟩] })
    let st : Status := ⟨.closedLocked, false, false, false, false, 0⟩
    let d : Door := { closedDoor 3 9 with state := .closing, latched := true, link := { Door.newLink with base := some 0 } }
    let u := fun left => turned .poll (.command .closeCmd 10) fun d =>
      { d with link := { d.link with base := some 9, slot := some ⟨.closeCmd, .routine, some 10, left⟩ } }
    let sends := fun left => ((u left).findDrop .A 9).map fun d => d.link.slot
    (doorsOrdered s ∧ ((s.face .A).doors.map fun y => y.drop).Nodup ∧ s.running = true ∧ s.configured .A = true ∧
        (s.face .A).line.turn = some ⟨9, .poll, .nothing 0, 800, false⟩ ∧ (s.face .A).release.state = .restoring ∧
        (d.takeStatus ((s.advance 800).doorContext .A 3) st false).reports = [.latchCleared] ∧ s.tbs.staged = some .b1) ∧
      (sends 2 = some (some ⟨.closeCmd, .routine, some 10, 2⟩) ∧ sends 1 = some (some ⟨.closeCmd, .routine, some 10, 1⟩) ∧ st.echo ≠ 10 ∧
        ((u 1).face .A).line.turn = some ⟨9, .poll, .command .closeCmd 10, 800, false⟩ ∧ (u 1).tbs.staged = none) :=
  ⟨⟨fun f => by cases f <;> decide +kernel, by decide +kernel, rfl, rfl, rfl, rfl, by decide +kernel, rfl⟩,
    by decide +kernel, by decide +kernel, by decide, rfl, rfl⟩

/-- A window that expires, and a bad frame at its last microsecond: the count one below the limit of 3, and a send with 2 and with 1 left. -/
theorem witness_BadFrameIsChargedToItsUnit :
    let s := fun bad left => turned .poll (.command .closeCmd 10) fun d =>
      { d with link := { d.link with badCount := bad, base := some 9, slot := some ⟨.closeCmd, .routine, some 10, left⟩ } }
    (∀ f, (((s 2 4).face f).doors.map fun d => d.number).Pairwise (· < ·)) ∧ (((s 2 4).face .A).doors.map fun y => y.drop).Nodup ∧
      (s 2 4).running = true ∧ (s 2 4).params? .A = some paramsA ∧ ((s 2 4).face .A).line.turn = some ⟨9, .poll, .command .closeCmd 10, 800, false⟩ ∧
      (800 ≤ max (s 2 4).now 800 ∧ 800 + 11 * [8#8, 0, 0, 0].length ≤ max (s 2 4).now 44 + 800) ∧ judgeAnswer 9 [8, 0, 0, 0] true = .bad ∧ paramsA.badFrameLimit ≤ 2 + 1 ∧ ¬paramsA.badFrameLimit ≤ 1 + 1 ∧
      ((s 1 2).findDrop .A 9).map (fun d => d.link.slot) = some (some ⟨.closeCmd, .routine, some 10, 2⟩) ∧
      ((s 1 1).findDrop .A 9).map (fun d => d.link.slot) = some (some ⟨.closeCmd, .routine, some 10, 1⟩) :=
  ⟨fun f => by cases f <;> decide +kernel, by decide +kernel, rfl, rfl, rfl, by decide, by decide +kernel, by decide, by decide,
    by decide +kernel, by decide +kernel⟩

/-- A tunnel turn that is charged: the outstanding exchange was sent. -/
theorem witness_charged_tunnel :
    let s := turned .tunnel (.tunnel [1] 0) id
    (s.face .A).line.turn = some ⟨9, .tunnel, .tunnel [1] 0, 800, false⟩ ∧ (s.face .A).line.tunnel = some ⟨7, 9, [1], 0, true⟩ ∧
      after (exec (.answerWindowExpiry 800 .A) s) (fun u => (u.face .A).line.turn.map (fun x => (x.kind, x.drop)) = some (.tunnel, 9)) = true := by
  decide +kernel

theorem witness_FramesJoinTheirSlotsOrChangeNothing :
    base.running = true ∧ (base.face .A).line.turn = none ∧ judgeAnswer 9 [9, 0] true = .incomplete ∧
      (let x : Turn := ⟨9, .poll, .nothing 0, 2000, false⟩
       x.windowEnd < max base.now 2001 ∧ max base.now 1199 + 800 < x.windowEnd ∧
         x.windowEnd + 11 * [9#8, 0].length ≤ max base.now 1222 + 800 ∧
         max base.now 1243 + 800 < x.windowEnd + 11 * ([0#8, 0, 0].length + 1)) ∧
      (max base.now 1999 - base.gap.cycleStart < 2000 ∧ 18000 ≤ max base.now 18000 - base.gap.cycleStart) ∧
      2000 + 1000 * 15 ≤ max base.now 17999 - base.gap.cycleStart ∧ max base.now 17999 - base.gap.cycleStart < 3000 + 1000 * 15 := by decide

theorem witness_HeadsAndZonesFollowTheirScans :
    judgeScan 4 43 [4, 43, 1, 0x80, crc8 [4, 43, 1, 0x80]] true = some 0x0180 ∧ (head4 []).serves.a = true ∧
      ({ head4 [] with scan := .one [4, 43, 1, 0x80, crc8 [4, 43, 1, 0x80]] true } : Head).scanned 43 = some 0x0180 ∧
      (head4 []).scanned 43 = none ∧ metric 0x01C0 [0x80, 0x180, 0x180] = 3 ∧ (head4 []).state = .live ∧
      ({ head4 [] with state := .silent } : Head).state ≠ .live := by decide +kernel

/-- A cycle end 20,000 µs after the cycle's start at which zone 9 enters OCCUPIED while proof held. -/
theorem witness_CycleEndEvaluatesTheGap :
    let s := (base.modGap fun g => { g with
      heads := g.heads.map fun h => if h.slot = 4 then head4 [0, 0, 0, 0, 0, 0x80, 0x180, 0x180] else h
      zones := ⟨[zone9 .clear], []⟩ }).modProof .A fun p => { p with held := true }
    s.running = true ∧ s.gap.cycleStart + 20000 ≤ max s.now 20000 ∧ s.gap.adopted = ⟨false, false⟩ ∧ (s.face .A).proof.held = true ∧
      after (exec (.sensorCycleEnd 20000) s) (fun u => (u.gap.zones.a.map fun z => z.state) = [.occupied] ∧
        (u.face .A).reports = [⟨3, [9]⟩] ∧ EventKind.gapAfterClose ∈ u.lif.flags.a) = true := by decide +kernel

/-- A SILENT head serves face A while HEAD_SILENT is not active. -/
theorem witness_head_silent :
    let s := base.modGap fun g => { g with heads := [{ head4 [] with state := .silent }] }
    (s.face .A).proof.active.headSilent = false ∧ ∃ h ∈ s.gap.heads, h.serves.get .A = true ∧ h.state = .silent := by decide +kernel

/-- A cycle end after face A's adoption: zone 9 comes into force, and head 4 into use. -/
theorem witness_cycle_end_rebuilds :
    let s := base.modGap fun g => { g with adopted := ⟨true, false⟩ }
    s.running = true ∧ s.gap.cycleStart + 20000 ≤ max s.now 20000 ∧ s.gap.adopted ≠ ⟨false, false⟩ ∧
      (∃ e, tablesA.zones[(9 : Fin 64)] = some e ∧ e.face = .A) ∧
      after (exec (.sensorCycleEnd 20000) s) (fun u => u.gap.zones.a.map (fun z => (z.id, z.head)) = [(9, 4)] ∧
        (u.gap.heads.filter fun h => h.serves.a).map (fun h => (h.slot, h.state)) = [(4, .unknown)]) = true := by decide +kernel

/-- An entry made absent, one replaced, one with contents out of range, no such key, and a locked table. -/
theorem witness_EntriesAreWrittenAndRead :
    (Takes (ask 0x23 1 [1, 32, 0] base) (rq 0x23 1 [1, 32, 0]) [] (some .writeEntry) ∧ (rq 0x23 1 [1, 32, 0]).body = 1 :: 32 :: [0] ∧
        parseKey (rq 0x23 1 [1, 32, 0]).face? 1 32 = some (.door .A 32) ∧ base.tbs.edit = some .b1 ∧ base.tbs.validation = none) ∧
      parseKey (some .A) 1 33 = none ∧ ((base.modTbs fun x => { x with edit := none }).tbs.edit = none) ∧
      (tablesA.write (.door .A 32) none).isSome ∧ (tablesA.write (.door .A 1) (some [3, 0, 1, 0x51, 0xE4, 3, 0x84, 2, 0xBC])).isSome ∧
      tablesA.write (.door .A 1) (some [0, 0, 1, 0x51, 0xE4, 3, 0x84, 2, 0xBC]) = none ∧
      (Takes (ask 0x22 1 [1, 1, 32] base) (rq 0x22 1 [1, 1, 32]) [] (some .readEntry) ∧ (rq 0x22 1 [1, 1, 32]).body = [1, 1, 32] ∧
        bankOfCode 1 = some .b1 ∧ bankOfCode 2 = none ∧ (base.tbs.bank .b1).state ≠ .copying ∧
        ((base.modTbs fun x => { x with bank1 := ⟨.copying, tablesA⟩ }).tbs.bank .b1).state = .copying) :=
  ⟨⟨⟨rfl, rfl, rfl, rfl⟩, rfl, rfl, rfl, rfl⟩, rfl, rfl, by decide +kernel, by decide +kernel, by decide +kernel,
    ⟨⟨rfl, rfl, rfl, rfl⟩, rfl, rfl, rfl, by decide, rfl⟩⟩

/-- A validation of bank 1 under way. -/
def validating (t : Tables) : State := base.modTbs fun x => { x with bank1 := ⟨.edit, t⟩, validation := some ⟨7, .b1, 0⟩ }

theorem witness_ActivationValidatesStagesAndCopies :
    (Takes (ask 0x24 0 [1] base) (rq 0x24 0 [1]) [] (some .activate) ∧ (rq 0x24 0 [1]).body = [1] ∧ bankOfCode 1 = some .b1 ∧
        bankOfCode 2 = none ∧ base.tbs.edit = some .b1 ∧ base.tbs.edit ≠ some .b0 ∧ base.tbs.validation = none) ∧
      ((validating (invalid ⟨12, 97000, 700, 700⟩ ⟨14, 104500, 900, 700⟩)).running = true ∧
        (validating tablesA).tbs.validation = some ⟨7, .b1, 0⟩ ∧ validate (invalid ⟨12, 97000, 700, 700⟩ ⟨14, 104500, 900, 700⟩) ≠ none ∧
        validate tablesA = none ∧ (validating tablesA).conflict .b1 = none) ∧
      (let s := (validating tablesA).modBerth .A fun b => { b with state := .stopped }
       ∀ f, ((s.modBerth .B fun b => { b with state := .stopped }).face f).berth.state ≠ .vacant) ∧
      (let c : CopyRecord := ⟨.b1, .b0, 0⟩
       (base.modTbs fun x => { x with copy := some c }).tbs.copy = some c ∧ c.written = c.source.other) :=
  ⟨⟨⟨rfl, rfl, rfl, rfl⟩, rfl, rfl, rfl, rfl, by decide, rfl⟩, ⟨rfl, rfl, by decide +kernel, by decide +kernel, by decide +kernel⟩,
    fun f => by cases f <;> decide, rfl, rfl⟩

/-- TABLE_CONFLICT: a valid edit bank moves head 4 to face B while a train stands at face A. -/
theorem witness_conflict :
    let t : Tables := { tablesA with
      params := ⟨some paramsA, some paramsA⟩, doors := ⟨tableOf doorsA, tableOf doorsA⟩
      zones := (Vector.replicate 64 none).set 9 (some ⟨.B, 3, 4, 0x01C0, 3, 1, .recycle⟩) }
    let s := fun st => (standing st).modTbs fun x => { x with bank1 := ⟨.edit, t⟩ }
    validate t = none ∧ (s .stopped).conflict .b1 = some 4 ∧ (s .vacant).conflict .b1 = none := by decide +kernel

/-- An error limit at the bad count, and one above it; a scope that is read with an active condition. -/
theorem witness_DeviceRecordAndFlagsAnswerTheirRequests :
    let body := 1 :: List.replicate 23 (0x01 : Byte)
    Takes (ask 0x25 0 body base) (rq 0x25 0 body) [] (some .setDevice) ∧ ((parseDevice (rq 0x25 0 body).body).map fun x => x.1) = some 1 ∧
      parseDevice (0 :: List.replicate 23 0x01) = none ∧ base.lif.degraded = false ∧ base.lif.badCount < 1 ∧
      1 ≤ (base.modLif fun l => { l with badCount := 1 }).lif.badCount ∧
      Takes (ask 0x26 0 [2] base) (rq 0x26 0 [2]) [] (some .readEvents) ∧ (rq 0x26 0 [2]).body = [2] ∧
      Takes (ask 0x26 0 [3] base) (rq 0x26 0 [3]) [] (some .readEvents) ∧ 3 ≤ (3 : Byte).toNat :=
  ⟨⟨rfl, rfl, rfl, rfl⟩, by decide +kernel, by decide +kernel, rfl, by decide, by decide, ⟨rfl, rfl, rfl, rfl⟩, rfl, ⟨rfl, rfl, rfl, rfl⟩,
    by decide⟩

/-- A flag that is clear, one that is set, and a kind whose notice route is off. -/
theorem witness_raise :
    EventKind.reset ∈ base.lif.flags.get .device ∧ EventKind.copyDone ∉ base.lif.flags.get .device ∧
      (base.lif.route .copyDone).notice = true ∧
      ((base.modLif fun l => { l with routes := Vector.replicate 23 ⟨false, false⟩ }).lif.route .copyDone).notice = false := by decide +kernel

theorem witness_CountersAreSnappedReadAndCleared :
    let clearing := base.modLif fun l => { l with clearing := some ⟨some 7, 0⟩ }
    let prepared := base.modLif fun l => { l with preparing := some ⟨7, base.capture⟩ }
    Takes (ask 0x27 0 [] base) (rq 0x27 0 []) [] (some .snapshotCounters) ∧ base.lif.preparing = none ∧ base.lif.clearing = none ∧
      prepared.running = true ∧ prepared.lif.preparing = some ⟨7, base.capture⟩ ∧
      Takes (ask 0x28 0 [5] base) (rq 0x28 0 [5]) [] (some .readCounters) ∧ (5 : Byte).toNat ≤ 5 ∧ 6 ≤ (6 : Byte).toNat ∧
      base.lif.snapshot = none ∧ (base.modLif fun l => { l with snapshot := some base.capture }).lif.snapshot = some base.capture ∧
      Takes (ask 0x29 0 [] base) (rq 0x29 0 []) [] (some .clearCounters) ∧ clearing.running = true ∧
      clearing.lif.clearing = some ⟨some 7, 0⟩ :=
  ⟨⟨rfl, rfl, rfl, rfl⟩, rfl, rfl, rfl, rfl, ⟨rfl, rfl, rfl, rfl⟩, by decide, by decide, rfl, rfl, ⟨rfl, rfl, rfl, rfl⟩, rfl, rfl⟩

theorem witness_ReadsAnswerAndUndefinedKindsAreRefused :
    Takes (ask 0x20 0 [4] base) (rq 0x20 0 [4]) [] (some .readStatus) ∧ (rq 0x20 0 [4]).body = [4] ∧ 5 ≤ (5 : Byte).toNat ∧
      Takes (ask 0x21 1 [1] base) (rq 0x21 1 [1]) [] (some .readDoor) ∧ base.findDoor .A (1 : Byte).toNat = some (closedDoor 1 3) ∧
      base.lif.clearing = none ∧ Takes (ask 0x2B 0 [] base) (rq 0x2B 0 []) [] none ∧
      (let s := ask 0x20 0 [1] (base.modLif fun l => { l with clearing := some ⟨some 7, 0⟩ })
       Takes s (rq 0x20 0 [1]) [] (some .readStatus) ∧ s.lif.clearing ≠ none) :=
  ⟨⟨rfl, rfl, rfl, rfl⟩, rfl, by decide, ⟨rfl, rfl, rfl, rfl⟩, by decide +kernel, rfl, ⟨rfl, rfl, rfl, rfl⟩, ⟨rfl, rfl, rfl, rfl⟩, by decide⟩

theorem witness_ValidatedTablesHoldTheirChecks : validate tablesA = none ∧ tablesA.params.get .A = some paramsA := by decide +kernel

theorem witness_ProofIsDecidedAndTelegraphed :
    base.running = true ∧ (base.face .A).proof.periodicAt ≤ (base.advance 200000).ms := by decide

theorem witness_CrcsCheckTheirFrames :
    4 ≤ [0x02#8, 1, 7, 0].length ∧ (0#8) ++ (0#8) ≠ crc16 [0x02, 1, 7, 0] ∧ answerLength ([9, 0, 0] ++ [0]) = some ([9, 0, 0].length + 1) ∧
      (0 : Byte) ≠ crc8 [9, 0, 0] := by decide +kernel

theorem witness_FramesReadBackAsTheyWereEncoded :
    (List.replicate 250 0x55#8).length ≤ 250 ∧ (0x02 : Byte) ≠ 0x01 ∧ 10 < (encodeFrame 0x01 1 7 [0x04, 1, 2, 3]).length ∧
      [0x00#8] ≠ [] ∧ 4 < (0x05 : Byte).toNat ∧ 250 < (251 : Byte).toNat ∧ ([0x5A#8] : List Byte).head? ≠ some 0xA5 := by decide +kernel

/-- A safe state from which a step goes on: every invariant's hypotheses at the reset state, with a command in the queue. -/
theorem witness_invariants_go_on :
    let s := { State.reset with pending := [.inboundFrameDamaged 5] }
    step s = exec (.inboundFrameDamaged 5) { s with pending := [] } ∧
      after (step s) (fun u => u.lif.uplinkErrors = 1 ∧ u.pending = []) = true := ⟨rfl, by decide +kernel⟩

theorem witness_proofSafe : proofSafe State.reset := by intro f; cases f <;> exact ⟨rfl, rfl⟩

theorem witness_alertSafe : alertSafe State.reset := by intro f; cases f <;> decide +kernel

theorem witness_enableSafe : enableSafe (standing .stopped) := by intro f; cases f <;> decide +kernel

theorem witness_releaseSafe : releaseSafe base := by intro f; cases f <;> decide

theorem witness_bankSafe : bankSafe base :=
  ⟨fun b h => by cases h; exact ⟨rfl, rfl, fun f => by cases f <;> decide⟩, nofun, nofun, nofun⟩

theorem witness_queueSafe : queueSafe base := by unfold queueSafe; decide

theorem witness_gapSafe : gapSafe State.reset := by
  refine ⟨fun f => by cases f <;> exact nofun, ?_⟩
  decide +kernel

theorem witness_doorsOrdered : doorsOrdered (standing .dwelling) := ordered_standing _

/-- HEAD_SILENT active on face A, whose record withholds for it, and inactive on face B, which has no record. -/
theorem witness_setsFormed : setsFormed ((base.modProof .A fun p => { p with active := { noConditions with headSilent := true } }).formSets .A) := by
  intro f c; cases f <;> cases c <;> decide +kernel

theorem witness_blockersCurrent : blockersCurrent (base.decide .A) := by intro _ f; cases f <;> decide +kernel

theorem witness_marksMirrored : marksMirrored (released false) := by
  have noMarks : ((released false).face .B).release.set = [] := rfl
  have noDoors : ((released false).face .B).doors = [] := rfl
  intro f
  cases f
  · refine ⟨by decide +kernel, by decide +kernel, fun n => ?_⟩
    by_cases h : n = 4
    · subst h; decide +kernel
    · have marks : ∀ m ∈ ((released false).face .A).release.set, m.door = 4 ∧ m.evacOpened = false := by decide +kernel
      have doors : ∀ d ∈ ((released false).face .A).doors, (d.latched = true → d.number = 4) ∧ d.evacOpened = false := by decide +kernel
      constructor <;> constructor <;> rintro ⟨x, hx, hn, hy⟩
      · exact absurd (hn.symm.trans (marks x hx).1) h
      · exact absurd (hn.symm.trans ((doors x hx).1 hy)) h
      · exact absurd (hn.symm.trans (marks x hx).1) h
      · rw [(doors x hx).2] at hy; cases hy
  · simp [noMarks, noDoors]
end Sys2Proof.Machine.Tests
end

section
/-! PROOFS. The counters: SNAPSHOT_COUNTERS, SNAPSHOT_READY, READ_COUNTERS, CLEAR_COUNTERS and COUNTER_CLEAR_COMPLETE (R192, R193). -/

namespace Sys2Proof.Machine

namespace State

/-! ### A request that its block answers at once -/

/-- The state that the meaning of a request finds: the step has opened, and the request has left the intake queue. -/
def handed (s : State) (t : Micros) (rest : List Request) : State := (s.opened t).modLif fun l => { l with intake := rest }

@[simp] theorem handed_lif_preparing (s : State) (t : Micros) (rest : List Request) :
    (s.handed t rest).lif.preparing = s.lif.preparing := by simp [handed]

@[simp] theorem handed_lif_clearing (s : State) (t : Micros) (rest : List Request) :
    (s.handed t rest).lif.clearing = s.lif.clearing := by simp [handed]

@[simp] theorem handed_lif_snapshot (s : State) (t : Micros) (rest : List Request) :
    (s.handed t rest).lif.snapshot = s.lif.snapshot := by simp [handed]

@[simp] theorem handed_ms (s : State) (t : Micros) (rest : List Request) : (s.handed t rest).ms = (s.advance t).ms := by
  simp [handed, ms]

end State

/-- The step of a command whose request is taken. -/
theorem exec_of_takes {c : Instr} {s : State} {t : Micros} {r : Request} {rest : List Request} {k : Option RequestKind}
    {g : Request → State → State} (hc : exec c s = .next (s.event t fun s => s.takeRequest k g)) (h : Takes s r rest k) :
    exec c s = .next (g r (s.handed t rest)).arbitrate := by
  rw [hc, State.event_takes h, State.handed]

/-- A meaning that only answers its request gives the command's answer. -/
theorem answers_of_takes {c : Instr} {s : State} {t : Micros} {r : Request} {rest : List Request} {k : Option RequestKind}
    {g : Request → State → State} {result : Result} {data : List Byte}
    (hc : exec c s = .next (s.event t fun s => s.takeRequest k g)) (h : Takes s r rest k)
    (hg : g r (s.handed t rest) = (s.handed t rest).answer r result data) : Answers c s (s.opened t) r rest result data := by
  rw [Answers, exec_of_takes hc h, hg]
  rfl

/-! ### The five commands -/

theorem exec_snapshotCounters (t : Micros) (s : State) :
    exec (.snapshotCounters t) s = .next (s.event t fun s => s.takeRequest (some .snapshotCounters) State.takeSnapshot) := rfl

theorem exec_readCounters (t : Micros) (s : State) :
    exec (.readCounters t) s = .next (s.event t fun s => s.takeRequest (some .readCounters) State.takeReadCounters) := rfl

theorem exec_clearCounters (t : Micros) (s : State) :
    exec (.clearCounters t) s = .next (s.event t fun s => s.takeRequest (some .clearCounters) State.takeClear) := rfl

theorem exec_snapshotReady {s : State} (h : s.running = true) (t : Micros) :
    exec (.snapshotReady t) s = .next (s.opened t).snapshotDone.arbitrate := by
  rw [← State.event_running h]; rfl

theorem exec_counterClearComplete {s : State} (h : s.running = true) (t : Micros) :
    exec (.counterClearComplete t) s = .next (s.opened t).clearDone.arbitrate := by
  rw [← State.event_running h]; rfl

namespace State

/-! ### The snapshot (R192) -/

/-- The arbiter writes no live counter, and the request's leaving the queue writes none. -/
theorem handed_capture (s : State) (t : Micros) (rest : List Request) : (s.handed t rest).capture = (s.advance t).capture := by
  simp [handed, capture, ms, devicePage, doorPage, zonePage, findDoor]

/-- The test that SNAPSHOT_COUNTERS and CLEAR_COUNTERS share: work on the counters is in progress. -/
def countersBusy (s : State) : Prop := s.lif.preparing ≠ none ∨ s.lif.clearing ≠ none

theorem countersBusy_iff (s : State) : s.countersBusy ↔ (s.lif.preparing.isSome = true ∨ s.lif.clearing.isSome = true) := by
  simp [countersBusy, Option.isSome_iff_ne_none]

@[simp] theorem handed_countersBusy (s : State) (t : Micros) (rest : List Request) :
    (s.handed t rest).countersBusy ↔ s.countersBusy := by simp [countersBusy]

theorem not_countersBusy {s : State} (hp : s.lif.preparing = none) (hc : s.lif.clearing = none) : ¬ s.countersBusy := by
  simp [countersBusy, hp, hc]

theorem takeSnapshot_busy {s : State} {r : Request} (hb : r.body = []) (h : s.countersBusy) :
    takeSnapshot r s = s.refuse r .busy := by
  rw [takeSnapshot, withNoFields, if_pos hb, if_pos ((countersBusy_iff s).1 h)]

theorem takeSnapshot_free {s : State} {r : Request} (hb : r.body = []) (h : ¬ s.countersBusy) :
    takeSnapshot r s = s.modLif fun l => { l with preparing := some { tag := r.tag, snapshot := s.capture } } := by
  rw [takeSnapshot, withNoFields, if_pos hb, if_neg (mt (countersBusy_iff s).2 h)]

theorem snapshotDone_of_preparing {s : State} {p : Preparing} (h : s.lif.preparing = some p) :
    s.snapshotDone = s.modLif fun l =>
      { l with
        snapshot := some p.snapshot, preparing := none
        replies := l.replies ++ [⟨0x27, p.tag, .done, [], 0⟩] } := by
  rw [snapshotDone, h]; rfl

/-! ### READ_COUNTERS (R192) -/

/-- No page is named: the field is missing, is longer than a byte, or is above 5. -/
theorem parseByte_noPage {body : List Byte} (h : ∀ n, body = [n] → 6 ≤ n.toNat) :
    (parseByte body).filter (fun n => n ≤ 5) = none := by
  match body, h with
  | [], _ | _ :: _ :: _, _ => rfl
  | [n], h => simpa [parseByte] using Nat.lt_of_succ_le (h n rfl)

theorem parseByte_page {body : List Byte} {n : Byte} (hb : body = [n]) (hn : n.toNat ≤ 5) :
    (parseByte body).filter (fun n => n ≤ 5) = some n.toNat := by simp [hb, parseByte, hn]

theorem takeReadCounters_badArgument {s : State} {r : Request} (h : ∀ n, r.body = [n] → 6 ≤ n.toNat) :
    takeReadCounters r s = s.refuse r .badArgument := by
  rw [takeReadCounters, parseByte_noPage h]

theorem takeReadCounters_busy {s : State} {r : Request} {n : Byte} (hb : r.body = [n]) (hn : n.toNat ≤ 5)
    (hp : s.lif.preparing ≠ none) : takeReadCounters r s = s.refuse r .busy := by
  simp [takeReadCounters, parseByte_page hb hn, Option.isSome_iff_ne_none, hp]

theorem takeReadCounters_noSnapshot {s : State} {r : Request} {n : Byte} (hb : r.body = [n]) (hn : n.toNat ≤ 5)
    (hp : s.lif.preparing = none) (hx : s.lif.snapshot = none) : takeReadCounters r s = s.refuse r .badState := by
  simp [takeReadCounters, parseByte_page hb hn, hp, hx]

theorem takeReadCounters_page {s : State} {r : Request} {n : Byte} {x : Snapshot} (hb : r.body = [n]) (hn : n.toNat ≤ 5)
    (hp : s.lif.preparing = none) (hx : s.lif.snapshot = some x) :
    takeReadCounters r s = s.answer r .done (pageBytes x n.toNat) := by
  simp [takeReadCounters, parseByte_page hb hn, hp, hx]

/-! ### The clear (R193) -/

theorem takeClear_busy {s : State} {r : Request} (hb : r.body = []) (h : s.countersBusy) :
    takeClear r s = s.refuse r .busy := by
  rw [takeClear, withNoFields, if_pos hb, if_pos ((countersBusy_iff s).1 h)]

theorem takeClear_free {s : State} {r : Request} (hb : r.body = []) (h : ¬ s.countersBusy) :
    takeClear r s = s.modLif fun l => { l with clearing := some { tag := some r.tag, takenAt := s.ms } } := by
  rw [takeClear, withNoFields, if_pos hb, if_neg (mt (countersBusy_iff s).2 h)]

/-- While a clear runs every increment is lost. -/
theorem bump_eq (s : State) (n : Counter) : s.bump n = if s.lif.clearing = none then n + 1 else n := by
  cases h : s.lif.clearing <;> simp [bump, h]

@[simp] theorem zeroCounters_face (s : State) (f : Face) : s.zeroCounters.face f = zeroFace (s.face f) := by
  simp [zeroCounters, face]

@[simp] theorem zeroCounters_zones (s : State) (f : Face) :
    s.zeroCounters.gap.zones.get f = (s.gap.zones.get f).map fun z => { z with entries := 0 } := by
  simp [zeroCounters]

/-- The reply that a clear still has to give at its end: none where a soft reset took its tag away (R194). -/
def clearReply (x : Clearing) : List Reply := x.tag.toList.map fun tag => ⟨kindClear, tag, .done, [], 0⟩

/-- What the end of a clear leaves before it raises COUNTERS_CLEARED: the counters at 0 and the reply given. -/
def cleared (s : State) (x : Clearing) : State :=
  s.zeroCounters.modLif fun l =>
    { l with
      clearing := none
      replies := l.replies ++ clearReply x }

theorem clearDone_of_clearing {s : State} {x : Clearing} (h : s.lif.clearing = some x) :
    s.clearDone = (s.cleared x).raiseDevice .countersCleared := by
  rw [clearDone, h, cleared]
  cases hx : x.tag with
  | none => simp [clearReply, hx, modLif]
  | some tag => simp [clearReply, hx, modLif, reply]

@[simp] theorem cleared_face (s : State) (x : Clearing) (f : Face) : (s.cleared x).face f = zeroFace (s.face f) :=
  zeroCounters_face s f

@[simp] theorem cleared_gap (s : State) (x : Clearing) : (s.cleared x).gap = s.zeroCounters.gap := rfl

@[simp] theorem cleared_aln (s : State) (x : Clearing) :
    (s.cleared x).aln = { s.aln with computations := ⟨0, 0⟩, withdrawn := ⟨0, 0⟩ } := rfl

@[simp] theorem cleared_lif (s : State) (x : Clearing) :
    (s.cleared x).lif =
      { s.lif with
        uplinkErrors := 0, framesDiscarded := 0, requestsDropped := 0, clearing := none
        replies := s.lif.replies ++ clearReply x } := rfl

/-- A raised event counts no loss of proof. -/
@[simp] theorem raiseDevice_losses (s : State) (k : EventKind) (f : Face) :
    ((s.raiseDevice k).face f).proof.losses = (s.face f).proof.losses := by
  unfold raiseDevice raise
  split
  · rfl
  · unfold joinNotice; split <;> cases f <;> rfl

end State

/-- Every live counter of the part is 0 (R193). -/
structure CountersZero (u : State) : Prop where
  uplinkErrors : u.lif.uplinkErrors = 0
  framesDiscarded : u.lif.framesDiscarded = 0
  requestsDropped : u.lif.requestsDropped = 0
  computations : u.aln.computations = ⟨0, 0⟩
  withdrawn : u.aln.withdrawn = ⟨0, 0⟩
  heads : ∀ h ∈ u.gap.heads, h.missingScans = 0
  policed : ∀ f, (u.face f).berth.policed = 0
  clampedSamples : ∀ f, (u.face f).berth.clampedSamples = 0
  telegramsRefused : ∀ f, (u.face f).berth.telegramsRefused = 0
  deferrals : ∀ f, (u.face f).deferral.count = 0
  refused : ∀ f, (u.face f).release.refused = 0
  losses : ∀ f, (u.face f).proof.losses = 0
  zones : ∀ f, ∀ z ∈ u.gap.zones.get f, z.entries = 0
  doors : ∀ f, ∀ d ∈ (u.face f).doors,
    d.openCycles = 0 ∧ d.recycles = 0 ∧ d.obstructions = 0 ∧ d.superseded = 0 ∧ d.link.badFrames = 0

theorem cleared_countersZero (s : State) (x : Clearing) : CountersZero (s.cleared x) := by
  constructor <;> simp [State.zeroFace, State.zeroDoor, State.zeroCounters]

/-- The raised event and the arbiter leave every counter alone. -/
theorem CountersZero.raised {u : State} (h : CountersZero u) (k : EventKind) : CountersZero (u.raiseDevice k).arbitrate where
  uplinkErrors := by simpa using h.uplinkErrors
  framesDiscarded := by simpa using h.framesDiscarded
  requestsDropped := by simpa using h.requestsDropped
  computations := by simpa using h.computations
  withdrawn := by simpa using h.withdrawn
  heads := by simpa using h.heads
  policed := by simpa using h.policed
  clampedSamples := by simpa using h.clampedSamples
  telegramsRefused := by simpa using h.telegramsRefused
  deferrals := by simpa using h.deferrals
  refused := by simpa using h.refused
  losses := by simpa using h.losses
  zones := by simpa using h.zones
  doors := by simpa using h.doors

/-! ### The obligation, command by command -/

/-- SNAPSHOT_COUNTERS: BUSY while a snapshot or a clear is in progress, and else the copy of every counter begun (R192). -/
theorem snapshotCounters_taken {s : State} {r : Request} {rest : List Request} (h : Takes s r rest (some .snapshotCounters))
    (hb : r.body = []) (t : Micros) :
    (s.countersBusy → Refuses (.snapshotCounters t) s r rest .busy) ∧
    (¬ s.countersBusy → exec (.snapshotCounters t) s = .next ((s.opened t).modLif fun l =>
      { l with intake := rest, preparing := some { tag := r.tag, snapshot := (s.advance t).capture } }).arbitrate) := by
  constructor
  · intro busy
    exact answers_of_takes (exec_snapshotCounters t s) h (State.takeSnapshot_busy hb (by simpa using busy))
  · intro free
    rw [exec_of_takes (exec_snapshotCounters t s) h, State.takeSnapshot_free hb (by simpa using free), State.handed_capture]
    rfl

/-- READ_COUNTERS: a page that is not there, a snapshot in progress, no snapshot to read, and a page of the snapshot (R192). -/
theorem readCounters_taken {s : State} {r : Request} {rest : List Request} (h : Takes s r rest (some .readCounters)) (t : Micros) :
    ((∀ n, r.body = [n] → 6 ≤ n.toNat) → Refuses (.readCounters t) s r rest .badArgument) ∧
    ∀ n, r.body = [n] → n.toNat ≤ 5 →
      (s.lif.preparing ≠ none → Refuses (.readCounters t) s r rest .busy) ∧
      (s.lif.preparing = none → s.lif.snapshot = none → Refuses (.readCounters t) s r rest .badState) ∧
      ∀ x, s.lif.preparing = none → s.lif.snapshot = some x →
        Answers (.readCounters t) s (s.opened t) r rest .done (State.pageBytes x n.toNat) := by
  have answers {result : Result} {data : List Byte} := answers_of_takes (result := result) (data := data) (exec_readCounters t s) h
  refine ⟨fun bad => answers (State.takeReadCounters_badArgument bad), fun n hb hn => ⟨fun hp => ?_, fun hp hx => ?_, fun x hp hx => ?_⟩⟩
  · exact answers (State.takeReadCounters_busy hb hn (by simpa using hp))
  · exact answers (State.takeReadCounters_noSnapshot hb hn (by simpa using hp) (by simpa using hx))
  · exact answers (State.takeReadCounters_page hb hn (by simpa using hp) (by simpa using hx))

/-- CLEAR_COUNTERS: BUSY while a snapshot or a clear is in progress, and else the clear begun (R193). -/
theorem clearCounters_taken {s : State} {r : Request} {rest : List Request} (h : Takes s r rest (some .clearCounters))
    (hb : r.body = []) (t : Micros) :
    (s.countersBusy → Refuses (.clearCounters t) s r rest .busy) ∧
    (¬ s.countersBusy → exec (.clearCounters t) s = .next ((s.opened t).modLif fun l =>
      { l with intake := rest, clearing := some { tag := some r.tag, takenAt := (s.advance t).ms } }).arbitrate) := by
  constructor
  · intro busy
    exact answers_of_takes (exec_clearCounters t s) h (State.takeClear_busy hb (by simpa using busy))
  · intro free
    rw [exec_of_takes (exec_clearCounters t s) h, State.takeClear_free hb (by simpa using free), State.handed_ms]
    rfl

/-- SNAPSHOT_READY puts the copy in place of the readable snapshot and gives the reply (R192). -/
theorem snapshotReady_replaces {s : State} (h : s.running = true) {p : Preparing} (hp : s.lif.preparing = some p) (t : Micros) :
    exec (.snapshotReady t) s = .next ((s.opened t).modLif fun l =>
      { l with
        snapshot := some p.snapshot, preparing := none
        replies := l.replies ++ [⟨0x27, p.tag, .done, [], 0⟩] }).arbitrate := by
  rw [exec_snapshotReady h, State.snapshotDone_of_preparing (by simpa using hp)]

/-- The state at the end of a counter clear that runs (R193). -/
def State.clearEnded (s : State) (t : Micros) (x : Clearing) : State :=
  (((s.opened t).cleared x).raiseDevice .countersCleared).arbitrate

theorem counterClearComplete_ends {s : State} (h : s.running = true) {x : Clearing} (hx : s.lif.clearing = some x) (t : Micros) :
    exec (.counterClearComplete t) s = .next (s.clearEnded t x) := by
  rw [exec_counterClearComplete h, State.clearDone_of_clearing (by simpa using hx), State.clearEnded]

namespace State

theorem clearEnded_countersZero (s : State) (t : Micros) (x : Clearing) : CountersZero (s.clearEnded t x) :=
  (cleared_countersZero _ x).raised _

theorem clearEnded_clearing (s : State) (t : Micros) (x : Clearing) : (s.clearEnded t x).lif.clearing = none := by
  simp [clearEnded]

theorem clearEnded_flag (s : State) (t : Micros) (x : Clearing) :
    EventKind.countersCleared ∈ (s.clearEnded t x).lif.flags.device := by
  rw [clearEnded, arbitrate_lif_flags]
  exact raise_flag _ .device _

theorem clearEnded_snapshot (s : State) (t : Micros) (x : Clearing) : (s.clearEnded t x).lif.snapshot = s.lif.snapshot := by
  simp [clearEnded]

theorem clearEnded_intake (s : State) (t : Micros) (x : Clearing) : (s.clearEnded t x).lif.intake = s.lif.intake := by
  simp [clearEnded]

theorem clearEnded_replies (s : State) (t : Micros) (x : Clearing) :
    (s.clearEnded t x).lif.replies = s.lif.replies ++ clearReply x := by simp [clearEnded]

/-- The clear keeps the doors and their states. -/
theorem clearEnded_doors (s : State) (t : Micros) (x : Clearing) (f : Face) :
    (((s.clearEnded t x).face f).doors.map fun d => (d.number, d.state)) = (s.face f).doors.map fun d => (d.number, d.state) := by
  simp [clearEnded, zeroFace, zeroDoor]

end State

/-- Settles O47: each command by its own theorem above; SNAPSHOT_COUNTERS and CLEAR_COUNTERS share the test `countersBusy`, and the end
of a clear is `clearEnded`, where every counter is 0. -/
theorem countersAreSnappedReadAndCleared : Obligations.CountersAreSnappedReadAndCleared := by
  refine ⟨fun s t => ⟨fun r rest h hb => ?_, fun running p hp => snapshotReady_replaces running hp t, fun r rest h =>
    readCounters_taken h t⟩, fun s t => ⟨fun r rest h hb => ?_, s.bump_eq, fun running x hx => ?_⟩⟩
  · obtain ⟨busy, free⟩ := snapshotCounters_taken h hb t
    exact ⟨busy, fun hp hc => free (State.not_countersBusy hp hc)⟩
  · obtain ⟨busy, free⟩ := clearCounters_taken h hb t
    exact ⟨busy, fun hp hc => free (State.not_countersBusy hp hc)⟩
  · have zero := s.clearEnded_countersZero t x
    refine ⟨s.clearEnded t x, counterClearComplete_ends running hx t, s.clearEnded_clearing t x, s.clearEnded_flag t x,
      s.clearEnded_snapshot t x, s.clearEnded_intake t x, ?_, zero.uplinkErrors, zero.framesDiscarded, zero.requestsDropped,
      zero.computations, zero.withdrawn, zero.heads, fun f => ⟨zero.policed f, zero.clampedSamples f, zero.telegramsRefused f,
        zero.deferrals f, zero.refused f, zero.losses f, zero.zones f, s.clearEnded_doors t x f, zero.doors f⟩⟩
    rw [State.clearEnded_replies]
    obtain ⟨_ | tag, takenAt⟩ := x <;> rfl

end Sys2Proof.Machine
end

section
/-! PROOFS. The enable set, the doors' enabled fields and the waiting OPENs through a step (R7, R52): a relation between two states for one
face, what keeps it, and the invariant. -/

namespace Sys2Proof.Machine

/-! ### One door -/

/-- A door record after an event keeps its number and its enabled field, and an OPEN waits in its slot only if one did or it is enabled. -/
structure Door.KeepsEnable (d e : Door) : Prop where
  number : e.number = d.number
  enabled : e.enabled = d.enabled
  slot : e.slotCommand = some .openCmd → d.slotCommand = some .openCmd ∨ d.enabled = true

namespace Door.KeepsEnable

theorem refl (d : Door) : d.KeepsEnable d := ⟨rfl, rfl, .inl⟩

theorem trans {d e e' : Door} (h : d.KeepsEnable e) (k : e.KeepsEnable e') : d.KeepsEnable e' where
  number := k.number.trans h.number
  enabled := k.enabled.trans h.enabled
  slot o := (k.slot o).elim h.slot fun he => .inr (h.enabled ▸ he)

/-- An enabled door keeps this whatever waits in its slot. -/
theorem of_enabled {d e : Door} (hn : e.number = d.number) (he : e.enabled = d.enabled) (h : d.enabled = true) :
    d.KeepsEnable e := ⟨hn, he, fun _ => .inr h⟩

/-- An event that leaves the slot alone. -/
theorem of_slot {d e : Door} (hn : e.number = d.number) (he : e.enabled = d.enabled) (hs : e.slotCommand = d.slotCommand) :
    d.KeepsEnable e := ⟨hn, he, fun o => .inl (hs ▸ o)⟩

/-- An event that leaves no OPEN in the slot. -/
theorem of_noOpen {d e : Door} (hn : e.number = d.number) (he : e.enabled = d.enabled) (hs : e.slotCommand ≠ some .openCmd) :
    d.KeepsEnable e := ⟨hn, he, fun o => absurd o hs⟩

theorem ite {d a b : Door} {c : Prop} {_ : Decidable c} (h : d.KeepsEnable a) (k : d.KeepsEnable b) :
    d.KeepsEnable (if c then a else b) := by
  split
  · exact h
  · exact k

theorem outcome {d : Door} {a b : DoorOutcome} {c : Prop} {_ : Decidable c} (h : d.KeepsEnable a.door)
    (k : d.KeepsEnable b.door) : d.KeepsEnable (if c then a else b).door := by
  split
  · exact h
  · exact k

end Door.KeepsEnable

namespace Door

@[simp] theorem slotCommand_setSlot (d : Door) (c : Option SlotCommand) :
    (d.setSlot c).slotCommand = c.map fun x => x.command := rfl

@[simp] theorem place_number (d : Door) (ctx : DoorContext) (cmd : DoorCommand) (u : Urgency) :
    (d.place ctx cmd u).number = d.number := by unfold place; split <;> rfl

@[simp] theorem place_enabled (d : Door) (ctx : DoorContext) (cmd : DoorCommand) (u : Urgency) :
    (d.place ctx cmd u).enabled = d.enabled := by unfold place; split <;> rfl

@[simp] theorem place_slotCommand (d : Door) (ctx : DoorContext) (cmd : DoorCommand) (u : Urgency) :
    (d.place ctx cmd u).slotCommand = some cmd := rfl

theorem emptied_keepsEnable (d : Door) : d.KeepsEnable (d.setSlot none) := .of_noOpen rfl rfl nofun

theorem goTo_keepsEnable (d : Door) (st : DoorState) : d.KeepsEnable (d.goTo st) := .of_slot rfl rfl rfl

theorem isolation_keepsEnable (d : Door) (i : Isolation) : d.KeepsEnable { d with isolation := i } := .of_slot rfl rfl rfl

theorem enterClosed_keepsEnable (d : Door) : d.KeepsEnable d.enterClosed.door := .of_slot rfl rfl rfl

theorem stall_keepsEnable (d : Door) : d.KeepsEnable d.stall.door := .of_slot rfl rfl rfl

/-- A command other than an OPEN may be placed on any door. -/
theorem place_keepsEnable (d : Door) (ctx : DoorContext) {cmd : DoorCommand} (u : Urgency) (h : cmd ≠ .openCmd) :
    d.KeepsEnable (d.place ctx cmd u) := .of_noOpen (by simp) (by simp) (by simpa using h)

/-- Any command may be placed on an enabled door. -/
theorem place_keepsEnable_enabled {d : Door} (h : d.enabled = true) (ctx : DoorContext) (cmd : DoorCommand) (u : Urgency) :
    d.KeepsEnable (d.place ctx cmd u) := .of_enabled (by simp) (by simp) h

/-- An obstruction opens an enabled door alone. -/
theorem obstruct_keepsEnable (d : Door) (ctx : DoorContext) : d.KeepsEnable (d.obstruct ctx).door := by
  have counted : d.KeepsEnable { d with obstructions := ctx.bump d.obstructions } := .of_slot rfl rfl rfl
  unfold obstruct
  dsimp only
  split
  next h => exact .of_enabled (place_number _ ctx .openCmd .urgent) (place_enabled _ ctx .openCmd .urgent) h.1
  next => exact (counted.trans (place_keepsEnable _ ctx .urgent (by decide))).trans (goTo_keepsEnable _ _)

theorem enterClosing_keepsEnable (d : Door) (ctx : DoorContext) : d.KeepsEnable (d.enterClosing ctx).door := by
  unfold enterClosing
  exact .outcome ((goTo_keepsEnable d _).trans (obstruct_keepsEnable _ ctx)) (goTo_keepsEnable d _)

theorem startClose_keepsEnable (d : Door) (ctx : DoorContext) (u : Urgency) : d.KeepsEnable (d.startClose ctx u).door :=
  have recounted : d.KeepsEnable { d with recycleCount := 0 } := .of_slot rfl rfl rfl
  (recounted.trans (place_keepsEnable _ ctx u (by decide))).trans (enterClosing_keepsEnable _ ctx)

theorem startOpen_keepsEnable {d : Door} (h : d.enabled = true) (ctx : DoorContext) (u : Urgency) :
    d.KeepsEnable (d.startOpen ctx u) := (place_keepsEnable_enabled h ctx _ u).trans (goTo_keepsEnable _ _)

theorem latch_keepsEnable (d : Door) : d.KeepsEnable d.latch.door := .of_noOpen rfl rfl nofun

theorem takeSettled_keepsEnable (d : Door) (st : Status) : d.KeepsEnable (d.takeSettled st).door := by
  unfold takeSettled
  split
  · exact .of_noOpen rfl rfl nofun
  · exact .of_noOpen rfl rfl nofun
  · exact enterClosed_keepsEnable d
  · exact goTo_keepsEnable d _
  · exact goTo_keepsEnable d _

theorem takeAck_keepsEnable (d : Door) (ctx : DoorContext) (cmd : DoorCommand) (pos : Position) :
    d.KeepsEnable (d.takeAck ctx cmd pos) := by
  unfold takeAck
  split
  iterate 3 exact .ite (.refl d) (.of_slot rfl rfl rfl)
  exact .refl d

theorem acknowledge_keepsEnable (d : Door) (ctx : DoorContext) (st : Status) : d.KeepsEnable (d.acknowledge ctx st) := by
  unfold acknowledge
  split
  · exact .ite ((emptied_keepsEnable d).trans (takeAck_keepsEnable _ ctx _ _)) (.refl d)
  · exact .refl d

/-- An event on a record and then another on what it leaves. -/
theorem andThen_keepsEnable {d : Door} {o : DoorOutcome} {g : Door → DoorOutcome} (h : d.KeepsEnable o.door)
    (hg : ∀ e : Door, e.KeepsEnable (g e).door) : d.KeepsEnable (o.andThen g).door := h.trans (hg o.door)

theorem mapPosition_keepsEnable (d : Door) (ctx : DoorContext) (st : Status) : d.KeepsEnable (d.mapPosition ctx st).door := by
  unfold mapPosition
  split
  case h_1 | h_7 | h_8 | h_9 => exact enterClosed_keepsEnable d
  case h_2 => exact goTo_keepsEnable d _
  case h_3 => exact (emptied_keepsEnable d).trans (stall_keepsEnable _)
  case h_5 => exact stall_keepsEnable d
  case h_6 => exact .of_slot rfl rfl rfl
  case h_10 =>
    split
    · exact .refl d
    · exact .of_slot rfl rfl rfl
  all_goals exact .refl d

theorem returnDecision_keepsEnable (d : Door) (ctx : DoorContext) (st : Status) :
    d.KeepsEnable (d.returnDecision ctx st).door := by
  unfold returnDecision
  refine andThen_keepsEnable (.outcome (latch_keepsEnable d) (.refl d)) fun e => ?_
  dsimp only
  split
  · exact .outcome (.outcome ((emptied_keepsEnable e).trans (enterClosed_keepsEnable _)) (enterClosing_keepsEnable e ctx))
      (.of_noOpen rfl rfl nofun)
  · have cleared : e.KeepsEnable (if e.isolation = .localSwitch ∧ ¬st.localIsolation then { e with isolation := .none } else e) :=
      .ite (isolation_keepsEnable e .none) (.refl e)
    generalize (if e.isolation = .localSwitch ∧ ¬st.localIsolation then { e with isolation := .none } else e) = x at cleared ⊢
    refine cleared.trans ?_
    split
    · exact takeSettled_keepsEnable x st
    split
    · exact takeSettled_keepsEnable x st
    · exact .outcome (.of_noOpen rfl rfl nofun) (goTo_keepsEnable x _)
    · exact .outcome ((emptied_keepsEnable x).trans (enterClosed_keepsEnable _)) (enterClosing_keepsEnable x ctx)
    · exact goTo_keepsEnable x _

theorem localRule_keepsEnable (d : Door) (st : Status) : d.KeepsEnable (d.localRule st).door := by
  unfold localRule
  exact .outcome (.outcome (.of_noOpen rfl rfl nofun) (.refl d))
    (.outcome ((isolation_keepsEnable d .none).trans (takeSettled_keepsEnable _ st)) (.refl d))

theorem mapStatus_keepsEnable (d : Door) (ctx : DoorContext) (st : Status) : d.KeepsEnable (d.mapStatus ctx st).door := by
  unfold mapStatus
  exact .outcome (.outcome (.refl d) ((emptied_keepsEnable d).trans (stall_keepsEnable _)))
    (andThen_keepsEnable (mapPosition_keepsEnable d ctx st) fun e => .outcome (obstruct_keepsEnable e ctx) (.refl e))

theorem takeStatus_keepsEnable (d : Door) (ctx : DoorContext) (st : Status) (returned : Bool) :
    d.KeepsEnable (d.takeStatus ctx st returned).door := by
  have noted : d.KeepsEnable { d with lastStatus := some st } := .of_slot rfl rfl rfl
  unfold takeStatus
  dsimp only
  split
  · exact andThen_keepsEnable (noted.trans (returnDecision_keepsEnable _ ctx st)) fun e => acknowledge_keepsEnable e ctx st
  have acked := noted.trans (acknowledge_keepsEnable _ ctx st)
  split
  · exact acked
  split
  · exact andThen_keepsEnable acked latch_keepsEnable
  · exact andThen_keepsEnable (andThen_keepsEnable acked fun e => localRule_keepsEnable e st)
      fun e => .outcome (.refl e) (mapStatus_keepsEnable e ctx st)

theorem exhausted_keepsEnable (d : Door) : d.KeepsEnable d.exhausted.door := (emptied_keepsEnable d).trans (stall_keepsEnable _)

theorem loseContact_keepsEnable (d : Door) : d.KeepsEnable d.loseContact.door := .ite (.refl d) (goTo_keepsEnable d _)

theorem isolate_keepsEnable (d : Door) : d.KeepsEnable d.isolate.door := by
  unfold isolate
  exact .outcome (.refl d) (.of_noOpen rfl rfl nofun)

theorem returnToService_keepsEnable (d : Door) : d.KeepsEnable d.returnToService.door := by
  unfold returnToService
  dsimp only
  split
  · exact .of_slot rfl rfl rfl
  split
  · exact (isolation_keepsEnable d .none).trans (takeSettled_keepsEnable _ _)
  · exact .of_slot rfl rfl rfl

theorem departureClose_keepsEnable (d : Door) (ctx : DoorContext) : d.KeepsEnable (d.departureClose ctx).door := by
  unfold departureClose
  exact .outcome (place_keepsEnable d ctx _ (by decide)) (startClose_keepsEnable d ctx _)

theorem restoreClose_keepsEnable (d : Door) (ctx : DoorContext) : d.KeepsEnable (d.restoreClose ctx).door := by
  unfold restoreClose
  exact .outcome (place_keepsEnable d ctx _ (by decide)) (startClose_keepsEnable d ctx _)

theorem evacuationOpen_keepsEnable {d : Door} (h : d.enabled = true) (ctx : DoorContext) :
    d.KeepsEnable (d.evacuationOpen ctx).door := by
  have opens : d.KeepsEnable { d.startOpen ctx .urgent with evacOpened := true } :=
    (startOpen_keepsEnable h ctx _).trans (.of_slot rfl rfl rfl)
  unfold evacuationOpen
  split
  case h_3 => split <;> exact .of_slot rfl rfl rfl
  case h_1 | h_2 => exact .of_slot rfl rfl rfl
  case h_9 | h_10 | h_11 => exact .refl d
  all_goals exact opens

theorem timeout_keepsEnable (d : Door) (kind : TimerKind) : d.KeepsEnable (d.timeout kind).door := by
  unfold timeout
  dsimp only
  split
  case h_4 => exact .of_slot rfl rfl rfl
  all_goals exact .of_noOpen rfl rfl nofun

theorem dwellOver_keepsEnable (d : Door) (ctx : DoorContext) : d.KeepsEnable (d.dwellOver ctx).door := by
  have stopped : d.KeepsEnable { d with timer := none } := .of_slot rfl rfl rfl
  unfold dwellOver
  exact .outcome ((stopped.trans (place_keepsEnable _ ctx _ (by decide))).trans (enterClosing_keepsEnable _ ctx)) stopped

theorem openable_enabled {d : Door} (h : d.openable = true) : d.enabled = true := by simp_all [openable]

theorem evacuable_enabled {d : Door} (h : d.evacuable = true) : d.enabled = true := by simp_all [evacuable]

end Door
end Sys2Proof.Machine
end

section
/-! PROOFS. Every step keeps the enable set, the doors' enabled fields and the waiting OPENs consistent (R7, R52): what each operation
keeps on the two faces, in the order of the model's files. -/

namespace Sys2Proof.Machine

/-- The enable set is empty outside STOPPED and DWELLING (R7). -/
def Berth.SetAllowed (b : Berth) : Prop := b.enable ≠ [] → b.state = .stopped ∨ b.state = .dwelling

/-- A face's enable set is empty outside STOPPED and DWELLING, and its doors' enabled fields follow it (R7, R52). -/
structure EnableFollowed (x : FaceState) : Prop where
  allowed : x.berth.SetAllowed
  doors : ∀ d ∈ x.doors, d.enabled = x.berth.enable.contains d.number

/-- An OPEN waits only in the slot of an enabled door (R52). -/
def OpensEnabled (x : FaceState) : Prop := ∀ d ∈ x.doors, d.slotCommand = some .openCmd → d.enabled = true

theorem enableSafe_iff (s : State) : enableSafe s ↔ ∀ f, EnableFollowed (s.face f) ∧ OpensEnabled (s.face f) := by
  refine forall_congr' fun f => ⟨fun ⟨hb, hd⟩ => ⟨⟨hb, fun d h => (hd d h).1⟩, fun d h => (hd d h).2⟩, ?_⟩
  exact fun ⟨hf, ho⟩ => ⟨hf.allowed, fun d h => ⟨hf.doors d h, ho d h⟩⟩

/-- What an operation keeps on a face: the enabled fields follow the set if they did, and the OPENs are those of enabled doors if they
were. The two stand apart because an operation may empty the set before it takes the OPENs out of the slots. -/
structure EnableKept (x y : FaceState) : Prop where
  followed : EnableFollowed x → EnableFollowed y
  opens : EnableFollowed x → OpensEnabled x → OpensEnabled y

namespace EnableKept

theorem refl (x : FaceState) : EnableKept x x := ⟨id, fun _ => id⟩

theorem trans {x y z : FaceState} (h : EnableKept x y) (k : EnableKept y z) : EnableKept x z :=
  ⟨k.followed ∘ h.followed, fun hf ho => k.opens (h.followed hf) (h.opens hf ho)⟩

/-- An operation that leaves the face's berth and doors. -/
theorem of_eq {x y : FaceState} (hb : y.berth = x.berth) (hd : y.doors = x.doors) : EnableKept x y where
  followed h := ⟨hb ▸ h.allowed, by rw [hb, hd]; exact h.doors⟩
  opens _ h := by unfold OpensEnabled; rw [hd]; exact h

/-- An operation that leaves the face's berth and changes its doors one by one. -/
theorem of_doors {x y : FaceState} (hb : y.berth = x.berth)
    (hd : ∀ e ∈ y.doors, ∃ d ∈ x.doors, d.enabled = x.berth.enable.contains d.number → d.KeepsEnable e) : EnableKept x y where
  followed h := by
    refine ⟨hb ▸ h.allowed, fun e he => ?_⟩
    obtain ⟨d, hm, hk⟩ := hd e he
    have k := hk (h.doors d hm)
    rw [k.enabled, k.number, hb]
    exact h.doors d hm
  opens hf ho e he hs := by
    obtain ⟨d, hm, hk⟩ := hd e he
    have k := hk (hf.doors d hm)
    rw [k.enabled]
    exact (k.slot hs).elim (ho d hm) id

end EnableKept

/-- An operation keeps this on both faces. -/
def EnablesKept (s u : State) : Prop := ∀ f, EnableKept (s.face f) (u.face f)

theorem EnablesKept.safe {s u : State} (h : EnablesKept s u) (hs : enableSafe s) : enableSafe u :=
  (enableSafe_iff u).2 fun f =>
    have ⟨hf, ho⟩ := (enableSafe_iff s).1 hs f
    ⟨(h f).followed hf, (h f).opens hf ho⟩

namespace EnablesKept

theorem refl (s : State) : EnablesKept s s := fun _ => .refl _

theorem trans {s u v : State} (h : EnablesKept s u) (k : EnablesKept u v) : EnablesKept s v := fun f => (h f).trans (k f)

theorem ite {s a b : State} {c : Prop} {_ : Decidable c} (h : EnablesKept s a) (k : EnablesKept s b) :
    EnablesKept s (if c then a else b) := by
  split
  · exact h
  · exact k

theorem opt {s a : State} {c : Prop} {_ : Decidable c} (h : EnablesKept s a) : EnablesKept s (if c then a else s) :=
  .ite h (.refl s)

theorem of_eq {s u : State} (hb : ∀ f, (u.face f).berth = (s.face f).berth) (hd : ∀ f, (u.face f).doors = (s.face f).doors) :
    EnablesKept s u := fun f => .of_eq (hb f) (hd f)

theorem of_face {s u : State} (f : Face) (h : EnableKept (s.face f) (u.face f))
    (k : EnableKept (s.face f.partner) (u.face f.partner)) : EnablesKept s u := fun g => by
  obtain rfl | rfl := Face.eq_or_partner f g
  · exact h
  · exact k

/-- An operation on one face that leaves the other. -/
theorem of_same {s u : State} (f : Face) (h : EnableKept (s.face f) (u.face f))
    (k : u.face f.partner = s.face f.partner) : EnablesKept s u := of_face f h (k ▸ .refl _)

/-- It is enough to prove this where a face's enabled fields follow its set, if the other face is safe in any case. -/
theorem assuming {s u : State} (f : Face) (h : EnableFollowed (s.face f) → EnablesKept s u)
    (k : EnableKept (s.face f.partner) (u.face f.partner)) : EnablesKept s u :=
  of_face f ⟨fun hf => (h hf f).followed hf, fun hf => (h hf f).opens hf⟩ k

end EnablesKept

theorem Reported.enablesKept {s u : State} (h : Reported s u) : EnablesKept s u := .of_eq h.berth h.doors

theorem Arbitrated.enablesKept {s u : State} (h : Arbitrated s u) : EnablesKept s u := .of_eq h.berth h.doors

theorem Sequenced.enablesKept {s u : State} (h : Sequenced s u) (hd : ∀ f, (u.face f).doors = (s.face f).doors) :
    EnablesKept s u := .of_eq h.berth hd

/-- The berth record that has taken an alignment result (R19). -/
def Berth.aligned (b : Berth) (r : AlignResult) : Berth :=
  { b with state := .stopped, enable := r.enable, pairing := r.pairing
           train := b.train.map fun t => { t with gapMark := t.gapMark || r.noProfile } }

namespace State

/-! ### The parts of an operation -/

/-- The findings of an alignment result raised, and NO_PROFILE made active by the last (R42, R44). -/
def raiseFindings (s : State) (f : Face) (r : AlignResult) : State :=
  let s := if r.misaligned then s.raiseFace f .misaligned else s
  let s := if r.partialAlign then s.raiseFace f .partialAlign else s
  if r.noProfile then s.activate f .noProfile .noProfile else s

theorem raiseFindings_reported (s : State) (f : Face) (r : AlignResult) : Reported s (s.raiseFindings f r) := by
  have opt (c : Bool) {a b : State} (h : Reported a b) : Reported a (if c then b else a) := by
    split
    · exact h
    · exact .refl a
  exact ((opt r.misaligned (raiseFace_reported s f _)).trans (opt r.partialAlign (raiseFace_reported _ f _))).trans
    (opt r.noProfile (activate_reported _ f _ _))

/-- The state once a berth has taken an alignment result and its doors follow the set, before what an evacuation in force does. -/
def aligned (s : State) (f : Face) (r : AlignResult) : State :=
  (((s.modBerth f fun b => b.aligned r).raiseFindings f r).followEnable f).dropOpens f

theorem acceptAlignment_eq (s : State) (f : Face) (r : AlignResult) :
    s.acceptAlignment f r =
      if ((s.aligned f r).face f).release.state = .evacuating then (s.aligned f r).evacuationOpening f else s.aligned f r := rfl

/-! ### The operations over State -/

theorem modBerth_enablesKept (s : State) (f : Face) (g : Berth → Berth)
    (h : (s.face f).berth.SetAllowed → (g (s.face f).berth).enable = (s.face f).berth.enable ∧ (g (s.face f).berth).SetAllowed) :
    EnablesKept s (s.modBerth f g) := by
  refine .of_same f ⟨fun hf => ⟨?_, ?_⟩, fun _ ho => ?_⟩ (by simp)
  · simpa using (h hf.allowed).2
  · simpa [(h hf.allowed).1] using hf.doors
  · simpa [OpensEnabled] using ho

/-- Each door of a face changed as `KeepsEnable` allows. -/
theorem modDoors_map_enablesKept (s : State) (f : Face) (g : Door → Door) (h : ∀ d : Door, d.KeepsEnable (g d)) :
    EnablesKept s (s.modDoors f fun ds => ds.map g) := by
  refine .of_same f (.of_doors (by simp) fun e he => ?_) (by simp)
  obtain ⟨d, hd, rfl⟩ := List.mem_map.1 (by simpa using he)
  exact ⟨d, hd, fun _ => h d⟩

theorem modLif_enablesKept (s : State) (g : LinkInterface → LinkInterface) : EnablesKept s (s.modLif g) :=
  .of_eq (fun _ => rfl) fun _ => rfl

theorem modTbs_enablesKept (s : State) (g : TableStore → TableStore) : EnablesKept s (s.modTbs g) :=
  .of_eq (fun _ => rfl) fun _ => rfl

theorem modGap_enablesKept (s : State) (g : GapMonitor → GapMonitor) : EnablesKept s (s.modGap g) :=
  .of_eq (fun _ => rfl) fun _ => rfl

theorem modAln_enablesKept (s : State) (g : Engine → Engine) : EnablesKept s (s.modAln g) :=
  .of_eq (fun _ => rfl) fun _ => rfl

theorem modDeferral_enablesKept (s : State) (f : Face) (g : Deferral → Deferral) : EnablesKept s (s.modDeferral f g) :=
  .of_eq (fun _ => by simp) fun _ => by simp

theorem modReports_enablesKept (s : State) (f : Face) (g : List ObstructionReport → List ObstructionReport) :
    EnablesKept s (s.modReports f g) := .of_eq (fun _ => by simp) fun _ => by simp

theorem modLine_enablesKept (s : State) (f : Face) (g : DoorLine → DoorLine) : EnablesKept s (s.modLine f g) :=
  .of_eq (fun _ => by simp) fun _ => by simp

theorem modRelease_enablesKept (s : State) (f : Face) (g : Release → Release) : EnablesKept s (s.modRelease f g) :=
  .of_eq (fun _ => by simp) fun _ => by simp

theorem modProof_enablesKept (s : State) (f : Face) (g : ProofRecord → ProofRecord) : EnablesKept s (s.modProof f g) :=
  .of_eq (fun _ => by simp) fun _ => by simp

theorem raiseFace_enablesKept (s : State) (f : Face) (k : EventKind) : EnablesKept s (s.raiseFace f k) :=
  (raiseFace_reported s f k).enablesKept

theorem raiseDevice_enablesKept (s : State) (k : EventKind) : EnablesKept s (s.raiseDevice k) :=
  (raiseDevice_reported s k).enablesKept

theorem setCondition_enablesKept (s : State) (f : Face) (c : Condition) (on : Bool) : EnablesKept s (s.setCondition f c on) :=
  (setCondition_reported s f c on).enablesKept

theorem activate_enablesKept (s : State) (f : Face) (c : Condition) (k : EventKind) : EnablesKept s (s.activate f c k) :=
  (activate_reported s f c k).enablesKept

theorem decide_enablesKept (s : State) (f : Face) : EnablesKept s (s.decide f) := (decide_reported s f).enablesKept

theorem setRelease_enablesKept (s : State) (f : Face) (st : ReleaseState) : EnablesKept s (s.setRelease f st) :=
  (setRelease_sequenced s f st).enablesKept fun _ => by simp

theorem reply_enablesKept (s : State) (k t : Byte) (r : Result) (d : List Byte) : EnablesKept s (s.reply k t r d) :=
  modLif_enablesKept s _

theorem answer_enablesKept (s : State) (q : Request) (r : Result) (d : List Byte) : EnablesKept s (s.answer q r d) :=
  reply_enablesKept s _ _ r d

theorem done_enablesKept (s : State) (q : Request) : EnablesKept s (s.done q) := answer_enablesKept s q _ _

theorem refuse_enablesKept (s : State) (q : Request) (r : Reason) : EnablesKept s (s.refuse q r) := answer_enablesKept s q _ _

/-! ### The Door Sequencer -/

/-- One event of one door, whose rule need keep only what holds of doors whose enabled field follows the set. -/
theorem applyDoor_enablesKept_of_followed (s : State) (f : Face) (n : Nat) (g : DoorContext → Door → DoorOutcome)
    (h : ∀ c (d : Door), d.number = n → d.enabled = (s.face f).berth.enable.contains n → d.KeepsEnable (g c d).door) :
    EnablesKept s (s.applyDoor f n g) := by
  cases hd : s.findDoor f n with
  | none => rw [applyDoor_absent s f n g hd]; exact .refl s
  | some d =>
    refine .of_face f (.of_doors (by simp) fun e he => ?_)
      (.of_eq (by simp) (applyDoor_doors_ne s (Face.partner_ne f) n g))
    obtain ⟨hm, hn⟩ := findDoor_some hd
    rw [applyDoor_doors s f n g d hd] at he
    obtain ⟨x, hx, rfl⟩ := List.mem_map.1 he
    split
    · exact ⟨d, hm, fun hf => h _ d hn (hn ▸ hf)⟩
    · exact ⟨x, hx, fun _ => .refl x⟩

theorem applyDoor_enablesKept (s : State) (f : Face) (n : Nat) (g : DoorContext → Door → DoorOutcome)
    (h : ∀ c (d : Door), d.KeepsEnable (g c d).door) : EnablesKept s (s.applyDoor f n g) :=
  applyDoor_enablesKept_of_followed s f n g fun c d _ _ => h c d

/-- One event of one enabled door, whose rule need keep only what holds of enabled doors. -/
theorem applyDoor_enablesKept_of_enabled (s : State) (f : Face) (g : DoorContext → Door → DoorOutcome) {d : Door}
    (hd : d ∈ (s.face f).doors) (he : d.enabled = true) (h : ∀ c (d : Door), d.enabled = true → d.KeepsEnable (g c d).door) :
    EnablesKept s (s.applyDoor f d.number g) := by
  refine .assuming f (fun followed => ?_) (.of_eq (by simp) (applyDoor_doors_ne s (Face.partner_ne f) d.number g))
  refine applyDoor_enablesKept_of_followed s f d.number g fun c e _ hf => h c e ?_
  rw [hf, ← followed.doors d hd, he]

theorem foldl_applyDoor_enablesKept (f : Face) (g : DoorContext → Door → DoorOutcome) (enable : List Nat) (ns : List Nat)
    (h : ∀ n ∈ ns, ∀ c (d : Door), d.number = n → d.enabled = enable.contains n → d.KeepsEnable (g c d).door) (s : State)
    (hs : (s.face f).berth.enable = enable) : EnablesKept s (ns.foldl (fun s n => s.applyDoor f n g) s) := by
  induction ns generalizing s with
  | nil => exact .refl s
  | cons n rest ih =>
    have first := applyDoor_enablesKept_of_followed s f n g (hs ▸ h n (by simp))
    exact first.trans (ih (fun m hm => h m (by simp [hm])) _ (by simpa using hs))

theorem applyDoors_enablesKept (s : State) (f : Face) (p : Door → Bool) (g : DoorContext → Door → DoorOutcome)
    (h : ∀ c (d : Door), d.KeepsEnable (g c d).door) : EnablesKept s (s.applyDoors f p g) :=
  foldl_applyDoor_enablesKept f g _ _ (fun _ _ c d _ _ => h c d) s rfl

/-- An event for each of a face's enabled doors that pass a test, whose rule need keep only what holds of enabled doors. -/
theorem applyDoors_enablesKept_of_enabled (s : State) (f : Face) (p : Door → Bool) (g : DoorContext → Door → DoorOutcome)
    (hp : ∀ d, p d = true → d.enabled = true) (h : ∀ c (d : Door), d.enabled = true → d.KeepsEnable (g c d).door) :
    EnablesKept s (s.applyDoors f p g) := by
  refine .assuming f (fun followed => ?_) (.of_eq (by simp) (applyDoors_doors_ne s (Face.partner_ne f) p g))
  refine foldl_applyDoor_enablesKept f g (s.face f).berth.enable _ (fun n hn c d _ he => h c d ?_) s rfl
  obtain ⟨x, hx, rfl⟩ := List.mem_map.1 hn
  obtain ⟨hm, hpx⟩ := List.mem_filter.1 hx
  rw [he, ← followed.doors x hm]
  exact hp x hpx

theorem closeFaceNow_enablesKept (s : State) (f : Face) : EnablesKept s (s.closeFaceNow f) :=
  applyDoors_enablesKept s f _ _ fun c d => d.startClose_keepsEnable c _

theorem movementClose_enablesKept (s : State) (f : Face) : EnablesKept s (s.movementClose f) :=
  applyDoors_enablesKept s f _ _ fun c d => d.startClose_keepsEnable c _

theorem departureClose_enablesKept (s : State) (f : Face) : EnablesKept s (s.departureClose f) :=
  applyDoors_enablesKept s f _ _ fun c d => d.departureClose_keepsEnable c

theorem restoreClose_enablesKept (s : State) (f : Face) : EnablesKept s (s.restoreClose f) :=
  applyDoors_enablesKept s f _ _ fun c d => d.restoreClose_keepsEnable c

theorem openDoors_enablesKept (s : State) (f : Face) : EnablesKept s (s.openDoors f) :=
  applyDoors_enablesKept_of_enabled s f _ _ (fun _ => Door.openable_enabled) fun c _ h => Door.startOpen_keepsEnable h c _

/-- The enabled fields follow the enable set after they have been made to. -/
theorem followEnable_followed (s : State) (f : Face) (h : (s.face f).berth.SetAllowed) :
    EnableFollowed ((s.followEnable f).face f) where
  allowed := by simpa using h
  doors e he := by
    obtain ⟨d, -, rfl⟩ := List.mem_map.1 (by simpa [followEnable] using he)
    simp [Door.follow]

theorem dropOpen_keepsEnable (d : Door) : d.KeepsEnable d.dropOpen := .ite d.emptied_keepsEnable (.refl d)

theorem dropOpens_enablesKept (s : State) (f : Face) : EnablesKept s (s.dropOpens f) :=
  modDoors_map_enablesKept s f _ dropOpen_keepsEnable

theorem dropOpens_opensEnabled (s : State) (f : Face) : OpensEnabled ((s.dropOpens f).face f) := by
  intro e he hs
  obtain ⟨d, -, rfl⟩ := List.mem_map.1 (by simpa [dropOpens] using he)
  unfold Door.dropOpen at hs ⊢
  split at hs
  · simp at hs
  next h => rw [if_neg h]; by_contra he; exact h ⟨hs, he⟩

/-- A face whose enabled fields follow its set again is consistent once the OPENs have left the slots of the other doors. -/
theorem dropOpens_settles {s u : State} {f : Face} (h : EnableFollowed (u.face f))
    (k : EnableKept (s.face f.partner) (u.face f.partner)) : EnablesKept s (u.dropOpens f) :=
  .of_face f ⟨fun _ => (dropOpens_enablesKept u f f).followed h, fun _ _ => dropOpens_opensEnabled u f⟩
    (k.trans (dropOpens_enablesKept u f _))

theorem endDeferral_enablesKept (s : State) (f : Face) (c : EndCause) : EnablesKept s (s.endDeferral f c) :=
  (modDeferral_enablesKept s f _).trans (raiseFace_enablesKept _ f _)

theorem endWithClose_enablesKept (s : State) (f : Face) (c : EndCause) : EnablesKept s (s.endWithClose f c) :=
  (endDeferral_enablesKept s f c).trans (closeFaceNow_enablesKept _ f)

theorem cancelDeferral_enablesKept (s : State) (f : Face) : EnablesKept s (s.cancelDeferral f) :=
  .opt (endDeferral_enablesKept s f _)

theorem partnerDwellLapse_enablesKept (s : State) (f : Face) : EnablesKept s (s.partnerDwellLapse f) :=
  .opt (endWithClose_enablesKept s f _)

theorem partnerEnters_enablesKept (s : State) (f : Face) (x : Millis) : EnablesKept s (s.partnerEnters f x) :=
  (modDeferral_enablesKept s f _).trans (partnerDwellLapse_enablesKept _ f)

theorem partnerExits_enablesKept (s : State) (f : Face) : EnablesKept s (s.partnerExits f) :=
  (modDeferral_enablesKept s f _).trans (.opt (endWithClose_enablesKept _ f _))

theorem enterDwelling_enablesKept (s : State) (f : Face) : EnablesKept s (s.enterDwelling f) :=
  .opt ((modBerth_enablesKept s f _ fun _ => ⟨rfl, fun _ => .inr rfl⟩).trans (partnerEnters_enablesKept _ _ _))

theorem evacuationOpening_enablesKept (s : State) (f : Face) : EnablesKept s (s.evacuationOpening f) :=
  have opened (u : State) : EnablesKept u (u.applyDoors f Door.evacuable fun ctx d => d.evacuationOpen ctx) :=
    applyDoors_enablesKept_of_enabled u f _ _ (fun _ => Door.evacuable_enabled) fun c _ h => Door.evacuationOpen_keepsEnable h c
  ((cancelDeferral_enablesKept s f).trans (opened _)).trans (enterDwelling_enablesKept _ f)

theorem beginEvacuation_enablesKept (s : State) (f : Face) : EnablesKept s (s.beginEvacuation f) :=
  ((setRelease_enablesKept s f _).trans (raiseFace_enablesKept _ f _)).trans
    (.ite (evacuationOpening_enablesKept _ f) (departureClose_enablesKept _ f))

theorem testEvacuation_enablesKept (s : State) (f : Face) : EnablesKept s (s.testEvacuation f) :=
  .opt (beginEvacuation_enablesKept s f)

/-! ### The Door Line Controller -/

/-- A unit's link record changed, with the command in its slot kept or taken out of it. -/
theorem modDropLink_enablesKept (s : State) (f : Face) (drop : Nat) (g : UnitLink → UnitLink)
    (h : ∀ l : UnitLink, ((g l).slot.map fun c => c.command) = l.slot.map (fun c => c.command) ∨ (g l).slot = none) :
    EnablesKept s (s.modDropLink f drop g) := by
  refine modDoors_map_enablesKept s f _ fun d => .ite ?_ (.refl d)
  rcases h d.link with h | h
  · exact .of_slot rfl rfl h
  · exact .of_noOpen rfl rfl (by simp [Door.slotCommand, Door.modLink, h])

theorem sends_slot {l : UnitLink} {k : TurnKind} {c : SlotCommand} (h : l.sends k = some c) : l.slot = some c := by
  unfold UnitLink.sends at h
  split at h
  · cases h
  next hs =>
    split at h
    · cases h
    · split at h <;> simp_all

/-- The beginning of a turn gives a command its number and leaves it in its slot. -/
theorem begun_slot (l : UnitLink) (k : TurnKind) :
    ((l.begun k).slot.map fun c => c.command) = l.slot.map fun c => c.command := by
  unfold UnitLink.begun
  split
  · rfl
  next hs =>
    split
    · simp [sends_slot hs]
    · rfl

/-- A send without its echo leaves the command in its slot, or takes it out after the last. -/
theorem spend_slot (l : UnitLink) :
    (l.spend.1.slot.map fun c => c.command) = l.slot.map (fun c => c.command) ∨ l.spend.1.slot = none := by
  unfold UnitLink.spend
  split
  · exact .inl rfl
  next hs =>
    split
    · exact .inr rfl
    · exact .inl (by simp [hs])

theorem good_slot (l : UnitLink) (echo : BitVec 4) :
    ((l.good echo).slot.map fun c => c.command) = l.slot.map fun c => c.command := by
  unfold UnitLink.good
  dsimp only
  split <;> simp [Function.comp_def]

theorem beginTurn_enablesKept (s : State) (f : Face) (k : TurnKind) (d : Nat) : EnablesKept s (s.beginTurn f k d) :=
  (modDropLink_enablesKept s f d _ fun l => .inl (begun_slot l k)).trans (modLine_enablesKept _ f _)

theorem nextTurn_enablesKept (s : State) (f : Face) : EnablesKept s (s.nextTurn f) := by
  refine (modLine_enablesKept s f fun l => { l with turn := none }).trans (.ite ?_ (modLine_enablesKept _ f _))
  split
  · exact beginTurn_enablesKept _ f _ _
  · exact .refl _

theorem startLine_enablesKept (s : State) (f : Face) : EnablesKept s (s.startLine f) :=
  (modLine_enablesKept s f _).trans (.ite (.refl _) (nextTurn_enablesKept _ f))

theorem endTunnel_enablesKept (s : State) (f : Face) (r : Result) (d : List Byte) : EnablesKept s (s.endTunnel f r d) := by
  unfold endTunnel
  split
  · exact .refl s
  · exact (modLine_enablesKept s f _).trans (reply_enablesKept _ _ _ r d)

theorem followLine_enablesKept (s : State) (f : Face) (was : Bool) : EnablesKept s (s.followLine f was) := by
  unfold followLine
  refine EnablesKept.trans (modLine_enablesKept s f _) (.ite (.ite ?_ (startLine_enablesKept _ f)) ?_)
  · split
    · exact .ite (.refl _) (endTunnel_enablesKept _ f _ _)
    · exact .refl _
  · exact (endTunnel_enablesKept _ f _ _).trans (.ite (.refl _) (modLine_enablesKept _ f _))

theorem accountSend_enablesKept (s : State) (f : Face) (d : Door) : EnablesKept s (s.accountSend f d) :=
  (modDropLink_enablesKept s f d.drop _ spend_slot).trans
    (.opt (applyDoor_enablesKept _ f _ _ fun _ d => d.exhausted_keepsEnable))

theorem badFrame_enablesKept (s : State) (f : Face) (t : Turn) : EnablesKept s (s.badFrame f t) := by
  unfold badFrame
  generalize hu : (if t.kind = .tunnel ∧ ¬t.orphan then
      s.modLine f fun l => { l with tunnel := l.tunnel.map fun x => { x with sent := false } } else s) = u
  have unsent : EnablesKept s u := hu ▸ .opt (modLine_enablesKept s f _)
  dsimp only
  split
  · exact unsent
  · refine (unsent.trans (modDropLink_enablesKept _ f _ _ ?_)).trans
      (.ite (applyDoor_enablesKept _ f _ _ fun _ d => d.loseContact_keepsEnable) (.ite (accountSend_enablesKept _ f _) (.refl _)))
    exact fun l => .inl rfl

/-! ### Adoption, release, the end of a turn -/

/-- The door records that an adoption rebuilds, at a VACANT berth: none is enabled, and a new one has an empty slot (R79). -/
theorem rebuildDoors_enablesKept (s : State) (f : Face) (entries : List (Nat × DoorEntry)) (hv : (s.face f).berth.state = .vacant) :
    EnablesKept s (s.modDoors f fun ds => rebuildDoors ds entries) := by
  refine .of_same f ?_ (by simp)
  have empty (h : EnableFollowed (s.face f)) : (s.face f).berth.enable = [] := by
    by_contra he; simpa [hv] using h.allowed he
  have rebuilt (h : EnableFollowed (s.face f)) : ∀ e ∈ rebuildDoors (s.face f).doors entries, e.enabled = false ∧
      (e.slotCommand = some .openCmd → ∃ d ∈ (s.face f).doors, d.slotCommand = some .openCmd) := by
    intro e he
    obtain ⟨q, -, rfl⟩ := List.mem_map.1 he
    split
    next d hd =>
      have hm := List.mem_of_find?_eq_some hd
      exact ⟨by simpa [empty h] using h.doors d hm, fun o => ⟨d, hm, o⟩⟩
    · exact ⟨rfl, nofun⟩
  refine ⟨fun h => ⟨by simpa using h.allowed, fun e he => ?_⟩, fun h ho e he o => ?_⟩
  · simpa [empty h] using (rebuilt h e (by simpa using he)).1
  · obtain ⟨d, hd, hs⟩ := (rebuilt h e (by simpa using he)).2 o
    simpa [empty h, h.doors d hd] using ho d hd hs

theorem handOnAdoption_enablesKept (s : State) (f : Face) (was : Bool) (hv : (s.face f).berth.state = .vacant) :
    EnablesKept s (s.handOnAdoption f was) :=
  ((((((rebuildDoors_enablesKept s f _ hv).trans (doorsHandOn_reported _ f).enablesKept).trans
    (followLine_enablesKept _ f was)).trans (modGap_enablesKept _ _)).trans (formSets_reported _ f).enablesKept).trans
    (decide_enablesKept _ f)).trans (testEvacuation_enablesKept _ f)

theorem adopt_enablesKept (s : State) (f : Face) (b : BankId) (hv : (s.face f).berth.state = .vacant) :
    EnablesKept s (s.adopt f b) :=
  (((modTbs_enablesKept s fun t => { t with active := t.active.set f (some b) }).trans
    (handOnAdoption_enablesKept _ f (s.configured f) hv)).trans (raiseFace_enablesKept _ f .bankAdopted)).trans
    (.opt (modTbs_enablesKept _ _))

theorem testAdoption_enablesKept (s : State) (f : Face) : EnablesKept s (s.testAdoption f) := by
  unfold testAdoption
  split
  · exact .refl s
  · split
    next h => exact adopt_enablesKept s f _ h.2.1
    · exact .refl s

theorem becomeNormal_enablesKept (s : State) (f : Face) : EnablesKept s (s.becomeNormal f) :=
  ((setRelease_enablesKept s f _).trans (raiseFace_enablesKept _ f _)).trans (testAdoption_enablesKept _ f)

theorem testRestore_enablesKept (s : State) (f : Face) : EnablesKept s (s.testRestore f) := .opt (becomeNormal_enablesKept s f)

theorem applyDoorRestore_enablesKept (s : State) (f : Face) (n : Nat) (g : DoorContext → Door → DoorOutcome)
    (h : ∀ c (d : Door), d.KeepsEnable (g c d).door) : EnablesKept s (s.applyDoorRestore f n g) := by
  unfold applyDoorRestore
  split
  · exact .refl s
  · have applied := applyDoor_enablesKept s f n g h
    exact .ite (applied.trans (testRestore_enablesKept _ f)) applied

theorem tunnelAnswered_enablesKept (s : State) (f : Face) (t : Turn) (r : Option (List Byte)) :
    EnablesKept s (s.tunnelAnswered f t r) := .opt (endTunnel_enablesKept s f _ _)

theorem goodFrame_enablesKept (s : State) (f : Face) (t : Turn) (st : Status) (r : Option (List Byte)) :
    EnablesKept s (s.goodFrame f t st r) := by
  unfold goodFrame
  split
  · exact .refl s
  · refine EnablesKept.trans ?_ (tunnelAnswered_enablesKept _ f t r)
    refine EnablesKept.trans ?_ (applyDoorRestore_enablesKept _ f _ _ fun c d => d.takeStatus_keepsEnable c st _)
    exact (modDropLink_enablesKept s f t.drop _ fun l => .inl (good_slot l _)).trans (.opt (accountSend_enablesKept _ f _))

theorem takeAnswer_enablesKept (s : State) (f : Face) (bytes : List Byte) (ok : Bool) : EnablesKept s (s.takeAnswer f bytes ok) := by
  rcases takeAnswer_cases s f bytes ok with h | ⟨x, -, -, ⟨-, h⟩ | ⟨st, r, -, h⟩⟩ <;> rw [h]
  · exact .refl s
  · exact (badFrame_enablesKept s f x).trans (nextTurn_enablesKept _ f)
  · exact (goodFrame_enablesKept s f x st r).trans (nextTurn_enablesKept _ f)

theorem windowExpiry_enablesKept (s : State) (f : Face) : EnablesKept s (s.windowExpiry f) := by
  rcases windowExpiry_cases s f with h | ⟨x, -, -, h⟩ <;> rw [h]
  · exact .refl s
  · exact (badFrame_enablesKept s f x).trans (nextTurn_enablesKept _ f)

/-! ### The Berth Tracker and the Alignment Engine -/

theorem vacate_enablesKept (s : State) (f : Face) : EnablesKept s (s.vacate f) :=
  dropOpens_settles (followEnable_followed _ f (by simp [vacated, Berth.SetAllowed]))
    (.of_eq (by simp [modBerth_face_partner]) (by simp [followEnable]))

theorem becomeVacant_enablesKept (s : State) (f : Face) : EnablesKept s (s.becomeVacant f) :=
  (vacate_enablesKept s f).trans (testAdoption_enablesKept _ f)

theorem requestAlignment_enablesKept (s : State) (f : Face) (n : BitVec 8) : EnablesKept s (s.requestAlignment f n) := by
  unfold requestAlignment
  split <;> exact modAln_enablesKept s _

theorem withdrawAlignment_enablesKept (s : State) (f : Face) : EnablesKept s (s.withdrawAlignment f) :=
  .opt (modAln_enablesKept s _)

/-- An alignment result taken, and the face then opened where it is under evacuation. -/
theorem acceptAlignment_enablesKept (s : State) (f : Face) (r : AlignResult) : EnablesKept s (s.acceptAlignment f r) := by
  have findings := raiseFindings_reported (s.modBerth f fun b => b.aligned r) f r
  rw [acceptAlignment_eq]
  refine EnablesKept.trans (dropOpens_settles (followEnable_followed _ f fun _ => .inl ?_) (.of_eq ?_ ?_))
    (.opt (evacuationOpening_enablesKept _ f))
  · rw [findings.berth]; simp [Berth.aligned]
  · simp [findings.berth]
  · simp [followEnable, findings.doors]

theorem completeAlignment_enablesKept (s : State) : EnablesKept s s.completeAlignment := by
  unfold completeAlignment
  split
  · exact .refl s
  next i _ =>
    have delivered : EnablesKept s (s.deliverAlignment i) := .opt (acceptAlignment_enablesKept s _ _)
    dsimp only
    split
    · exact delivered.trans (modAln_enablesKept _ _)
    · exact (delivered.trans (modAln_enablesKept _ _)).trans (modAln_enablesKept _ _)

theorem refuseTelegram_enablesKept (s : State) (f : Face) (k : TelegramKind) (r : Reason) :
    EnablesKept s (s.refuseTelegram f k r) := modBerth_enablesKept s f _ fun h => ⟨rfl, h⟩

theorem startSupervision_enablesKept (s : State) (f : Face) : EnablesKept s (s.startSupervision f) := by
  unfold startSupervision
  split
  · exact .refl s
  · exact modBerth_enablesKept s f _ fun h => ⟨rfl, h⟩

/-- An enable set outside STOPPED and DWELLING is empty. -/
theorem setAllowed_empty {b : Berth} (h : b.SetAllowed) (hs : b.state ≠ .stopped) (hd : b.state ≠ .dwelling) : b.enable = [] := by
  by_contra he
  exact (h he).elim hs hd

theorem takeArrival_enablesKept (s : State) (f : Face) (body : List Byte) : EnablesKept s (s.takeArrival f body) := by
  unfold takeArrival
  split
  · split
    · exact refuseTelegram_enablesKept s f _ _
    next hv =>
      split
      · exact refuseTelegram_enablesKept s f _ _
      · have empty (h : (s.face f).berth.SetAllowed) : (s.face f).berth.enable = [] :=
          setAllowed_empty h (by simp_all) (by simp_all)
        exact (modBerth_enablesKept s f _ fun h => ⟨(empty h).symm, fun he => absurd rfl he⟩).trans
          (startSupervision_enablesKept _ f)
  · exact refuseTelegram_enablesKept s f _ _

/-- A face whose berth becomes DEPARTING: its doors' enabled fields follow the emptied set, and the OPENs are still in the slots. The
partner's face is consistent throughout (R52). -/
theorem becomeDeparting_followed (s : State) (f : Face) :
    EnableFollowed ((s.becomeDeparting f).face f) ∧
      EnableKept (s.face f.partner) ((s.becomeDeparting f).face f.partner) := by
  let emptied := s.modBerth f fun b => { b with state := .departing, enable := [], pairing := [], dwellStart := none }
  let started := (emptied.startSupervision f).setCondition f .positionStale false
  have rest : EnablesKept (started.followEnable f) (s.becomeDeparting f) :=
    ((cancelDeferral_enablesKept _ f).trans (.opt (partnerExits_enablesKept _ _))).trans (.opt (withdrawAlignment_enablesKept _ f))
  have same : (started.face f).berth.enable = [] := by
    simp only [started, setCondition_berth, startSupervision]
    split <;> simp [emptied]
  have partner : EnableKept (s.face f.partner) ((started.followEnable f).face f.partner) := by
    refine .of_eq ?_ ?_ <;> simp only [started, startSupervision, followEnable] <;> split <;> simp [emptied]
  exact ⟨(rest f).followed (followEnable_followed _ f fun h => absurd same h), partner.trans (rest f.partner)⟩

/-- Operations after the berth has become DEPARTING, and then the OPENs taken out of the slots. -/
theorem becomeDeparting_settles {s u : State} {f : Face} (h : EnablesKept (s.becomeDeparting f) u) : EnablesKept s (u.dropOpens f) :=
  have ⟨followed, partner⟩ := becomeDeparting_followed s f
  dropOpens_settles ((h f).followed followed) (partner.trans (h f.partner))

theorem takeDeparture_enablesKept (s : State) (f : Face) (body : List Byte) : EnablesKept s (s.takeDeparture f body) := by
  have accepted : EnablesKept s (s.acceptDeparture f) :=
    becomeDeparting_settles (.trans (.opt (raiseFace_enablesKept _ f _)) (departureClose_enablesKept _ f))
  unfold takeDeparture
  exact .ite (.ite (refuseTelegram_enablesKept s f _ _) (.ite (refuseTelegram_enablesKept s f _ _) accepted))
    (refuseTelegram_enablesKept s f _ _)

theorem takeCleared_enablesKept (s : State) (f : Face) (body : List Byte) : EnablesKept s (s.takeCleared f body) := by
  unfold takeCleared
  exact .ite (.ite (refuseTelegram_enablesKept s f _ _) (.ite (refuseTelegram_enablesKept s f _ _) (becomeVacant_enablesKept s f)))
    (refuseTelegram_enablesKept s f _ _)

theorem returnToApproaching_enablesKept (s : State) (f : Face) (x : Sample) : EnablesKept s (s.returnToApproaching f x) := by
  refine EnablesKept.trans (dropOpens_settles (followEnable_followed _ f ?_) (.of_eq ?_ ?_)) (.opt (withdrawAlignment_enablesKept _ f))
  · simp [Berth.SetAllowed]
  · simp
  · simp [followEnable]

theorem testSample_enablesKept (s : State) (f : Face) (p : FaceParams) (x : Sample) : EnablesKept s (s.testSample f p x) := by
  unfold testSample
  dsimp only
  split
  next ha =>
    have empty (h : (s.face f).berth.SetAllowed) : (s.face f).berth.enable = [] :=
      setAllowed_empty h (by simp [ha]) (by simp [ha])
    exact .opt ((modBerth_enablesKept s f _ fun h => ⟨rfl, fun he => absurd (empty h) he⟩).trans
      (requestAlignment_enablesKept _ f _))
  · exact .opt (returnToApproaching_enablesKept s f x)
  · exact .opt (returnToApproaching_enablesKept s f x)
  · exact .opt (becomeDeparting_settles (.ite (.refl _) ((raiseFace_enablesKept _ f _).trans (movementClose_enablesKept _ f))))
  · exact .refl s
  · exact .refl s

theorem takePosition_enablesKept (s : State) (f : Face) (body : List Byte) : EnablesKept s (s.takePosition f body) := by
  unfold takePosition
  split
  · exact refuseTelegram_enablesKept s f _ _
  refine .ite (refuseTelegram_enablesKept s f _ _) ?_
  split
  · exact refuseTelegram_enablesKept s f _ _
  · exact .ite (modBerth_enablesKept s f _ fun h => ⟨rfl, h⟩)
      (((modBerth_enablesKept s f _ fun h => ⟨rfl, h⟩).trans (testSample_enablesKept _ f _ _)).trans
        ((startSupervision_enablesKept _ f).trans (setCondition_enablesKept _ f _ _)))

theorem supervisionLapse_enablesKept (s : State) (f : Face) : EnablesKept s (s.supervisionLapse f) := by
  unfold supervisionLapse
  refine .opt ((modBerth_enablesKept s f (fun b => { b with supervision := none }) fun h => ⟨rfl, h⟩).trans ?_)
  dsimp only
  split
  · exact becomeVacant_enablesKept _ f
  · exact .refl _
  all_goals exact activate_enablesKept _ f _ _

/-! ### The Link Interface, the Gap Monitor, the Table Store -/

theorem degrade_enablesKept (s : State) : EnablesKept s s.degrade := by
  rcases degrade_blocks s with h | h
  · exact (modLif_enablesKept s _).trans h.enablesKept
  · rw [h]; exact .refl s

theorem intactFrame_enablesKept (s : State) : EnablesKept s s.intactFrame :=
  (modLif_enablesKept s _).trans (.opt ((modLif_enablesKept _ _).trans (recover_reported _).enablesKept))

theorem damagedFrame_enablesKept (s : State) : EnablesKept s s.damagedFrame :=
  (modLif_enablesKept s _).trans (.opt (degrade_enablesKept _))

theorem silenceLapse_enablesKept (s : State) : EnablesKept s s.silenceLapse :=
  .opt ((modLif_enablesKept s _).trans (degrade_enablesKept _))

theorem joinIntake_enablesKept (s : State) (r : Request) : EnablesKept s (s.joinIntake r) :=
  .ite (modLif_enablesKept s _) ((modLif_enablesKept s _).trans (raiseDevice_enablesKept _ _))

theorem frameEnd_enablesKept (s : State) : EnablesKept s s.frameEnd := by
  unfold frameEnd
  split
  · exact .refl s
  · exact modLif_enablesKept s _

theorem followHeads_enablesKept (s : State) (f : Face) (heads : List Head) : EnablesKept s (s.followHeads f heads) :=
  .ite (activate_enablesKept s f _ _) (setCondition_enablesKept s f _ _)

theorem handOnZones_enablesKept (s : State) (f : Face) (r : List Head) (h : Bool) (zs : List Zone) :
    EnablesKept s (s.handOnZones f r h zs) :=
  ((((decide_enablesKept s f).trans (followHeads_enablesKept _ f r)).trans (followHeads_enablesKept _ f _)).trans
    (.opt (raiseFace_enablesKept _ f _))).trans (modReports_enablesKept _ f _)

theorem cycleEnd_enablesKept (s : State) : EnablesKept s s.cycleEnd := by
  have rebuilt : EnablesKept s s.rebuildGap := .opt (modGap_enablesKept s _)
  exact .opt (((((rebuilt.trans (modGap_enablesKept _ _)).trans (modGap_enablesKept _ _)).trans
    (handOnZones_enablesKept _ .A _ _ _)).trans (handOnZones_enablesKept _ .B _ _ _)).trans (modGap_enablesKept _ _))

theorem takeScan_enablesKept (s : State) (bytes : List Byte) (ok : Bool) : EnablesKept s (s.takeScan bytes ok) := by
  unfold takeScan
  split
  · exact .refl s
  · exact modGap_enablesKept s _

theorem takeObstruction_enablesKept (s : State) (f : Face) (n : Nat) : EnablesKept s (s.takeObstruction f n) :=
  .opt ((modReports_enablesKept s f _).trans
    (applyDoor_enablesKept _ f n _ fun c d => .outcome (d.obstruct_keepsEnable c) (.refl d)))

theorem endValidation_enablesKept (s : State) : EnablesKept s s.endValidation := by
  unfold endValidation
  split
  · exact .refl s
  dsimp only
  split
  · exact (modTbs_enablesKept s _).trans (reply_enablesKept _ _ _ _ _)
  split
  · exact (modTbs_enablesKept s _).trans (reply_enablesKept _ _ _ _ _)
  · exact ((((modTbs_enablesKept s _).trans (modTbs_enablesKept _ _)).trans (reply_enablesKept _ _ _ _ _)).trans
      (testAdoption_enablesKept _ .A)).trans (testAdoption_enablesKept _ .B)

theorem endCopy_enablesKept (s : State) : EnablesKept s s.endCopy := by
  unfold endCopy
  split
  · exact .refl s
  · exact (modTbs_enablesKept s _).trans (raiseDevice_enablesKept _ _)

theorem snapshotDone_enablesKept (s : State) : EnablesKept s s.snapshotDone := by
  unfold snapshotDone
  split
  · exact .refl s
  · exact (modLif_enablesKept s _).trans (reply_enablesKept _ _ _ _ _)

/-- A counter clear leaves the enable set, the enabled fields and the slots. -/
theorem cleared_enablesKept (s : State) (x : Clearing) : EnablesKept s (s.cleared x) := fun f => by
  refine ⟨fun h => ⟨by simpa [zeroFace, Berth.SetAllowed] using h.allowed, ?_⟩, fun _ h => ?_⟩
  · simpa [zeroFace, zeroDoor] using h.doors
  · simpa [OpensEnabled, zeroFace, zeroDoor, Door.slotCommand] using h

theorem clearDone_enablesKept (s : State) : EnablesKept s s.clearDone := by
  cases h : s.lif.clearing with
  | none => rw [clearDone, h]; exact .refl s
  | some x => rw [clearDone_of_clearing h]; exact (cleared_enablesKept s x).trans (raiseDevice_enablesKept _ _)

/-! ### SOFT_RESET -/

/-- A face after a soft reset of its blocks: the set is empty, no door enabled, every slot empty (R24, R78, R101). -/
theorem faceSoftReset_enablesKept (s : State) (f : Face) : EnablesKept s (s.faceSoftReset f) := by
  refine .of_face f ⟨fun _ => ⟨?_, ?_⟩, fun _ _ => ?_⟩ (.of_eq ?_ ?_)
  · simp [faceSoftReset, vacated, Berth.SetAllowed]
  · simp [faceSoftReset, vacated, Door.softReset]
  · simp [OpensEnabled, faceSoftReset, Door.softReset, Door.slotCommand]
  · simp [faceSoftReset]
  · simp [faceSoftReset]

theorem lineSoftReset_enablesKept (s : State) (f : Face) : EnablesKept s (s.lineSoftReset f) :=
  (modLine_enablesKept s f _).trans (.opt (nextTurn_enablesKept _ f))

theorem releaseSoftReset_enablesKept (s : State) (f : Face) (level : Level) : EnablesKept s (s.releaseSoftReset f level) :=
  (modRelease_enablesKept s f _).trans (.opt (restoreClose_enablesKept _ f))

theorem softReset_enablesKept (s : State) (evac : PerFace Level) : EnablesKept s (s.softReset evac) := by
  have proof (u : State) : EnablesKept u ((u.proofSoftReset .A).proofSoftReset .B) :=
    ((modProof_enablesKept u .A _).trans (modProof_enablesKept _ .A _)).trans
      ((modProof_enablesKept _ .B _).trans (modProof_enablesKept _ .B _))
  have faces (u : State) : EnablesKept u ((u.faceSoftReset .A).faceSoftReset .B) :=
    (faceSoftReset_enablesKept u .A).trans (faceSoftReset_enablesKept _ .B)
  have lines (u : State) : EnablesKept u ((u.lineSoftReset .A).lineSoftReset .B) :=
    (lineSoftReset_enablesKept u .A).trans (lineSoftReset_enablesKept _ .B)
  have releases (u : State) : EnablesKept u ((u.releaseSoftReset .A evac.a).releaseSoftReset .B evac.b) :=
    (releaseSoftReset_enablesKept u .A _).trans (releaseSoftReset_enablesKept _ .B _)
  have tables (u : State) : EnablesKept u ((u.tbsSoftReset.testAdoption .A).testAdoption .B) :=
    ((modTbs_enablesKept u _).trans (testAdoption_enablesKept _ .A)).trans (testAdoption_enablesKept _ .B)
  have evacuations (u : State) : EnablesKept u ((u.testEvacuation .A).testEvacuation .B).refreshAlerts :=
    ((testEvacuation_enablesKept u .A).trans (testEvacuation_enablesKept _ .B)).trans (refreshAlerts_reported _).enablesKept
  have link : EnablesKept s (s.lifSoftReset.raiseDevice .reset) := (modLif_enablesKept s _).trans (raiseDevice_enablesKept _ .reset)
  have gap (u : State) : EnablesKept u u.alnSoftReset.gapSoftReset :=
    (modAln_enablesKept u _).trans ((modGap_enablesKept _ _).trans (modGap_enablesKept _ _))
  have decided (u : State) : EnablesKept u ((u.decide .A).decide .B) := (decide_enablesKept u .A).trans (decide_enablesKept _ .B)
  exact ((((((((link.trans (proof _)).trans (gap _)).trans (faces _)).trans (lines _)).trans (decided _)).trans (releases _)).trans
    (tables _)).trans (evacuations _))

/-! ### The requests -/

theorem takeRequest_enablesKept (s : State) (k : Option RequestKind) (h : Request → State → State)
    (hk : ∀ r u, EnablesKept u (h r u)) : EnablesKept s (s.takeRequest k h) := by
  unfold takeRequest
  split
  · exact .refl s
  · exact .opt ((modLif_enablesKept s _).trans (hk _ _))

theorem withFace_enablesKept (s : State) (r : Request) (k : Face → State) (hk : ∀ f, EnablesKept s (k f)) :
    EnablesKept s (s.withFace r k) := by
  unfold withFace
  split
  · exact refuse_enablesKept s r _
  · exact hk _

theorem withConfigured_enablesKept (s : State) (r : Request) (k : Face → State) (hk : ∀ f, EnablesKept s (k f)) :
    EnablesKept s (s.withConfigured r k) := withFace_enablesKept s r _ fun f => .ite (hk f) (refuse_enablesKept s r _)

theorem withNoFields_enablesKept (s : State) (r : Request) (k : State) (hk : EnablesKept s k) :
    EnablesKept s (s.withNoFields r k) := .ite hk (refuse_enablesKept s r _)

theorem withDoor_enablesKept (s : State) (r : Request) (k : Face → Door → State)
    (hk : ∀ f n d, s.findDoor f n = some d → EnablesKept s (k f d)) : EnablesKept s (s.withDoor r k) :=
  withConfigured_enablesKept s r _ fun f => by
    split
    · exact refuse_enablesKept s r _
    next d hd =>
      obtain ⟨n, -, hn⟩ := Option.bind_eq_some_iff.1 hd
      exact hk f n d hn

theorem takeOpenFace_enablesKept (r : Request) (s : State) : EnablesKept s (takeOpenFace r s) :=
  withConfigured_enablesKept s r _ fun f => withNoFields_enablesKept s r _ <| by
    split
    · exact refuse_enablesKept s r _
    · exact (((cancelDeferral_enablesKept s f).trans (openDoors_enablesKept _ f)).trans (enterDwelling_enablesKept _ f)).trans
        (done_enablesKept _ r)

theorem beginDeferral_enablesKept (s : State) (f : Face) (i : Nat) (h : HoldEntry) : EnablesKept s (s.beginDeferral f i h) := by
  have emptied : EnablesKept s { s with holds := s.holds.setIfInBounds i none } := .of_eq (fun _ => rfl) fun _ => rfl
  exact (emptied.trans (modDeferral_enablesKept _ f _)).trans (partnerDwellLapse_enablesKept _ f)

theorem takeCloseFace_enablesKept (r : Request) (s : State) : EnablesKept s (takeCloseFace r s) :=
  withConfigured_enablesKept s r _ fun f => withNoFields_enablesKept s r _ <| by
    refine .ite (refuse_enablesKept s r _) (.ite (answer_enablesKept s r _ _) ?_)
    split
    · exact (beginDeferral_enablesKept s f _ _).trans (answer_enablesKept _ r _ _)
    · exact (closeFaceNow_enablesKept s f).trans (done_enablesKept _ r)

/-- A REOPEN_DOOR that is accepted finds its door enabled (R56). -/
theorem reopenRefusal_enabled {s : State} {f : Face} {d : Door} (h : s.reopenRefusal f d = none) : d.enabled = true := by
  unfold reopenRefusal at h
  by_contra he
  split at h
  · cases h
  · rw [if_pos (by simpa using he)] at h
    cases h

theorem takeReopenDoor_enablesKept (r : Request) (s : State) : EnablesKept s (takeReopenDoor r s) :=
  withDoor_enablesKept s r _ fun f n d hd => by
    split
    · exact refuse_enablesKept s r _
    next hr =>
      exact (applyDoor_enablesKept_of_enabled s f _ (findDoor_some hd).1 (reopenRefusal_enabled hr)
        fun c _ h => Door.startOpen_keepsEnable h c _).trans (done_enablesKept _ r)

theorem takeCloseDoor_enablesKept (r : Request) (s : State) : EnablesKept s (takeCloseDoor r s) :=
  withDoor_enablesKept s r _ fun f _ _ _ => .ite (refuse_enablesKept s r _)
    (.ite ((applyDoor_enablesKept s f _ _ fun c d => d.startClose_keepsEnable c _).trans (done_enablesKept _ r))
      (refuse_enablesKept s r _))

theorem takeIsolateDoor_enablesKept (r : Request) (s : State) : EnablesKept s (takeIsolateDoor r s) :=
  withDoor_enablesKept s r _ fun f _ _ _ =>
    (applyDoorRestore_enablesKept s f _ _ fun _ d => d.isolate_keepsEnable).trans (done_enablesKept _ r)

theorem takeReturnDoor_enablesKept (r : Request) (s : State) : EnablesKept s (takeReturnDoor r s) :=
  withDoor_enablesKept s r _ fun f _ _ _ => .ite
    ((applyDoorRestore_enablesKept s f _ _ fun _ d => d.returnToService_keepsEnable).trans (done_enablesKept _ r))
    (refuse_enablesKept s r _)

theorem holds_enablesKept (s : State) (h : Vector (Option HoldEntry) 8) : EnablesKept s { s with holds := h } :=
  .of_eq (fun _ => rfl) fun _ => rfl

theorem takeHoldAdd_enablesKept (r : Request) (s : State) : EnablesKept s (takeHoldAdd r s) :=
  withConfigured_enablesKept s r _ fun f => by
    split
    · exact refuse_enablesKept s r _
    split
    · exact refuse_enablesKept s r _
    · exact (holds_enablesKept s _).trans (answer_enablesKept _ r _ _)

theorem takeHoldCancel_enablesKept (r : Request) (s : State) : EnablesKept s (takeHoldCancel r s) :=
  withFace_enablesKept s r _ fun f => by
    split
    · exact refuse_enablesKept s r _
    · exact .ite ((holds_enablesKept s _).trans (done_enablesKept _ r)) (refuse_enablesKept s r _)

theorem acceptRestore_enablesKept (s : State) (f : Face) (seq : Byte) : EnablesKept s (s.acceptRestore f seq) :=
  (modRelease_enablesKept s f _).trans
    (.ite (becomeNormal_enablesKept _ f) ((setRelease_enablesKept _ f _).trans (restoreClose_enablesKept _ f)))

theorem takeRestore_enablesKept (r : Request) (s : State) : EnablesKept s (takeRestore r s) :=
  withFace_enablesKept s r _ fun f => by
    have refused (x : Reason) := refuse_enablesKept s r x
    split
    · exact refused _
    · exact .ite (refused _) (.ite (refused _) (.ite
        (((modRelease_enablesKept s f _).trans (raiseFace_enablesKept _ f _)).trans (answer_enablesKept _ r _ _))
        (.ite (refused _) (.ite (refused _) ((acceptRestore_enablesKept s f _).trans (done_enablesKept _ r))))))

theorem takeEvacuate_enablesKept (r : Request) (s : State) : EnablesKept s (takeEvacuate r s) :=
  withFace_enablesKept s r _ fun f => withNoFields_enablesKept s r _ <| .ite
    (((modRelease_enablesKept s f _).trans (.ite (.refl _) (beginEvacuation_enablesKept _ f))).trans (done_enablesKept _ r))
    (refuse_enablesKept s r _)

theorem takeTunnel_enablesKept (r : Request) (s : State) : EnablesKept s (takeTunnel r s) :=
  withConfigured_enablesKept s r _ fun f => by
    split
    · exact refuse_enablesKept s r _
    split
    · exact refuse_enablesKept s r _
    · exact .ite (refuse_enablesKept s r _) (.ite (refuse_enablesKept s r _) (modLine_enablesKept s f _))

theorem takeWriteEntry_enablesKept (r : Request) (s : State) : EnablesKept s (takeWriteEntry r s) := by
  unfold takeWriteEntry
  split
  · split
    · exact refuse_enablesKept s r _
    split
    · split
      · exact refuse_enablesKept s r _
      · exact (modTbs_enablesKept s _).trans (answer_enablesKept _ r _ _)
    · exact refuse_enablesKept s r _
  · exact refuse_enablesKept s r _

theorem takeReadEntry_enablesKept (r : Request) (s : State) : EnablesKept s (takeReadEntry r s) := by
  unfold takeReadEntry
  split
  · split
    · exact .ite (refuse_enablesKept s r _) (answer_enablesKept s r _ _)
    · exact refuse_enablesKept s r _
  · exact refuse_enablesKept s r _

theorem takeActivate_enablesKept (r : Request) (s : State) : EnablesKept s (takeActivate r s) := by
  unfold takeActivate
  split
  · exact refuse_enablesKept s r _
  · exact .ite (refuse_enablesKept s r _) (.ite (refuse_enablesKept s r _) (modTbs_enablesKept s _))

theorem drawFree_enablesKept (s : State) : EnablesKept s s.drawFree := .opt (.of_eq (fun _ => rfl) fun _ => rfl)

theorem takeReadStatus_enablesKept (r : Request) (s : State) : EnablesKept s (takeReadStatus r s) := by
  unfold takeReadStatus
  split
  · exact refuse_enablesKept s r _
  · exact (drawFree_enablesKept s).trans (answer_enablesKept _ r _ _)

theorem takeReadDoor_enablesKept (r : Request) (s : State) : EnablesKept s (takeReadDoor r s) :=
  withDoor_enablesKept s r _ fun _ _ _ _ => (drawFree_enablesKept s).trans (answer_enablesKept _ r _ _)

theorem installDevice_enablesKept (s : State) (limit : Nat) (routes : Vector Route 23) :
    EnablesKept s (s.installDevice limit routes) :=
  ((modLif_enablesKept s _).trans (modLif_enablesKept _ _)).trans
    ((EnablesKept.opt (degrade_enablesKept _)).trans (refreshAlerts_reported _).enablesKept)

theorem takeSetDevice_enablesKept (r : Request) (s : State) : EnablesKept s (takeSetDevice r s) := by
  unfold takeSetDevice
  split
  · exact refuse_enablesKept s r _
  · exact (installDevice_enablesKept s _ _).trans (done_enablesKept _ r)

theorem takeReadEvents_enablesKept (r : Request) (s : State) : EnablesKept s (takeReadEvents r s) := by
  unfold takeReadEvents
  split
  · exact refuse_enablesKept s r _
  · exact ((modLif_enablesKept s _).trans (refreshAlerts_reported _).enablesKept).trans (answer_enablesKept _ r _ _)

theorem takeSnapshot_enablesKept (r : Request) (s : State) : EnablesKept s (takeSnapshot r s) :=
  withNoFields_enablesKept s r _ (.ite (refuse_enablesKept s r _) (modLif_enablesKept s _))

theorem takeReadCounters_enablesKept (r : Request) (s : State) : EnablesKept s (takeReadCounters r s) := by
  unfold takeReadCounters
  split
  · exact refuse_enablesKept s r _
  refine .ite (refuse_enablesKept s r _) ?_
  split
  · exact refuse_enablesKept s r _
  · exact answer_enablesKept s r _ _

theorem takeClear_enablesKept (r : Request) (s : State) : EnablesKept s (takeClear r s) :=
  withNoFields_enablesKept s r _ (.ite (refuse_enablesKept s r _) (modLif_enablesKept s _))

theorem takeSoftReset_enablesKept (evac : PerFace Level) (r : Request) (s : State) : EnablesKept s (takeSoftReset evac r s) :=
  withNoFields_enablesKept s r _ (softReset_enablesKept s evac)

/-! ### The timers -/

theorem periodicExpiry_enablesKept (s : State) (f : Face) : EnablesKept s (s.periodicExpiry f) := .opt (modProof_enablesKept s f _)

theorem holdMaximumLapse_enablesKept (s : State) (f : Face) : EnablesKept s (s.holdMaximumLapse f) :=
  .opt (endWithClose_enablesKept s f _)

theorem tunnelLapse_enablesKept (s : State) (f : Face) : EnablesKept s (s.tunnelLapse f) := by
  unfold tunnelLapse
  split
  · exact .refl s
  · exact .opt (endTunnel_enablesKept s f _ _)

theorem doorTimeout_enablesKept (s : State) (f : Face) (n : Nat) (k : TimerKind) : EnablesKept s (s.doorTimeout f n k) :=
  .opt (applyDoor_enablesKept s f n _ fun _ d => d.timeout_keepsEnable k)

theorem dwellLapse_enablesKept (s : State) (f : Face) (n : Nat) : EnablesKept s (s.dwellLapse f n) :=
  .opt (applyDoor_enablesKept s f n _ fun c d => d.dwellOver_keepsEnable c)

/-! ### A step -/

theorem advance_enablesKept (s : State) (t : Micros) : EnablesKept s (s.advance t) := .of_eq (fun _ => rfl) fun _ => rfl

theorem event_enablesKept (s : State) (t : Micros) (k : State → State) (hk : ∀ u, EnablesKept u (k u)) :
    EnablesKept s (s.event t k) :=
  .ite ((((advance_enablesKept s t).trans (arbitrate_arbitrated _).enablesKept).trans (hk _)).trans
    (arbitrate_arbitrated _).enablesKept) (advance_enablesKept s t)

theorem request_enablesKept (s : State) (t : Micros) (k : Option RequestKind) (h : Request → State → State)
    (hk : ∀ r u, EnablesKept u (h r u)) : EnablesKept s (s.event t fun s => s.takeRequest k h) :=
  event_enablesKept s t _ fun u => takeRequest_enablesKept u k h hk

theorem silence_enablesKept (s : State) : EnablesKept s s.silence := .of_eq (fun f => by cases f <;> rfl) fun f => by cases f <;> rfl

theorem freshBlocks_face (s : State) (cause : ResetCause) (evac : PerFace Level) (f : Face) :
    (s.freshBlocks cause evac).face f = FaceState.initial (evac.get f) (s.ms + 200) := by cases f <;> rfl

/-- A face at power-on has an empty set and no door. -/
theorem freshBlocks_enablesKept (s : State) (cause : ResetCause) (evac : PerFace Level) :
    EnablesKept s (s.freshBlocks cause evac) := fun f => by
  rw [freshBlocks_face]
  refine ⟨fun _ => ⟨?_, ?_⟩, fun _ _ => ?_⟩
  · simp [FaceState.initial, Berth.initial, Berth.SetAllowed]
  · simp [FaceState.initial]
  · simp [FaceState.initial, OpensEnabled]

theorem assertPin_enablesKept (s : State) : EnablesKept s s.assertPin :=
  (silence_enablesKept s).trans (.of_eq (fun _ => rfl) fun _ => rfl)

theorem powerDown_enablesKept (s : State) : EnablesKept s s.powerDown :=
  (silence_enablesKept s).trans (.of_eq (fun _ => rfl) fun _ => rfl)

theorem powerUp_enablesKept (s : State) (evac : PerFace Level) : EnablesKept s (s.powerUp evac) :=
  (freshBlocks_enablesKept s .powerOn evac).trans (.of_eq (fun _ => rfl) fun _ => rfl)

theorem releasePin_enablesKept (s : State) (evac : PerFace Level) : EnablesKept s (s.releasePin evac) :=
  .ite ((freshBlocks_enablesKept s .pin evac).trans (.of_eq (fun _ => rfl) fun _ => rfl))
    (.of_eq (fun _ => rfl) fun _ => rfl)

end State

open State in
/-- A command keeps the enable set, the enabled fields and the OPENs consistent. -/
theorem exec_enablesKept (c : Instr) (s u : State) (h : exec c s = .next u) : EnablesKept s u := by
  have next {v : State} (k : EnablesKept s v) (h : (.next v : Host.Outcome State Fault Refusal) = .next u) : EnablesKept s u := by cases h; exact k
  cases c
  case powerOn t evac => exact next ((advance_enablesKept s t).trans (powerUp_enablesKept _ evac)) h
  case resetPinAssert t => exact next ((advance_enablesKept s t).trans (assertPin_enablesKept _)) h
  case resetPinRelease t evac => exact next ((advance_enablesKept s t).trans (releasePin_enablesKept _ evac)) h
  case powerLoss t => exact next ((advance_enablesKept s t).trans (powerDown_enablesKept _)) h
  case evacInputChange t f l =>
    exact next (event_enablesKept s t _ fun u => (modRelease_enablesKept u f _).trans (testEvacuation_enablesKept _ f)) h
  case inboundFrameDamaged t => exact next (event_enablesKept s t _ damagedFrame_enablesKept) h
  case trainFrameDiscarded t => exact next (event_enablesKept s t _ fun u => (intactFrame_enablesKept u).trans (modLif_enablesKept _ _)) h
  case arrival t f b => exact next (event_enablesKept s t _ fun u => (intactFrame_enablesKept u).trans (takeArrival_enablesKept _ f b)) h
  case position t f b => exact next (event_enablesKept s t _ fun u => (intactFrame_enablesKept u).trans (takePosition_enablesKept _ f b)) h
  case departure t f b => exact next (event_enablesKept s t _ fun u => (intactFrame_enablesKept u).trans (takeDeparture_enablesKept _ f b)) h
  case cleared t f b => exact next (event_enablesKept s t _ fun u => (intactFrame_enablesKept u).trans (takeCleared_enablesKept _ f b)) h
  case requestFrameReceived t r => exact next (event_enablesKept s t _ fun u => (intactFrame_enablesKept u).trans (joinIntake_enablesKept _ r)) h
  case transmitFrameEnd t => exact next (event_enablesKept s t _ frameEnd_enablesKept) h
  case uplinkSilenceExpiry t => exact next (event_enablesKept s t _ silenceLapse_enablesKept) h
  case requestUndefinedKind t => exact next (request_enablesKept s t _ _ fun r u => refuse_enablesKept u r _) h
  case openFace t => exact next (request_enablesKept s t _ _ takeOpenFace_enablesKept) h
  case closeFace t => exact next (request_enablesKept s t _ _ takeCloseFace_enablesKept) h
  case reopenDoor t => exact next (request_enablesKept s t _ _ takeReopenDoor_enablesKept) h
  case closeDoor t => exact next (request_enablesKept s t _ _ takeCloseDoor_enablesKept) h
  case isolateDoor t => exact next (request_enablesKept s t _ _ takeIsolateDoor_enablesKept) h
  case returnDoor t => exact next (request_enablesKept s t _ _ takeReturnDoor_enablesKept) h
  case holdAdd t => exact next (request_enablesKept s t _ _ takeHoldAdd_enablesKept) h
  case holdCancel t => exact next (request_enablesKept s t _ _ takeHoldCancel_enablesKept) h
  case restore t => exact next (request_enablesKept s t _ _ takeRestore_enablesKept) h
  case evacuate t => exact next (request_enablesKept s t _ _ takeEvacuate_enablesKept) h
  case tunnel t => exact next (request_enablesKept s t _ _ takeTunnel_enablesKept) h
  case writeEntry t => exact next (request_enablesKept s t _ _ takeWriteEntry_enablesKept) h
  case readEntry t => exact next (request_enablesKept s t _ _ takeReadEntry_enablesKept) h
  case activate t => exact next (request_enablesKept s t _ _ takeActivate_enablesKept) h
  case readStatus t => exact next (request_enablesKept s t _ _ takeReadStatus_enablesKept) h
  case readDoor t => exact next (request_enablesKept s t _ _ takeReadDoor_enablesKept) h
  case setDevice t => exact next (request_enablesKept s t _ _ takeSetDevice_enablesKept) h
  case readEvents t => exact next (request_enablesKept s t _ _ takeReadEvents_enablesKept) h
  case snapshotCounters t => exact next (request_enablesKept s t _ _ takeSnapshot_enablesKept) h
  case readCounters t => exact next (request_enablesKept s t _ _ takeReadCounters_enablesKept) h
  case clearCounters t => exact next (request_enablesKept s t _ _ takeClear_enablesKept) h
  case softReset t evac => exact next (request_enablesKept s t _ _ (takeSoftReset_enablesKept evac)) h
  case supervisionExpiry t f => exact next (event_enablesKept s t _ fun u => supervisionLapse_enablesKept u f) h
  case alignmentComplete t => exact next (event_enablesKept s t _ completeAlignment_enablesKept) h
  case openTimeoutExpiry t f n => exact next (event_enablesKept s t _ fun u => doorTimeout_enablesKept u f n _) h
  case closeTimeoutExpiry t f n => exact next (event_enablesKept s t _ fun u => doorTimeout_enablesKept u f n _) h
  case recycleDwellExpiry t f n => exact next (event_enablesKept s t _ fun u => dwellLapse_enablesKept u f n) h
  case obstructionReport t f n => exact next (event_enablesKept s t _ fun u => takeObstruction_enablesKept u f n) h
  case holdMaximumExpiry t f => exact next (event_enablesKept s t _ fun u => holdMaximumLapse_enablesKept u f) h
  case partnerDwellExpiry t f => exact next (event_enablesKept s t _ fun u => partnerDwellLapse_enablesKept u f) h
  case turnAnswer t f b p => exact next (event_enablesKept s t _ fun u => takeAnswer_enablesKept u f b p) h
  case answerWindowExpiry t f => exact next (event_enablesKept s t _ fun u => windowExpiry_enablesKept u f) h
  case lateFrameDiscarded t f => exact next (event_enablesKept s t _ .refl) h
  case tunnelTimeout t f => exact next (event_enablesKept s t _ fun u => tunnelLapse_enablesKept u f) h
  case scanFrameArrival t b p => exact next (event_enablesKept s t _ fun u => takeScan_enablesKept u b p) h
  case sensorCycleEnd t => exact next (event_enablesKept s t _ cycleEnd_enablesKept) h
  case periodicProofExpiry t f => exact next (event_enablesKept s t _ fun u => periodicExpiry_enablesKept u f) h
  case validationComplete t => exact next (event_enablesKept s t _ endValidation_enablesKept) h
  case copyComplete t => exact next (event_enablesKept s t _ endCopy_enablesKept) h
  case snapshotReady t => exact next (event_enablesKept s t _ snapshotDone_enablesKept) h
  case counterClearComplete t => exact next (event_enablesKept s t _ clearDone_enablesKept) h

/-- Settles O54: each command keeps `EnableKept` on both faces, operation by operation. -/
theorem everyStepKeepsEnableSafe : Obligations.EveryStepKeepsEnableSafe := by
  intro s u hs h
  unfold step at h
  split at h
  · cases h; exact hs
  next c rest _ =>
    have taken : EnablesKept s { s with pending := rest } := .of_eq (fun _ => rfl) fun _ => rfl
    exact (taken.trans (exec_enablesKept c _ u h)).safe hs

end Sys2Proof.Machine
end

section
/-! PROOFS. Frames: what the operations on berths, doors and deferrals make of `blocks`, and that they leave the queues of the Link
Interface, the clock and every raised flag alone. -/

namespace Sys2Proof.Machine

/-! ### Changing the blocks of a face -/

namespace Blocks

@[simp] theorem get_modFace (b : Blocks) (f : Face) (g : FaceBlocks → FaceBlocks) :
    (b.modFace f g).faces.get f = g (b.faces.get f) := by simp [modFace, PerFace.modify]

@[simp] theorem get_partner_modFace (b : Blocks) (f : Face) (g : FaceBlocks → FaceBlocks) :
    (b.modFace f g).faces.get f.partner = b.faces.get f.partner := by simp [modFace, PerFace.modify]

@[simp] theorem get_modFace_partner (b : Blocks) (f : Face) (g : FaceBlocks → FaceBlocks) :
    (b.modFace f.partner g).faces.get f = b.faces.get f := by simp [modFace, PerFace.modify]

@[simp] theorem modFace_modFace (b : Blocks) (f : Face) (g h : FaceBlocks → FaceBlocks) :
    (b.modFace f g).modFace f h = b.modFace f fun x => h (g x) := by cases f <;> rfl

/-- Only what a change makes of the face's own blocks counts. -/
theorem modFace_congr {b : Blocks} {f : Face} {g h : FaceBlocks → FaceBlocks} (e : g (b.faces.get f) = h (b.faces.get f)) :
    b.modFace f g = b.modFace f h := by simp only [modFace, PerFace.modify, e]

/-- A change that makes nothing of the face's own blocks. -/
theorem modFace_same {b : Blocks} {f : Face} {g : FaceBlocks → FaceBlocks} (e : g (b.faces.get f) = b.faces.get f) :
    b.modFace f g = b := by
  simp only [modFace, PerFace.modify, e]
  cases f <;> rfl

end Blocks

namespace State

@[simp] theorem blocks_get (s : State) (f : Face) : s.blocks.faces.get f = (s.face f).blocks := PerFace.get_map _ _ f

/-- The face's own blocks of a state whose blocks are known. -/
theorem face_blocks_of {u : State} {b : Blocks} (h : u.blocks = b) (f : Face) : (u.face f).blocks = b.faces.get f := by
  rw [← h, blocks_get]

theorem modBerth_blocks (s : State) (f : Face) (g : Berth → Berth) :
    (s.modBerth f g).blocks = s.blocks.modFace f fun b => { b with berth := g b.berth } := by cases f <;> rfl

theorem modDoors_blocks (s : State) (f : Face) (g : List Door → List Door) :
    (s.modDoors f g).blocks = s.blocks.modFace f fun b => { b with doors := g b.doors } := by cases f <;> rfl

theorem modDeferral_blocks (s : State) (f : Face) (g : Deferral → Deferral) :
    (s.modDeferral f g).blocks = s.blocks.modFace f fun b => { b with deferral := g b.deferral } := by cases f <;> rfl

theorem modRelease_blocks (s : State) (f : Face) (g : Release → Release) :
    (s.modRelease f g).blocks = s.blocks.modFace f fun b => { b with release := g b.release } := by cases f <;> rfl

@[simp] theorem modLif_blocks (s : State) (g : LinkInterface → LinkInterface) : (s.modLif g).blocks = s.blocks := rfl

@[simp] theorem advance_blocks (s : State) (t : Micros) : (s.advance t).blocks = s.blocks := rfl

theorem modAln_blocks (s : State) (g : Engine → Engine) : (s.modAln g).blocks = { s.blocks with aln := g s.aln } := rfl

@[simp] theorem raiseFace_blocks (s : State) (f : Face) (k : EventKind) : (s.raiseFace f k).blocks = s.blocks :=
  reported_blocks (raiseFace_reported s f k)

@[simp] theorem setCondition_blocks (s : State) (f : Face) (c : Condition) (on : Bool) : (s.setCondition f c on).blocks = s.blocks :=
  reported_blocks (setCondition_reported s f c on)

@[simp] theorem activate_blocks (s : State) (f : Face) (c : Condition) (k : EventKind) : (s.activate f c k).blocks = s.blocks :=
  reported_blocks (activate_reported s f c k)

@[simp] theorem decide_blocks (s : State) (f : Face) : (s.decide f).blocks = s.blocks := reported_blocks (decide_reported s f)

theorem setRelease_blocks (s : State) (f : Face) (st : ReleaseState) :
    (s.setRelease f st).blocks = s.blocks.modFace f fun b => { b with release := { b.release with state := st } } := by
  rw [setRelease, decide_blocks, modRelease_blocks]

@[simp] theorem intactFrame_blocks (s : State) : s.intactFrame.blocks = s.blocks := by
  unfold intactFrame
  dsimp only
  split
  · exact (reported_blocks (recover_reported _)).trans rfl
  · rfl

end State

/-! ### What is left alone beside the blocks -/

/-- The clock, the intake queue, the reply list and a counter clear stand as they stood, and every flag that was set is set still. -/
structure Quiet (s u : State) : Prop where
  now : u.now = s.now
  intake : u.lif.intake = s.lif.intake
  replies : u.lif.replies = s.lif.replies
  clearing : u.lif.clearing = s.lif.clearing
  flags : ∀ c k, k ∈ s.lif.flags.get c → k ∈ u.lif.flags.get c

/-- Beside what `Quiet` says, no condition changes but the two that follow the door records. -/
structure Calm (s u : State) : Prop extends Quiet s u where
  active : ∀ f c, c ≠ .doorStalled → c ≠ .doorHeld → (u.face f).proof.active.get c = (s.face f).proof.active.get c

theorem Quiet.refl (s : State) : Quiet s s := ⟨rfl, rfl, rfl, rfl, fun _ _ h => h⟩

theorem Quiet.trans {s u v : State} (h : Quiet s u) (k : Quiet u v) : Quiet s v :=
  ⟨k.now.trans h.now, k.intake.trans h.intake, k.replies.trans h.replies, k.clearing.trans h.clearing,
    fun c x hx => k.flags c x (h.flags c x hx)⟩

theorem Quiet.ms {s u : State} (h : Quiet s u) : u.ms = s.ms := by simp only [State.ms, h.now]

theorem Quiet.bump {s u : State} (h : Quiet s u) : u.bump = s.bump := by funext c; simp only [State.bump, h.clearing]

/-- What differs in neither lists nor clock nor flags nor conditions. -/
theorem Calm.of_eq {s u : State} (hn : u.now = s.now) (hl : u.lif = s.lif) (hp : ∀ f, (u.face f).proof = (s.face f).proof) : Calm s u :=
  ⟨⟨hn, by rw [hl], by rw [hl], by rw [hl], fun _ _ h => hl ▸ h⟩, fun f _ _ _ => by rw [hp]⟩

theorem Reported.quiet {s u : State} (h : Reported s u) (hf : ∀ c k, k ∈ s.lif.flags.get c → k ∈ u.lif.flags.get c) : Quiet s u :=
  ⟨h.now, h.lif_intake, h.lif_replies, h.lif_clearing, hf⟩

namespace Calm

theorem refl (s : State) : Calm s s := ⟨.refl s, fun _ _ _ _ => rfl⟩

theorem trans {s u v : State} (h : Calm s u) (k : Calm u v) : Calm s v :=
  ⟨h.toQuiet.trans k.toQuiet, fun f c h1 h2 => (k.active f c h1 h2).trans (h.active f c h1 h2)⟩

theorem ite {s a b : State} {c : Prop} {_ : Decidable c} (h : Calm s a) (k : Calm s b) : Calm s (if c then a else b) := by
  split
  · exact h
  · exact k

theorem opt {s a : State} {c : Prop} {_ : Decidable c} (h : Calm s a) : Calm s (if c then a else s) := .ite h (.refl s)

theorem foldl {α : Type} (l : List α) (g : State → α → State) (hg : ∀ s x, Calm s (g s x)) (s : State) : Calm s (l.foldl g s) := by
  induction l generalizing s with
  | nil => exact .refl s
  | cons x rest ih => exact (hg s x).trans (ih _)

end Calm

namespace State

theorem modBerth_calm (s : State) (f : Face) (g : Berth → Berth) : Calm s (s.modBerth f g) := .of_eq rfl rfl fun _ => by simp

theorem modDoors_calm (s : State) (f : Face) (g : List Door → List Door) : Calm s (s.modDoors f g) := .of_eq rfl rfl fun _ => by simp

theorem modDeferral_calm (s : State) (f : Face) (g : Deferral → Deferral) : Calm s (s.modDeferral f g) :=
  .of_eq rfl rfl fun _ => by simp

theorem modRelease_calm (s : State) (f : Face) (g : Release → Release) : Calm s (s.modRelease f g) := .of_eq rfl rfl fun _ => by simp

theorem modAln_calm (s : State) (g : Engine → Engine) : Calm s (s.modAln g) := .of_eq rfl rfl fun _ => by simp

theorem raiseFace_calm (s : State) (f : Face) (k : EventKind) : Calm s (s.raiseFace f k) :=
  ⟨(raiseFace_reported s f k).quiet fun _ _ h => raise_keeps_flag s _ _ k _ h, fun g c _ _ => by simp [raiseFace]⟩

theorem decide_calm (s : State) (f : Face) : Calm s (s.decide f) :=
  ⟨(decide_reported s f).quiet fun _ _ h => by simpa using h, fun g c _ _ => by rw [decide_active]⟩

theorem setCondition_quiet (s : State) (f : Face) (c : Condition) (on : Bool) : Quiet s (s.setCondition f c on) :=
  (setCondition_reported s f c on).quiet fun _ _ h => by simpa using h

/-- A condition handed to a face leaves every other condition. -/
theorem setCondition_active_other (s : State) (f g : Face) {c d : Condition} (h : d ≠ c) (on : Bool) :
    ((s.setCondition f c on).face g).proof.active.get d = (s.face g).proof.active.get d := by
  obtain rfl | rfl := Face.eq_or_partner f g
  · unfold setCondition
    split
    · rfl
    · rw [setActive_active]
      cases c <;> cases d <;> first | rfl | exact absurd rfl h
  · rw [setCondition_active_ne s (Face.partner_ne f)]

theorem activate_quiet (s : State) (f : Face) (c : Condition) (k : EventKind) : Quiet s (s.activate f c k) := by
  unfold activate
  split
  · exact .refl s
  · exact (raiseFace_calm s f k).toQuiet.trans (setCondition_quiet _ f c true)

/-- A condition that its owner finds true is active, and its flag is set where it was not active (R4, R157). -/
theorem activate_active (s : State) (f : Face) (c : Condition) (k : EventKind) :
    ((s.activate f c k).face f).proof.active.get c = true ∧
      ((s.face f).proof.active.get c = false → k ∈ (s.activate f c k).lif.flags.get (.face f)) := by
  unfold activate
  split
  next h => exact ⟨h, by simp [h]⟩
  · exact ⟨setCondition_active _ f c true, fun _ => by rw [setCondition_flags]; exact raise_flag s (.face f) k⟩

/-- The doors' hand-on leaves every condition but its own two. -/
theorem doorsHandOn_calm (s : State) (f : Face) : Calm s (s.doorsHandOn f) := by
  refine ⟨(doorsHandOn_reported s f).quiet fun _ _ h => by simpa using h, fun g c h1 h2 => ?_⟩
  unfold doorsHandOn
  dsimp only
  obtain rfl | rfl := Face.eq_or_partner f g
  · rw [setActive_active]
    cases c
    case doorStalled => exact absurd rfl h1
    case doorHeld => exact absurd rfl h2
    all_goals simp [PerCondition.get]
  · rw [setActive_active_ne _ (Face.partner_ne f)]
    simp

theorem setRelease_calm (s : State) (f : Face) (st : ReleaseState) : Calm s (s.setRelease f st) :=
  (modRelease_calm s f _).trans (decide_calm _ f)

theorem takeReport_calm (s : State) (f : Face) (n : Nat) (r : DoorReport) : Calm s (s.takeReport f n r) := by
  cases r
  case latchSet =>
    have first : Calm s (s.modRelease f fun r => { r with seq := r.seq + 1, set := setMark n true false r.set }) :=
      modRelease_calm s f _
    exact (Calm.ite (first.trans (setRelease_calm _ f _)) first).trans (raiseFace_calm _ f _)
  all_goals unfold takeReport; exact modRelease_calm s f _

theorem takeReports_calm (s : State) (f : Face) (n : Nat) (l : List DoorReport) : Calm s (s.takeReports f n l) :=
  .foldl l _ (fun s r => takeReport_calm s f n r) s

theorem raiseAll_calm (s : State) (f : Face) (l : List EventKind) : Calm s (s.raiseAll f l) :=
  .foldl l _ (fun s k => raiseFace_calm s f k) s

theorem applyDoor_calm (s : State) (f : Face) (n : Nat) (g : DoorContext → Door → DoorOutcome) : Calm s (s.applyDoor f n g) := by
  unfold applyDoor
  split
  · exact .refl s
  · exact ((((modDoors_calm s f _).trans (takeReports_calm _ f n _)).trans (doorsHandOn_calm _ f)).trans
      (raiseAll_calm _ f _)).trans (takeReports_calm _ f n _)

theorem applyDoors_calm (s : State) (f : Face) (p : Door → Bool) (g : DoorContext → Door → DoorOutcome) :
    Calm s (s.applyDoors f p g) := .foldl _ _ (fun s n => applyDoor_calm s f n g) s

theorem followEnable_calm (s : State) (f : Face) : Calm s (s.followEnable f) := modDoors_calm s f _

theorem dropOpens_calm (s : State) (f : Face) : Calm s (s.dropOpens f) := modDoors_calm s f _

theorem endDeferral_calm (s : State) (f : Face) (c : EndCause) : Calm s (s.endDeferral f c) :=
  (modDeferral_calm s f _).trans (raiseFace_calm _ f _)

theorem endWithClose_calm (s : State) (f : Face) (c : EndCause) : Calm s (s.endWithClose f c) :=
  (endDeferral_calm s f c).trans (applyDoors_calm _ f _ _)

theorem cancelDeferral_calm (s : State) (f : Face) : Calm s (s.cancelDeferral f) := .opt (endDeferral_calm s f _)

theorem partnerDwellLapse_calm (s : State) (f : Face) : Calm s (s.partnerDwellLapse f) := .opt (endWithClose_calm s f _)

theorem partnerEnters_calm (s : State) (f : Face) (x : Millis) : Calm s (s.partnerEnters f x) :=
  (modDeferral_calm s f _).trans (partnerDwellLapse_calm _ f)

theorem partnerExits_calm (s : State) (f : Face) : Calm s (s.partnerExits f) :=
  (modDeferral_calm s f _).trans (.opt (endWithClose_calm _ f _))

theorem enterDwelling_calm (s : State) (f : Face) : Calm s (s.enterDwelling f) :=
  .opt ((modBerth_calm s f _).trans (partnerEnters_calm _ _ _))

theorem evacuationOpening_calm (s : State) (f : Face) : Calm s (s.evacuationOpening f) :=
  ((cancelDeferral_calm s f).trans (applyDoors_calm _ f _ _)).trans (enterDwelling_calm _ f)

theorem startSupervision_calm (s : State) (f : Face) : Calm s (s.startSupervision f) := by
  unfold startSupervision
  split
  · exact .refl s
  · exact modBerth_calm s f _

theorem withdrawAlignment_calm (s : State) (f : Face) : Calm s (s.withdrawAlignment f) := .opt (modAln_calm s _)

theorem requestAlignment_calm (s : State) (f : Face) (n : BitVec 8) : Calm s (s.requestAlignment f n) := by
  unfold requestAlignment
  split <;> exact modAln_calm s _

theorem arbitrate_calm (s : State) : Calm s s.arbitrate :=
  have h := arbitrate_arbitrated s
  ⟨⟨h.now, h.lif_intake, h.lif_replies, h.lif_clearing, fun _ _ hk => h.lif_flags ▸ hk⟩, fun f c _ _ => by rw [h.proof_active]⟩

theorem intactFrame_flags (s : State) : s.intactFrame.lif.flags = s.lif.flags := by
  unfold intactFrame
  dsimp only
  split
  · simp [recover]
  · rfl

theorem intactFrame_quiet (s : State) : Quiet s s.intactFrame := by
  refine ⟨(intactFrame_kept s).now, ?_, ?_, ?_, fun _ _ h => intactFrame_flags s ▸ h⟩ <;>
  · unfold intactFrame
    dsimp only
    split <;> simp [recover]

end State

end Sys2Proof.Machine
end

section
/-! PROOFS. The Door Sequencer and the close deferral as changes of `blocks`: the closes and openings of a face, the end of a deferral,
the partner's entry to DWELLING and exit from it (Chapters 3 and 6). -/

namespace Sys2Proof.Machine

/-! ### Rules for one door -/

namespace Door

theorem obstruct_reports (d : Door) (ctx : DoorContext) : (d.obstruct ctx).reports = [] := by
  unfold obstruct
  dsimp only
  split <;> rfl

theorem enterClosing_reports (d : Door) (ctx : DoorContext) : (d.enterClosing ctx).reports = [] := by
  unfold enterClosing
  dsimp only
  split
  · exact obstruct_reports _ ctx
  · rfl

theorem startClose_reports (d : Door) (ctx : DoorContext) (u : Urgency) : (d.startClose ctx u).reports = [] :=
  enterClosing_reports _ ctx

theorem departureClose_reports (d : Door) (ctx : DoorContext) : (d.departureClose ctx).reports = [] := by
  unfold departureClose
  split
  · rfl
  · exact startClose_reports d ctx _

theorem restoreClose_reports (d : Door) (ctx : DoorContext) : (d.restoreClose ctx).reports = [] := by
  unfold restoreClose
  split
  · rfl
  · exact startClose_reports d ctx _

/-- The evacuation opening marks a door, or leaves a RELEASED, ISOLATED or LOST one alone (R74). -/
theorem evacuationOpen_reports (d : Door) (ctx : DoorContext) :
    (d.evacuationOpen ctx).reports = if d.state = .released ∨ d.state = .isolated ∨ d.state = .lost then [] else [.evacSet] := by
  unfold evacuationOpen
  split
  case h_3 => split <;> simp_all
  all_goals simp_all [plain]

theorem evacuationOpen_number (d : Door) (ctx : DoorContext) : (d.evacuationOpen ctx).door.number = d.number := by
  unfold evacuationOpen
  split
  case h_3 => split <;> rfl
  case h_4 | h_5 | h_6 | h_7 | h_8 => exact place_number d ctx .openCmd .urgent
  all_goals rfl

/-- A CLOSE leaves no OPEN in the slot of a door that is not enabled: an obstruction then halts it (R69). -/
theorem startClose_noOpen {d : Door} (h : d.enabled = false) (ctx : DoorContext) (u : Urgency) :
    (d.startClose ctx u).door.slotCommand ≠ some .openCmd := by
  intro o
  have entered := enterClosing_keepsEnable ({ d with recycleCount := 0 }.place ctx .closeCmd u) ctx
  rcases entered.slot o with hs | he
  · simp at hs
  · simp [h] at he

theorem departureClose_noOpen {d : Door} (h : d.enabled = false) (ctx : DoorContext) :
    (d.departureClose ctx).door.slotCommand ≠ some .openCmd := by
  unfold departureClose
  split
  · simp [plain]
  · exact startClose_noOpen h ctx _

theorem dropOpen_of_noOpen {d : Door} (h : d.slotCommand ≠ some .openCmd) : d.dropOpen = d := if_neg fun hs => h hs.1

/-- A door whose enable set has been emptied, once its OPEN has left the slot (R52). -/
theorem disabled_eq (d : Door) : (d.follow []).dropOpen = d.disabled := by
  have hs : (d.follow []).slotCommand = d.slotCommand := rfl
  unfold dropOpen disabled
  rw [hs]
  by_cases h : d.slotCommand = some .openCmd
  · rw [if_pos ⟨h, by simp [follow]⟩, if_pos h]; simp [follow, setSlot]
  · rw [if_neg fun x => h x.1, if_neg h]; simp [follow]

theorem follow_nil (d : Door) : d.follow [] = { d with enabled := false } := by simp [follow]

end Door

namespace State

/-- The blocks of one face, record by record. -/
theorem face_records_of {u : State} {b : Blocks} (h : u.blocks = b) (f : Face) :
    (u.face f).berth = (b.faces.get f).berth ∧ (u.face f).doors = (b.faces.get f).doors ∧
      (u.face f).deferral = (b.faces.get f).deferral ∧ (u.face f).reports = (b.faces.get f).reports ∧
      (u.face f).line = (b.faces.get f).line ∧ (u.face f).release = (b.faces.get f).release := by
  rw [← face_blocks_of h f]
  exact ⟨rfl, rfl, rfl, rfl, rfl, rfl⟩

/-! ### One event for each door of a face -/

/-- What a face's doors need for one event of each: no two records share a number. -/
def DistinctDoors (x : FaceState) : Prop := (x.doors.map fun d => d.number).Nodup

theorem DistinctDoors.of_ordered {s : State} (h : doorsOrdered s) (f : Face) : DistinctDoors (s.face f) :=
  (h f).1.imp Nat.ne_of_lt

theorem DistinctDoors.of_doors {x y : FaceState} (h : DistinctDoors x) (e : y.doors = x.doors) : DistinctDoors y := by
  unfold DistinctDoors; rw [e]; exact h

/-- The context of a door's rules is the same in two states that agree on clock, counter clear, tables, zones and release state. -/
theorem doorContext_eq {s u : State} (f : Face) (n : Nat) (hq : Quiet s u) (ht : u.tbs = s.tbs) (hg : u.gap = s.gap)
    (hr : (u.face f).release.state = (s.face f).release.state) : u.doorContext f n = s.doorContext f n := by
  simp only [doorContext, params?, tables?, hq.ms, hq.clearing, ht, hg, hr]

theorem doorContext_of_blocks {s u : State} (f : Face) (n : Nat) (hq : Quiet s u) (h : u.blocks = s.blocks) :
    u.doorContext f n = s.doorContext f n := by
  obtain ⟨-, -, -, -, -, release⟩ := face_records_of h f
  rw [blocks_get] at release
  exact doorContext_eq f n hq (congrArg Blocks.tbs h) (congrArg Blocks.gap h) (congrArg Release.state release)

/-- The blocks after the Door Sequencer's work on one face. -/
theorem Sequenced.blocks_eq {s u : State} (h : Sequenced s u) {f : Face} {ds : List Door} (hd : (u.face f).doors = ds)
    (hp : (u.face f.partner).doors = (s.face f.partner).doors)
    (hr : (u.face f.partner).release = (s.face f.partner).release) :
    u.blocks = s.blocks.modFace f fun b => { b with doors := ds, release := (u.face f).release } := by
  have same : (u.face f).blocks = { (s.face f).blocks with doors := ds, release := (u.face f).release } := by
    simp only [FaceState.blocks, h.berth, h.deferral, h.reports, h.line, hd]
  have partner : (u.face f.partner).blocks = (s.face f.partner).blocks := by
    simp only [FaceState.blocks, h.berth, h.deferral, h.reports, h.line, hp, hr]
  cases f <;>
    simp_all [blocks, PerFace.map, Blocks.modFace, PerFace.modify, PerFace.set, PerFace.get, Face.partner, h.powered, h.resetPin,
      h.holds, h.aln, h.gap, h.tbs, h.pending]

/-- One event for each of a face's doors that pass a test. -/
theorem applyDoors_blocks (s : State) (f : Face) (p : Door → Bool) (g : DoorContext → Door → DoorOutcome) (hg : Steady g)
    (hn : DistinctDoors (s.face f)) :
    (s.applyDoors f p g).blocks = s.blocks.modFace f fun b =>
      { b with
        doors := b.doors.map fun d => if p d then (g (s.doorContext f d.number) d).door else d
        release := ((s.applyDoors f p g).face f).release } :=
  (Sequenced.blocks_eq (applyDoors_sequenced s f p g) (applyDoors_doors s f p g hg hn)
    (applyDoors_doors_ne s (Face.partner_ne f) p g) (applyDoors_release_ne s (Face.partner_ne f) p g)).trans
    (Blocks.modFace_congr (by simp [FaceState.blocks]))

/-- One event that reports nothing for each of a face's doors that pass a test. -/
theorem applyDoors_blocks_silent (s : State) (f : Face) (p : Door → Bool) (g : DoorContext → Door → DoorOutcome)
    (hk : ∀ c d, (g c d).door.number = d.number) (hr : ∀ c d, (g c d).reports = []) (hn : DistinctDoors (s.face f)) :
    (s.applyDoors f p g).blocks = s.blocks.modFace f fun b =>
      { b with doors := b.doors.map fun d => if p d then (g (s.doorContext f d.number) d).door else d } := by
  rw [applyDoors_blocks s f p g ⟨hk, fun c d => by simp [hr]⟩ hn]
  refine Blocks.modFace_congr ?_
  rw [applyDoors_release s f f p g hr]
  simp [FaceState.blocks]

theorem closeFaceNow_blocks (s : State) (f : Face) (hn : DistinctDoors (s.face f)) :
    (s.closeFaceNow f).blocks = s.blocks.modFace f fun b =>
      { b with doors := b.doors.map fun d => if d.closable then (d.startClose (s.doorContext f d.number) .routine).door else d } :=
  applyDoors_blocks_silent s f _ _ (fun c d => (d.startClose_keepsEnable c _).number) (fun c d => d.startClose_reports c _) hn

theorem movementClose_blocks (s : State) (f : Face) (hn : DistinctDoors (s.face f)) :
    (s.movementClose f).blocks = s.blocks.modFace f fun b =>
      { b with doors := b.doors.map fun d => if d.closable then (d.startClose (s.doorContext f d.number) .urgent).door else d } :=
  applyDoors_blocks_silent s f _ _ (fun c d => (d.startClose_keepsEnable c _).number) (fun c d => d.startClose_reports c _) hn

theorem departureClose_blocks (s : State) (f : Face) (hn : DistinctDoors (s.face f)) :
    (s.departureClose f).blocks = s.blocks.modFace f fun b =>
      { b with doors := b.doors.map fun d => if d.departing then (d.departureClose (s.doorContext f d.number)).door else d } :=
  applyDoors_blocks_silent s f _ _ (fun c d => (d.departureClose_keepsEnable c).number) (fun c d => d.departureClose_reports c) hn

theorem openDoors_blocks (s : State) (f : Face) (hn : DistinctDoors (s.face f)) :
    (s.openDoors f).blocks = s.blocks.modFace f fun b =>
      { b with doors := b.doors.map fun d => if d.openable then d.startOpen (s.doorContext f d.number) .routine else d } :=
  applyDoors_blocks_silent s f _ _ (fun c d => Door.place_number d c .openCmd .routine) (fun _ _ => rfl) hn

theorem followEnable_blocks (s : State) (f : Face) :
    (s.followEnable f).blocks = s.blocks.modFace f fun b => { b with doors := b.doors.map fun d => d.follow b.berth.enable } := by
  rw [followEnable, modDoors_blocks]
  exact Blocks.modFace_congr (by simp [FaceState.blocks])

theorem dropOpens_blocks (s : State) (f : Face) :
    (s.dropOpens f).blocks = s.blocks.modFace f fun b => { b with doors := b.doors.map Door.dropOpen } := modDoors_blocks s f _

/-! ### The close deferral -/

theorem endDeferral_blocks (s : State) (f : Face) (c : EndCause) :
    (s.endDeferral f c).blocks = s.blocks.modFace f fun b => { b with deferral := b.deferral.ended c s.ms } := by
  rw [endDeferral, raiseFace_blocks, modDeferral_blocks]
  rfl

theorem endDeferral_flag (s : State) (f : Face) (c : EndCause) : .holdEnded ∈ (s.endDeferral f c).lif.flags.get (.face f) :=
  raise_flag _ (.face f) .holdEnded

end State

/-- A face's blocks once a deferral in progress, if there is one, has been cancelled (R129). -/
def FaceBlocks.cancelled (now : Millis) (b : FaceBlocks) : FaceBlocks :=
  { b with deferral := if b.deferral.used.isSome then b.deferral.ended .cancelled now else b.deferral }

theorem FaceBlocks.cancelled_used (now : Millis) (b : FaceBlocks) : (b.cancelled now).deferral.used = none := by
  unfold cancelled
  dsimp only
  split
  · rfl
  next h => simpa using h

namespace State

theorem cancelDeferral_blocks (s : State) (f : Face) : (s.cancelDeferral f).blocks = s.blocks.modFace f (FaceBlocks.cancelled s.ms) := by
  unfold cancelDeferral
  split
  next h =>
    rw [endDeferral_blocks]
    exact Blocks.modFace_congr (by simp [FaceBlocks.cancelled, FaceState.blocks, h])
  next h => exact (Blocks.modFace_same (by simp [FaceBlocks.cancelled, FaceState.blocks, h])).symm

theorem cancelDeferral_flag {s : State} {f : Face} (h : (s.face f).deferral.used ≠ none) :
    .holdEnded ∈ (s.cancelDeferral f).lif.flags.get (.face f) := by
  rw [cancelDeferral, if_pos (Option.isSome_iff_ne_none.2 h)]
  exact endDeferral_flag s f _

theorem endWithClose_blocks (s : State) (f : Face) (c : EndCause) (hn : DistinctDoors (s.face f)) :
    (s.endWithClose f c).blocks = s.blocks.modFace f fun b =>
      { b with
        deferral := b.deferral.ended c s.ms
        doors := b.doors.map fun d => if d.closable then (d.startClose (s.doorContext f d.number) .routine).door else d } := by
  have quiet := (endDeferral_calm s f c).toQuiet
  have ended := endDeferral_blocks s f c
  obtain ⟨-, doors, -, -, -, release⟩ := face_records_of ended f
  simp only [Blocks.get_modFace, blocks_get, FaceState.blocks] at doors release
  have context (n : Nat) : (s.endDeferral f c).doorContext f n = s.doorContext f n :=
    doorContext_eq f n quiet (congrArg Blocks.tbs ended) (congrArg Blocks.gap ended) (congrArg Release.state release)
  rw [endWithClose, closeFaceNow_blocks _ f (hn.of_doors doors), ended, Blocks.modFace_modFace]
  simp only [context]

/-- The partner berth's entry to DWELLING now: a deferral in progress sees it, and ends at once where its T is 0 (R127). -/
theorem partnerEnters_blocks (s : State) (f : Face) (hn : DistinctDoors (s.face f)) :
    (s.partnerEnters f s.ms).blocks = s.blocks.modFace f fun b =>
      match b.deferral.used with
      | none => { b with deferral := { b.deferral with partnerView := .dwelling s.ms } }
      | some y =>
        if y.entry.minDwell = 0 then
          { b with
            deferral := { b.deferral with partnerView := .dwelling s.ms }.ended .partnerDwell s.ms
            doors := b.doors.map fun d => if d.closable then (d.startClose (s.doorContext f d.number) .routine).door else d }
        else
          { b with deferral := { b.deferral with
              partnerView := .dwelling s.ms, partnerSeen := true, partnerTimer := some (s.ms + y.entry.minDwell) } } := by
  unfold partnerEnters
  generalize hv : s.modDeferral f _ = v
  have blocks : v.blocks = _ := hv ▸ modDeferral_blocks s f _
  obtain ⟨-, doors, deferral, -, -, release⟩ := face_records_of blocks f
  simp only [Blocks.get_modFace, blocks_get, FaceState.blocks] at doors deferral release
  have quiet : Quiet s v := hv ▸ (modDeferral_calm s f _).toQuiet
  cases hu : (s.face f).deferral.used with
  | none =>
    simp only [hu] at deferral
    rw [partnerDwellLapse, if_neg (by simp [deferral]), blocks]
    exact Blocks.modFace_congr (by simp [FaceState.blocks, hu])
  | some y =>
    simp only [hu] at deferral
    have context (n : Nat) : v.doorContext f n = s.doorContext f n :=
      doorContext_eq f n quiet (congrArg Blocks.tbs blocks) (congrArg Blocks.gap blocks) (congrArg Release.state release)
    by_cases hd : y.entry.minDwell = 0
    · rw [partnerDwellLapse, if_pos (by simp [deferral, due, quiet.ms, hd]), endWithClose_blocks _ f _ (hn.of_doors doors),
        blocks, Blocks.modFace_modFace]
      exact Blocks.modFace_congr (by simp [FaceState.blocks, hu, hd, context, quiet.ms, Deferral.ended])
    · rw [partnerDwellLapse, if_neg (by simp [deferral, due, quiet.ms, hd]), blocks]
      exact Blocks.modFace_congr (by simp [FaceState.blocks, hu, hd])

/-! ### Work on one face -/

/-- Nothing of the blocks changes but those of one face. -/
def Local (f : Face) (s u : State) : Prop := u.blocks = s.blocks.modFace f fun _ => (u.face f).blocks

theorem Local.of_blocks {f : Face} {s u : State} {g : FaceBlocks → FaceBlocks} (h : u.blocks = s.blocks.modFace f g) : Local f s u := by
  rw [Local, face_blocks_of h, Blocks.get_modFace, h]
  exact Blocks.modFace_congr rfl

theorem Local.refl (f : Face) (s : State) : Local f s s := (Blocks.modFace_same (by simp)).symm

theorem Local.trans {f : Face} {s u v : State} (h : Local f s u) (k : Local f u v) : Local f s v := by
  rw [Local, k, h, Blocks.modFace_modFace]

theorem Local.opt {f : Face} {s a : State} {c : Prop} {_ : Decidable c} (h : Local f s a) : Local f s (if c then a else s) := by
  split
  · exact h
  · exact .refl f s

theorem Sequenced.locally {s u : State} (h : Sequenced s u) {f : Face}
    (hp : (u.face f.partner).doors = (s.face f.partner).doors)
    (hr : (u.face f.partner).release = (s.face f.partner).release) : Local f s u := .of_blocks (Sequenced.blocks_eq h rfl hp hr)

theorem applyDoors_local (s : State) (f : Face) (p : Door → Bool) (g : DoorContext → Door → DoorOutcome) :
    Local f s (s.applyDoors f p g) :=
  Sequenced.locally (applyDoors_sequenced s f p g) (applyDoors_doors_ne s (Face.partner_ne f) p g)
    (applyDoors_release_ne s (Face.partner_ne f) p g)

theorem endWithClose_local (s : State) (f : Face) (c : EndCause) : Local f s (s.endWithClose f c) :=
  (Local.of_blocks (endDeferral_blocks s f c)).trans (applyDoors_local _ f _ _)

theorem partnerExits_local (s : State) (f : Face) : Local f s (s.partnerExits f) :=
  (Local.of_blocks (modDeferral_blocks s f _)).trans (.opt (endWithClose_local _ f _))

/-- The exit of the partner berth is seen (R127). -/
theorem partnerExits_partnerView (s : State) (f : Face) : ((s.partnerExits f).face f).deferral.partnerView = .notDwelling := by
  unfold partnerExits
  dsimp only
  split
  · simp [endWithClose, endDeferral]
  · simp

end State

end Sys2Proof.Machine
end

section
/-! PROOFS. TRAIN telegrams: what a telegram's block finds, refusals, ARRIVAL (R10 to R15, R183). -/

namespace Sys2Proof.Machine

namespace State

/-! ### The state a telegram's block finds -/

/-- The state in which a TRAIN telegram is delivered: the step has opened, and its frame has been counted for the uplink
(notes/assumptions/35.md). -/
def arrived (s : State) (t : Micros) : State := (s.opened t).intactFrame

@[simp] theorem arrived_blocks (s : State) (t : Micros) : (s.arrived t).blocks = s.blocks := by simp [arrived]

@[simp] theorem arrived_tbs (s : State) (t : Micros) : (s.arrived t).tbs = s.tbs := congrArg Blocks.tbs (arrived_blocks s t)

@[simp] theorem arrived_aln (s : State) (t : Micros) : (s.arrived t).aln = s.aln := congrArg Blocks.aln (arrived_blocks s t)

@[simp] theorem arrived_face_blocks (s : State) (t : Micros) (f : Face) : ((s.arrived t).face f).blocks = (s.face f).blocks := by
  rw [face_blocks_of (arrived_blocks s t), blocks_get]

@[simp] theorem arrived_berth (s : State) (t : Micros) (f : Face) : ((s.arrived t).face f).berth = (s.face f).berth :=
  congrArg FaceBlocks.berth (arrived_face_blocks s t f)

@[simp] theorem arrived_doors (s : State) (t : Micros) (f : Face) : ((s.arrived t).face f).doors = (s.face f).doors :=
  congrArg FaceBlocks.doors (arrived_face_blocks s t f)

@[simp] theorem arrived_deferral (s : State) (t : Micros) (f : Face) : ((s.arrived t).face f).deferral = (s.face f).deferral :=
  congrArg FaceBlocks.deferral (arrived_face_blocks s t f)

@[simp] theorem arrived_release (s : State) (t : Micros) (f : Face) : ((s.arrived t).face f).release = (s.face f).release :=
  congrArg FaceBlocks.release (arrived_face_blocks s t f)

@[simp] theorem arrived_tables? (s : State) (t : Micros) (f : Face) : (s.arrived t).tables? f = s.tables? f := by simp [tables?]

@[simp] theorem arrived_params? (s : State) (t : Micros) (f : Face) : (s.arrived t).params? f = s.params? f := by simp [params?]

@[simp] theorem arrived_configured (s : State) (t : Micros) (f : Face) : (s.arrived t).configured f = s.configured f := by
  simp [configured]

/-- What the opening of a step and the frame's count leave of the state at the command's time. -/
theorem arrived_quiet (s : State) (t : Micros) : Quiet (s.advance t) (s.arrived t) :=
  (arbitrate_calm _).toQuiet.trans (intactFrame_quiet _)

@[simp] theorem arrived_ms (s : State) (t : Micros) : (s.arrived t).ms = (s.advance t).ms := (arrived_quiet s t).ms

@[simp] theorem arrived_bump (s : State) (t : Micros) : (s.arrived t).bump = s.bump := (arrived_quiet s t).bump

theorem arrived_flags (s : State) (t : Micros) : (s.arrived t).lif.flags = s.lif.flags := by
  rw [arrived, intactFrame_flags, opened_lif_flags]

/-- A telegram's block adds a step of the arbiter to what it finds, and the queues of the link stand as before the command. -/
theorem arrived_then {s v : State} {t : Micros} (h : Quiet (s.arrived t) v) :
    v.arbitrate.lif.intake = s.lif.intake ∧ v.arbitrate.lif.replies = s.lif.replies :=
  have q := ((arrived_quiet s t).trans h).trans (arbitrate_calm v).toQuiet
  ⟨q.intake, q.replies⟩

end State

/-! ### The commands -/

theorem exec_arrival {s : State} (h : s.running = true) (t : Micros) (f : Face) (body : List Byte) :
    exec (.arrival t f body) s = .next ((s.arrived t).takeArrival f body).arbitrate := by
  rw [State.arrived, ← State.event_running h t fun s => s.intactFrame.takeArrival f body]; rfl

theorem exec_position {s : State} (h : s.running = true) (t : Micros) (f : Face) (body : List Byte) :
    exec (.position t f body) s = .next ((s.arrived t).takePosition f body).arbitrate := by
  rw [State.arrived, ← State.event_running h t fun s => s.intactFrame.takePosition f body]; rfl

theorem exec_departure {s : State} (h : s.running = true) (t : Micros) (f : Face) (body : List Byte) :
    exec (.departure t f body) s = .next ((s.arrived t).takeDeparture f body).arbitrate := by
  rw [State.arrived, ← State.event_running h t fun s => s.intactFrame.takeDeparture f body]; rfl

theorem exec_cleared {s : State} (h : s.running = true) (t : Micros) (f : Face) (body : List Byte) :
    exec (.cleared t f body) s = .next ((s.arrived t).takeCleared f body).arbitrate := by
  rw [State.arrived, ← State.event_running h t fun s => s.intactFrame.takeCleared f body]; rfl

/-! ### Refusals (R10, R11, R13 to R15) -/

/-- A command whose block refuses the telegram is a refusal as R10 gives it. -/
theorem refusedTelegram_of {c : Instr} {s v : State} {t : Micros} {f : Face} {k : TelegramKind} {r : Reason}
    (hx : exec c s = .next v.arbitrate) (hv : v = (s.arrived t).refuseTelegram f k r) : RefusedTelegram c s f k r := by
  subst hv
  obtain ⟨intake, replies⟩ := State.arrived_then (State.modBerth_calm (s.arrived t) f _).toQuiet
  refine ⟨_, hx, intake, replies, ?_, ?_⟩
  · simp [State.refuseTelegram, State.arrived_flags]
  · rw [State.arbitrate_blocks, State.refuseTelegram, State.modBerth_blocks, State.arrived_blocks, State.arrived_bump]

namespace State

/-- A configured face has parameters and tables. -/
theorem configured_tables {s : State} {f : Face} (h : s.configured f = true) :
    ∃ p t, s.params? f = some p ∧ s.tables? f = some t := by
  obtain ⟨p, hp⟩ := Option.isSome_iff_exists.1 h
  obtain ⟨t, ht, -⟩ := Option.bind_eq_some_iff.1 hp
  exact ⟨p, t, hp, ht⟩

theorem unconfigured_params {s : State} {f : Face} (h : s.configured f = false) : s.params? f = none := by
  simpa [configured] using h

theorem takeArrival_unconfigured {s : State} {f : Face} (h : s.configured f = false) (body : List Byte) :
    s.takeArrival f body = s.refuseTelegram f .arrival .notConfigured := by
  rw [takeArrival, unconfigured_params h]

theorem takePosition_unconfigured {s : State} {f : Face} (h : s.configured f = false) (body : List Byte) :
    s.takePosition f body = s.refuseTelegram f .position .notConfigured := by
  rw [takePosition, unconfigured_params h]

theorem takeDeparture_unconfigured {s : State} {f : Face} (h : s.configured f = false) (body : List Byte) :
    s.takeDeparture f body = s.refuseTelegram f .departure .notConfigured := by simp [takeDeparture, h]

theorem takeCleared_unconfigured {s : State} {f : Face} (h : s.configured f = false) (body : List Byte) :
    s.takeCleared f body = s.refuseTelegram f .cleared .notConfigured := by simp [takeCleared, h]

theorem takeArrival_occupied {s : State} {f : Face} (h : s.configured f = true) (hv : (s.face f).berth.state ≠ .vacant)
    (body : List Byte) : s.takeArrival f body = s.refuseTelegram f .arrival .berthOccupied := by
  obtain ⟨p, t, hp, ht⟩ := configured_tables h
  simp only [takeArrival, hp, ht, if_pos hv]

theorem takeArrival_malformed {s : State} {f : Face} {body : List Byte} (h : s.configured f = true)
    (hv : (s.face f).berth.state = .vacant) (hb : parseArrival body = none) :
    s.takeArrival f body = s.refuseTelegram f .arrival .badArgument := by
  obtain ⟨p, t, hp, ht⟩ := configured_tables h
  simp [takeArrival, hp, ht, hv, hb]

theorem takeArrival_accepted {s : State} {f : Face} {body : List Byte} {p : FaceParams} {t : Tables} {dir : Direction}
    {units : List (Word32 × Orientation)} (hp : s.params? f = some p) (ht : s.tables? f = some t)
    (hv : (s.face f).berth.state = .vacant) (hb : parseArrival body = some (dir, units)) :
    s.takeArrival f body = s.acceptArrival f t dir units := by simp [takeArrival, hp, ht, hv, hb]

theorem takePosition_vacant {s : State} {f : Face} (h : s.configured f = true) (hv : (s.face f).berth.state = .vacant)
    (body : List Byte) : s.takePosition f body = s.refuseTelegram f .position .badState := by
  obtain ⟨p, t, hp, ht⟩ := configured_tables h
  simp [takePosition, hp, hv]

theorem takePosition_malformed {s : State} {f : Face} {body : List Byte} (h : s.configured f = true)
    (hv : (s.face f).berth.state ≠ .vacant) (hb : parsePosition body = none) :
    s.takePosition f body = s.refuseTelegram f .position .badArgument := by
  obtain ⟨p, t, hp, ht⟩ := configured_tables h
  simp [takePosition, hp, hv, hb]

theorem takeDeparture_badState {s : State} {f : Face} (h : s.configured f = true)
    (hv : (s.face f).berth.state = .vacant ∨ (s.face f).berth.state = .departing) (body : List Byte) :
    s.takeDeparture f body = s.refuseTelegram f .departure .badState := by simp [takeDeparture, h, hv]

theorem takeDeparture_malformed {s : State} {f : Face} {body : List Byte} (h : s.configured f = true)
    (hv : (s.face f).berth.state ≠ .vacant) (hd : (s.face f).berth.state ≠ .departing) (hb : body ≠ []) :
    s.takeDeparture f body = s.refuseTelegram f .departure .badArgument := by simp [takeDeparture, h, hv, hd, hb]

theorem takeDeparture_accepted {s : State} {f : Face} (h : s.configured f = true)
    (hv : (s.face f).berth.state ≠ .vacant) (hd : (s.face f).berth.state ≠ .departing) :
    s.takeDeparture f [] = s.acceptDeparture f := by simp [takeDeparture, h, hv, hd]

theorem takeCleared_badState {s : State} {f : Face} (h : s.configured f = true) (hd : (s.face f).berth.state ≠ .departing)
    (body : List Byte) : s.takeCleared f body = s.refuseTelegram f .cleared .badState := by simp [takeCleared, h, hd]

theorem takeCleared_malformed {s : State} {f : Face} {body : List Byte} (h : s.configured f = true)
    (hd : (s.face f).berth.state = .departing) (hb : body ≠ []) :
    s.takeCleared f body = s.refuseTelegram f .cleared .badArgument := by simp [takeCleared, h, hd, hb]

theorem takeCleared_accepted {s : State} {f : Face} (h : s.configured f = true) (hd : (s.face f).berth.state = .departing) :
    s.takeCleared f [] = s.becomeVacant f := by simp [takeCleared, h, hd]

end State

/-- Settles O9: each refusing case of each telegram by its lemma above, read at the state in which the telegram is delivered. -/
theorem trainTelegramsAreRefusedInOrder : Obligations.TrainTelegramsAreRefusedInOrder := by
  intro s t f body running
  have arrival {r : Reason} := refusedTelegram_of (t := t) (f := f) (k := .arrival) (r := r) (exec_arrival running t f body)
  have position {r : Reason} := refusedTelegram_of (t := t) (f := f) (k := .position) (r := r) (exec_position running t f body)
  have departure {r : Reason} := refusedTelegram_of (t := t) (f := f) (k := .departure) (r := r) (exec_departure running t f body)
  have cleared {r : Reason} := refusedTelegram_of (t := t) (f := f) (k := .cleared) (r := r) (exec_cleared running t f body)
  refine ⟨fun h => ?_, fun h => ?_⟩
  · have h : (s.arrived t).configured f = false := by simpa using h
    exact ⟨arrival (State.takeArrival_unconfigured h body), position (State.takePosition_unconfigured h body),
      departure (State.takeDeparture_unconfigured h body), cleared (State.takeCleared_unconfigured h body)⟩
  · have h : (s.arrived t).configured f = true := by simpa using h
    rw [← State.arrived_berth s t f]
    exact ⟨fun hv => arrival (State.takeArrival_occupied h hv body), fun hv hb => arrival (State.takeArrival_malformed h hv hb),
      fun hv => position (State.takePosition_vacant h hv body), fun hv hb => position (State.takePosition_malformed h hv hb),
      fun hv => departure (State.takeDeparture_badState h hv body),
      fun hv hd hb => departure (State.takeDeparture_malformed h hv hd hb),
      fun hd => cleared (State.takeCleared_badState h hd body), fun hd hb => cleared (State.takeCleared_malformed h hd hb)⟩

/-! ### ARRIVAL (R11, R12) -/

namespace State

theorem startSupervision_of_params {s : State} {f : Face} {p : FaceParams} (h : s.params? f = some p) :
    s.startSupervision f = s.modBerth f fun b => { b with supervision := some (s.ms + p.supervision) } := by
  rw [startSupervision, h]

theorem startSupervision_blocks {s : State} {f : Face} {p : FaceParams} (h : s.params? f = some p) :
    (s.startSupervision f).blocks =
      s.blocks.modFace f fun b => { b with berth := { b.berth with supervision := some (s.ms + p.supervision) } } := by
  rw [startSupervision_of_params h, modBerth_blocks]

theorem acceptArrival_calm (s : State) (f : Face) (t : Tables) (dir : Direction) (units : List (Word32 × Orientation)) :
    Calm s (s.acceptArrival f t dir units) := (modBerth_calm s f _).trans (startSupervision_calm _ f)

theorem acceptArrival_blocks {s : State} {f : Face} {p : FaceParams} (h : s.params? f = some p) (t : Tables) (dir : Direction)
    (units : List (Word32 × Orientation)) :
    (s.acceptArrival f t dir units).blocks = s.blocks.modFace f fun b =>
      { b with berth := { b.berth with
          state := .approaching, stop := none, stopError := none, enable := [], pairing := []
          supervision := some (s.ms + p.supervision)
          train := some { direction := dir, ring := [], gapMark := false
                          units := units.map fun x => ⟨x.1, x.2, matchProfile t x.1⟩ } } } := by
  rw [acceptArrival, startSupervision_blocks (p := p) (by simpa [params?, tables?] using h), modBerth_blocks, Blocks.modFace_modFace]
  rfl

end State

/-- The match entry of a number hits an identifier (R12). -/
theorem hits_iff (m : MatchEntry) (ident : Word32) :
    m.hits ident = true ↔ m.valid = true ∧ ident &&& m.mask = m.key &&& m.mask := by simp [MatchEntry.hits]

/-- The profile index that a hitting entry gives: the one it names, where that profile is present (R12). -/
def presentProfile (t : Tables) (m : MatchEntry) : Option Nat := if ((t.profiles[m.profile]?).getD none).isSome then some m.profile else none

theorem matchProfile_none {t : Tables} {ident : Word32}
    (h : ∀ (i : Nat) (m : MatchEntry), t.consist[i]? = some m → m.hits ident = false) : matchProfile t ident = none := by
  have : t.consist.toList.find? (fun m => m.hits ident) = none := by
    rw [List.find?_eq_none]
    intro m hm
    obtain ⟨i, hi⟩ := List.mem_iff_getElem?.1 hm
    simp [h i m (by simpa using hi)]
  rw [matchProfile, this]

/-- The entry of lowest index that hits decides (R12). -/
theorem matchProfile_first {t : Tables} {ident : Word32} {i : Nat} {m : MatchEntry} (hm : t.consist[i]? = some m)
    (hh : m.hits ident = true) (hlow : ∀ j < i, ∀ x, t.consist[j]? = some x → x.hits ident = false) :
    matchProfile t ident = presentProfile t m := by
  have : t.consist.toList.find? (fun m => m.hits ident) = some m := by
    obtain ⟨hi, hget⟩ := List.getElem?_eq_some_iff.1 (show t.consist.toList[i]? = some m by simpa using hm)
    refine List.find?_eq_some_iff_getElem.2 ⟨hh, i, hi, hget, fun j hj => ?_⟩
    have hl : j < t.consist.toList.length := hj.trans hi
    simpa using hlow j hj _ (by simp)
  rw [matchProfile, this, presentProfile]

/-- Settles O10: the blocks after the acceptance, and the first hit of the match table. -/
theorem arrivalBuildsTheTrain : Obligations.ArrivalBuildsTheTrain := by
  refine ⟨fun s t f body p tb dir units running hp ht hv hb => ?_, fun tb ident => ⟨fun none => ?_, fun i m hit low => ?_⟩⟩
  · have accepted := State.takeArrival_accepted (s := s.arrived t) (by simpa using hp) (by simpa using ht) (by simpa using hv) hb
    obtain ⟨intake, replies⟩ := State.arrived_then (State.acceptArrival_calm (s.arrived t) f tb dir units).toQuiet
    refine ⟨_, by rw [exec_arrival running, accepted], intake, replies, ?_⟩
    rw [State.arbitrate_blocks, State.acceptArrival_blocks (p := p) (by simpa using hp), State.arrived_blocks, State.arrived_ms]
  · exact matchProfile_none fun i m hm => by
      by_contra h
      exact none i m ⟨hm, (hits_iff m ident).1 (by simpa using h)⟩
  · obtain ⟨hm, hh⟩ := hit
    have low' : ∀ j < i, ∀ x, tb.consist[j]? = some x → x.hits ident = false := fun j hj x hx => by
      by_contra h
      exact low j hj x ⟨hx, (hits_iff x ident).1 (by simpa using h)⟩
    rw [matchProfile_first hm ((hits_iff m ident).2 hh) low', presentProfile]
    refine ⟨fun q hq => by simp [hq], fun absent => if_neg fun h => ?_⟩
    obtain ⟨q, hq⟩ := Option.isSome_iff_exists.1 h
    cases hp : tb.profiles[m.profile]? with
    | none => simp [hp] at hq
    | some o => exact absent q (by simpa [hp] using hq)

end Sys2Proof.Machine
end

section
/-! PROOFS. POSITION telegrams: the standstill and movement tests, and a sample that neither shows (R15 to R18, R20, R22). -/

namespace Sys2Proof.Machine

/-! ### The tests on a ring -/

theorem foldl_max_le_iff (ring : List Sample) (a n : Nat) :
    ring.foldl (fun m x => max m x.position) a ≤ n ↔ a ≤ n ∧ ∀ x ∈ ring, x.position ≤ n := by
  induction ring generalizing a with
  | nil => simp
  | cons x rest ih => simp [ih, and_assoc]

theorem le_foldl_min_iff (ring : List Sample) (a n : Nat) :
    n ≤ ring.foldl (fun m x => min m x.position) a ↔ n ≤ a ∧ ∀ x ∈ ring, n ≤ x.position := by
  induction ring generalizing a with
  | nil => simp
  | cons x rest ih => simp [ih, and_assoc]

theorem ringMax_le_iff (ring : List Sample) (n : Nat) : ringMax ring ≤ n ↔ ∀ x ∈ ring, x.position ≤ n := by
  simp [ringMax, foldl_max_le_iff]

theorem le_ringMin_iff {ring : List Sample} (h : ring ≠ []) (n : Nat) : n ≤ ringMin ring ↔ ∀ x ∈ ring, n ≤ x.position := by
  cases ring with
  | nil => exact absurd rfl h
  | cons x rest => simp [ringMin, le_foldl_min_iff]

/-- A ring spans at most a limit when no two of its positions lie further apart. -/
theorem ringSpan_le_iff {ring : List Sample} (h : ring ≠ []) (creep : Nat) :
    ringMax ring - ringMin ring ≤ creep ↔ ∀ x ∈ ring, ∀ y ∈ ring, x.position ≤ y.position + creep :=
  calc ringMax ring - ringMin ring ≤ creep
    _ ↔ ringMax ring ≤ ringMin ring + creep := by omega
    _ ↔ ∀ x ∈ ring, x.position - creep ≤ ringMin ring := by
      rw [ringMax_le_iff]
      exact forall₂_congr fun _ _ => Nat.sub_le_iff_le_add.symm
    _ ↔ _ := forall₂_congr fun x _ => by
      rw [le_ringMin_iff h]
      exact forall₂_congr fun _ _ => Nat.sub_le_iff_le_add

theorem standstill_iff (creep : Nat) (ring : List Sample) : standstill creep ring = true ↔
    ring.length = 4 ∧ (∀ x ∈ ring, x.clamped = false ∧ x.speed = 0) ∧ ∀ x ∈ ring, ∀ y ∈ ring, x.position ≤ y.position + creep := by
  by_cases h : ring.length = 4
  · rw [← ringSpan_le_iff (by rintro rfl; simp at h)]
    simp [standstill, h]
  · simp [standstill, h]

theorem stopOf_four (a b c d : Sample) :
    stopOf [a, b, c, d] = (a.position + b.position + c.position + d.position + 2) / 4 := by
  simp [stopOf, Nat.add_assoc]

theorem stopOf_mem_range {ring : List Sample} {low high : Nat} (h : ring.length = 4)
    (hr : ∀ x ∈ ring, low ≤ x.position ∧ x.position ≤ high) : low ≤ stopOf ring ∧ stopOf ring ≤ high := by
  obtain ⟨a, b, c, d, rfl⟩ : ∃ a b c d, ring = [a, b, c, d] := by
    match ring, h with
    | [a, b, c, d], _ => exact ⟨a, b, c, d, rfl⟩
  obtain ⟨ha, hb, hc, hd⟩ : _ ∧ _ ∧ _ ∧ _ := ⟨hr a (by simp), hr b (by simp), hr c (by simp), hr d (by simp)⟩
  rw [stopOf_four]
  omega

theorem moved_iff (creep stop : Nat) (x : Sample) : moved creep (some stop) x = true ↔
    x.speed ≠ 0 ∨ (creep : Int) < |(x.position : Int) - (stop : Int)| := by
  have distance : (creep < stop - x.position ∨ creep < x.position - stop) ↔ (creep : Int) < |(x.position : Int) - (stop : Int)| := by
    rw [lt_abs]; omega
  simp [moved, ← distance]

theorem clampSample_eq (p : FaceParams) (position speed : Nat) : clampSample p position speed = sampleEntry p position speed := by
  unfold clampSample sampleEntry
  congr 1
  · split <;> omega
  · simp

/-! ### Policing (R15) -/

namespace State

theorem policedNow_iff (s : State) (f : Face) :
    s.policedNow f = true ↔ ∃ l, (s.face f).berth.lastSample = some l ∧ s.ms < l + 40 := by
  unfold policedNow
  split
  next h => simp [h]
  next l h =>
    have shift (now last : Nat) : now - last < 40 ↔ now < last + 40 := by omega
    simpa [h] using shift s.ms l

theorem takePosition_policed {s : State} {f : Face} {body : List Byte} {p : FaceParams} {q : Nat × Nat} (hp : s.params? f = some p)
    (hv : (s.face f).berth.state ≠ .vacant) (hb : parsePosition body = some q) (hn : s.policedNow f = true) :
    s.takePosition f body = s.modBerth f fun b => { b with policed := s.bump b.policed } := by
  simp [takePosition, hp, hv, hb, hn]

theorem takePosition_sampled {s : State} {f : Face} {body : List Byte} {p : FaceParams} {position speed : Nat}
    (hp : s.params? f = some p) (hv : (s.face f).berth.state ≠ .vacant) (hb : parsePosition body = some (position, speed))
    (hn : s.policedNow f = false) :
    s.takePosition f body =
      ((s.joinSample f (sampleEntry p position speed)).testSample f p (sampleEntry p position speed)).refreshSupervision f := by
  simp [takePosition, hp, hv, hb, hn, clampSample_eq]

/-! ### An accepted sample -/

theorem joinSample_blocks (s : State) (f : Face) (x : Sample) :
    (s.joinSample f x).blocks = s.blocks.modFace f fun b => { b with berth := { b.berth with
      lastSample := some s.ms, clampedSamples := if x.clamped then s.bump b.berth.clampedSamples else b.berth.clampedSamples
      train := b.berth.train.map fun t => { t with ring := joinRing t.ring x } } } := modBerth_blocks s f _

theorem joinSample_calm (s : State) (f : Face) (x : Sample) : Calm s (s.joinSample f x) := modBerth_calm s f _

theorem refreshSupervision_blocks {s : State} {f : Face} {p : FaceParams} (h : s.params? f = some p) :
    (s.refreshSupervision f).blocks =
      s.blocks.modFace f fun b => { b with berth := { b.berth with supervision := some (s.ms + p.supervision) } } := by
  rw [refreshSupervision, setCondition_blocks, startSupervision_blocks h]

theorem refreshSupervision_quiet (s : State) (f : Face) : Quiet s (s.refreshSupervision f) :=
  (startSupervision_calm s f).toQuiet.trans (setCondition_quiet _ f _ _)

theorem refreshSupervision_positionStale (s : State) (f : Face) :
    ((s.refreshSupervision f).face f).proof.active.positionStale = false := setCondition_active _ f .positionStale false

/-- The state in which an accepted sample is put to its test: it has joined the ring (R15 to R17). -/
def joined (s : State) (t : Micros) (f : Face) (x : Sample) : State := (s.arrived t).joinSample f x

theorem joined_quiet (s : State) (t : Micros) (f : Face) (x : Sample) : Quiet (s.arrived t) (s.joined t f x) :=
  (joinSample_calm _ f x).toQuiet

theorem joined_blocks (s : State) (t : Micros) (f : Face) (x : Sample) :
    (s.joined t f x).blocks = s.blocks.modFace f fun b => { b with berth := { b.berth with
      lastSample := some (s.advance t).ms
      clampedSamples := if x.clamped then s.bump b.berth.clampedSamples else b.berth.clampedSamples
      train := b.berth.train.map fun t => { t with ring := joinRing t.ring x } } } := by
  rw [joined, joinSample_blocks, arrived_blocks, arrived_ms, arrived_bump]

end State

namespace SampleAccepted

variable {s : State} {t : Micros} {f : Face} {body : List Byte} {p : FaceParams} {x : Sample}

/-- What the command makes of an accepted sample: its test, and after it the supervision timer and POSITION_STALE (R15). -/
theorem exec_eq (h : SampleAccepted s t f body p x) :
    exec (.position t f body) s = .next (((s.joined t f x).testSample f p x).refreshSupervision f).arbitrate := by
  obtain ⟨running, hp, hv, ⟨position, speed, hb, rfl⟩, late⟩ := h
  have fresh : (s.arrived t).policedNow f = false := by
    by_contra policed
    obtain ⟨l, hl, soon⟩ := (State.policedNow_iff _ f).1 (by simpa using policed)
    have := late l (by simpa using hl)
    rw [State.arrived_ms] at soon
    exact absurd soon (Nat.not_lt.2 this)
  rw [exec_position running, State.takePosition_sampled (by simpa using hp) (by simpa using hv) hb fresh, State.joined]

theorem params (h : SampleAccepted s t f body p x) : s.params? f = some p := by
  obtain ⟨-, hp, -⟩ := h
  exact hp

end SampleAccepted

namespace State

@[simp] theorem joined_params? (s : State) (t : Micros) (f g : Face) (x : Sample) :
    (s.joined t f x).params? g = s.params? g := by simp [joined, joinSample, params?, tables?]

/-- The berth record that a sample's test reads. -/
theorem joined_berth (s : State) (t : Micros) (f : Face) (x : Sample) :
    ((s.joined t f x).face f).berth = { (s.face f).berth with
      lastSample := some (s.advance t).ms
      clampedSamples := if x.clamped then s.bump (s.face f).berth.clampedSamples else (s.face f).berth.clampedSamples
      train := (s.face f).berth.train.map fun t => { t with ring := joinRing t.ring x } } := by
  obtain ⟨berth, -⟩ := face_records_of (joined_blocks s t f x) f
  simpa [FaceState.blocks] using berth

/-- What a sample's test finds in the ring is what the sampled berth holds (R17). -/
theorem joined_ring (s : State) (t : Micros) (f : Face) (p : FaceParams) (x : Sample) (now : Millis) (c : Counter) :
    (((s.joined t f x).face f).berth.train.map fun r => r.ring) =
      ((s.face f).berth.sampled now p x c).train.map fun r => r.ring := by
  rw [joined_berth]; rfl

/-- A test that finds neither standstill nor movement does nothing (R15). -/
theorem testSample_nothing {s : State} {f : Face} {p : FaceParams} {x : Sample}
    (h : (s.face f).berth.state = .approaching ∧
          standstill p.creep (((s.face f).berth.train.map fun r => r.ring).getD []) = false ∨
        (s.face f).berth.state ≠ .approaching ∧ moved p.creep (s.face f).berth.stop x = false ∨
        (s.face f).berth.state = .departing) : s.testSample f p x = s := by
  unfold testSample
  dsimp only
  split <;> simp_all

end State

/-- The blocks after an accepted sample that shows neither standstill nor movement. -/
theorem sampled_blocks (s : State) (t : Micros) (f : Face) {p : FaceParams} (x : Sample) (hp : s.params? f = some p) :
    ((s.joined t f x).refreshSupervision f).blocks = s.blocks.modFace f fun b =>
      { b with berth := (s.face f).berth.sampled (s.advance t).ms p x (s.bump (s.face f).berth.clampedSamples) } := by
  rw [State.refreshSupervision_blocks (p := p) (by simpa using hp), State.joined_blocks, Blocks.modFace_modFace]
  refine Blocks.modFace_congr ?_
  rw [(State.joined_quiet s t f x).ms, State.arrived_ms]
  simp [FaceState.blocks, Berth.sampled, joinRing]

/-- Settles O11: the tests by the lemmas on rings, the policed sample as one count, and the accepted one by a test that does nothing. -/
theorem sampleIsPolicedClampedAndTested : Obligations.SampleIsPolicedClampedAndTested := by
  refine ⟨⟨standstill_iff, stopOf_four, fun _ _ _ => stopOf_mem_range, moved_iff⟩, fun s t f body p => ⟨?_, ?_⟩⟩
  · intro q running hp hv hb ⟨l, hl, soon⟩
    have policed := State.takePosition_policed (s := s.arrived t) (f := f) (by simpa using hp) (by simpa using hv) hb
      ((State.policedNow_iff _ f).2 ⟨l, by simpa using hl, by simpa using soon⟩)
    obtain ⟨intake, replies⟩ := State.arrived_then
      (State.modBerth_calm (s.arrived t) f fun b => { b with policed := (s.arrived t).bump b.policed }).toQuiet
    exact ⟨_, by rw [exec_position running, policed], intake, replies, by
      rw [State.arbitrate_blocks, State.modBerth_blocks, State.arrived_blocks, State.arrived_bump]⟩
  · intro x accepted b' nothing
    have untested : (s.joined t f x).testSample f p x = s.joined t f x := State.testSample_nothing <| by
      rw [State.joined_ring s t f p x (s.advance t).ms (s.bump (s.face f).berth.clampedSamples), State.joined_berth]
      exact nothing
    have quiet := (State.joined_quiet s t f x).trans (State.refreshSupervision_quiet _ f)
    obtain ⟨intake, replies⟩ := State.arrived_then quiet
    refine ⟨_, by rw [accepted.exec_eq, untested], intake, replies, ?_, ?_⟩
    · have kept := (State.arbitrate_calm ((s.joined t f x).refreshSupervision f)).active f .positionStale (by decide) (by decide)
      exact kept.trans (State.refreshSupervision_positionStale _ f)
    · rw [State.arbitrate_blocks, sampled_blocks s t f x accepted.params]

end Sys2Proof.Machine
end

section
/-! PROOFS. Standstill and movement: the request to the Alignment Engine with its inputs, and the return to APPROACHING (R17, R18, R20,
R27, R28, R32, R52). -/

namespace Sys2Proof.Machine

/-- A change of a face's blocks and one of the engine do not meet. -/
theorem Blocks.modFace_aln (b : Blocks) (f : Face) (g : FaceBlocks → FaceBlocks) (a : Engine) :
    ({ b with aln := a }).modFace f g = { b.modFace f g with aln := a } := rfl

theorem Blocks.aln_congr {b c : Blocks} {a : Engine} (h : b = c) : ({ b with aln := a } : Blocks) = { c with aln := a } := by rw [h]

@[simp] theorem Blocks.modFace_aln_eq (b : Blocks) (f : Face) (g : FaceBlocks → FaceBlocks) : (b.modFace f g).aln = b.aln := rfl

/-- The engine after a withdrawal: the waiting request, if there is one, is removed and counted (R28). -/
def Engine.withdraw (e : Engine) (f : Face) (bump : Counter → Counter) : Engine :=
  if (e.waiting.get f).isSome then { e with waiting := e.waiting.set f none, withdrawn := e.withdrawn.modify f bump } else e

/-- A withdrawal that a berth may ask for. -/
theorem Engine.withdraw_where (e : Engine) (f : Face) (bump : Counter → Counter) (c : Prop) [Decidable c] :
    (if c then e.withdraw f bump else e) =
      if c ∧ (e.waiting.get f).isSome then { e with waiting := e.waiting.set f none, withdrawn := e.withdrawn.modify f bump }
      else e := by simp only [withdraw, ite_and]

/-- The engine after a request: taken if it is idle, kept waiting otherwise, where one it displaces counts as withdrawn (R27). -/
def Engine.request (e : Engine) (f : Face) (ticket : BitVec 8) (i : AlignInput) (now : Millis) (bump : Counter → Counter) : Engine :=
  if e.inflight.isNone then { e with inflight := some ⟨f, ticket, i⟩ }
  else
    { e with
      waiting := e.waiting.set f (some ⟨ticket, now⟩)
      withdrawn := if (e.waiting.get f).isSome then e.withdrawn.modify f bump else e.withdrawn }

/-! ### The inputs of a computation (R32) -/

namespace State

/-- The entries of a door table: the present ones under their numbers (R169). -/
theorem mem_tableDoors_iff (t : Tables) (f : Face) (n : Nat) (e : DoorEntry) :
    (n, e) ∈ tableDoors t f ↔ ∃ j : Fin 32, j.val + 1 = n ∧ (t.doors.get f)[j] = some e := by
  simp only [tableDoors, List.mem_filterMap, Prod.exists, Option.map_eq_some_iff, Prod.mk.injEq,
    List.mk_mem_zipIdx_iff_le_and_getElem?_sub]
  constructor
  · rintro ⟨x, k, ⟨hk, hx⟩, e', rfl, rfl, rfl⟩
    obtain ⟨hlt, hget⟩ := List.getElem?_eq_some_iff.1 hx
    exact ⟨⟨k - 1, by simpa using hlt⟩, by simp; omega, by simpa using hget⟩
  · rintro ⟨j, rfl, hj⟩
    exact ⟨some e, j + 1, ⟨by omega, by simpa using hj⟩, e, rfl, rfl, rfl⟩

/-- The entries of a door table stand in increasing number. -/
theorem tableDoors_pairwise (t : Tables) (f : Face) : ((tableDoors t f).map fun x => x.1).Pairwise (· < ·) := by
  refine List.pairwise_map.2 (List.pairwise_filterMap.2 ?_)
  have numbers : (((t.doors.get f).toList.zipIdx 1).map Prod.snd).Pairwise (· < ·) := by
    rw [List.zipIdx_map_snd]
    exact List.pairwise_lt_range' 1
  refine (List.pairwise_map.1 numbers).imp fun {x y} lt a ha b hb => ?_
  obtain ⟨_, -, rfl⟩ := Option.map_eq_some_iff.1 ha
  obtain ⟨_, -, rfl⟩ := Option.map_eq_some_iff.1 hb
  exact lt

/-- The inputs read nothing of a face but its active tables, its stop position and its train's direction and units. -/
theorem alignInput_congr {s u : State} {f : Face} (ht : u.tbs = s.tbs)
    (hd : ((u.face f).berth.train.map fun t => t.direction) = (s.face f).berth.train.map fun t => t.direction)
    (hu : ((u.face f).berth.train.map fun t => t.units) = (s.face f).berth.train.map fun t => t.units) :
    u.alignInput f = { s.alignInput f with stop := (u.face f).berth.stop.getD 0 } := by
  simp only [alignInput, faceEntries, params?, tables?, ht, hd, hu]

theorem requestAlignment_blocks (s : State) (f : Face) (n : BitVec 8) :
    (s.requestAlignment f n).blocks = { s.blocks with aln := s.aln.request f n (s.alignInput f) s.ms s.bump } := by
  unfold requestAlignment Engine.request
  split
  next h => simp [h, modAln_blocks]
  next h => simp [h, modAln_blocks]

theorem withdrawAlignment_blocks (s : State) (f : Face) :
    (s.withdrawAlignment f).blocks = { s.blocks with aln := s.aln.withdraw f s.bump } := by
  unfold withdrawAlignment Engine.withdraw
  split <;> rfl

/-! ### Standstill (R18) -/

theorem detectStandstill_blocks (s : State) (f : Face) (p : FaceParams) (ring : List Sample) :
    (s.detectStandstill f p ring).blocks = { (s.blocks.modFace f fun b => { b with berth := { b.berth with
        state := .aligning, stop := some (stopOf ring), stopError := some ((stopOf ring : Int) - p.target)
        ticket := (s.face f).berth.ticket + 1 } }) with
      aln := s.aln.request f ((s.face f).berth.ticket + 1) { s.alignInput f with stop := stopOf ring } s.ms s.bump } := by
  unfold detectStandstill
  dsimp only
  generalize hv : s.modBerth f _ = v
  have blocks : v.blocks = _ := hv ▸ modBerth_blocks s f _
  have input : v.alignInput f = { s.alignInput f with stop := (v.face f).berth.stop.getD 0 } := by
    subst hv
    exact alignInput_congr rfl (by simp) (by simp)
  have quiet : Quiet s v := hv ▸ (modBerth_calm s f _).toQuiet
  have stop : (v.face f).berth.stop = some (stopOf ring) := by simp [← hv]
  rw [requestAlignment_blocks, input, stop, quiet.ms, quiet.bump, show v.aln = s.aln from congrArg Blocks.aln blocks, blocks]
  rfl

theorem detectStandstill_calm (s : State) (f : Face) (p : FaceParams) (ring : List Sample) : Calm s (s.detectStandstill f p ring) :=
  (modBerth_calm s f _).trans (requestAlignment_calm _ f _)

theorem testSample_standstill {s : State} {f : Face} {p : FaceParams} {x : Sample} (hs : (s.face f).berth.state = .approaching)
    (h : standstill p.creep (((s.face f).berth.train.map fun r => r.ring).getD []) = true) :
    s.testSample f p x = s.detectStandstill f p (((s.face f).berth.train.map fun r => r.ring).getD []) := by
  simp [testSample, hs, h]

/-! ### Movement in ALIGNING and STOPPED (R20) -/

theorem testSample_return {s : State} {f : Face} {p : FaceParams} {x : Sample}
    (hs : (s.face f).berth.state = .aligning ∨ (s.face f).berth.state = .stopped)
    (h : moved p.creep (s.face f).berth.stop x = true) : s.testSample f p x = s.returnToApproaching f x := by
  rcases hs with hs | hs <;> simp [testSample, hs, h]

end State

/-- The doors of a face after its enable set has been emptied and the OPENs of doors outside it dropped (R52). -/
theorem map_disabled (ds : List Door) : ((ds.map fun d => d.follow []).map Door.dropOpen) = ds.map Door.disabled := by
  simp [Door.disabled_eq]

namespace State

/-- A face whose enable set is empty has its doors follow it (R52). -/
theorem emptySet_blocks {s : State} {f : Face} (h : (s.face f).berth.enable = []) :
    ((s.followEnable f).dropOpens f).blocks = s.blocks.modFace f fun b => { b with doors := b.doors.map Door.disabled } := by
  rw [dropOpens_blocks, followEnable_blocks, Blocks.modFace_modFace]
  exact Blocks.modFace_congr (by simp [FaceState.blocks, h, Door.disabled_eq])

theorem emptySet_calm (s : State) (f : Face) : Calm s ((s.followEnable f).dropOpens f) :=
  (followEnable_calm s f).trans (dropOpens_calm _ f)

/-- The berth's own part of a return to APPROACHING (R20). -/
def approached (s : State) (f : Face) (x : Sample) : State :=
  ((((s.modBerth f fun b =>
    { b with state := .approaching, stop := none, stopError := none, enable := [], pairing := []
             train := b.train.map fun t => { t with ring := [x], gapMark := false } }).setCondition f .noProfile false).followEnable
    f).dropOpens f)

theorem returnToApproaching_eq (s : State) (f : Face) (x : Sample) : s.returnToApproaching f x =
    if (s.face f).berth.state = .aligning then (s.approached f x).withdrawAlignment f else s.approached f x := rfl

theorem approached_blocks (s : State) (f : Face) (x : Sample) :
    (s.approached f x).blocks = s.blocks.modFace f fun b => { b with
      doors := b.doors.map Door.disabled
      berth := { b.berth with
        state := .approaching, stop := none, stopError := none, enable := [], pairing := []
        train := b.berth.train.map fun t => { t with ring := [x], gapMark := false } } } := by
  rw [approached, emptySet_blocks (by simp), setCondition_blocks, modBerth_blocks, Blocks.modFace_modFace]

theorem approached_quiet (s : State) (f : Face) (x : Sample) : Quiet s (s.approached f x) :=
  ((modBerth_calm s f _).toQuiet.trans (setCondition_quiet _ f _ _)).trans (emptySet_calm _ f).toQuiet

theorem approached_noProfile (s : State) (f : Face) (x : Sample) :
    ((s.approached f x).face f).proof.active.noProfile = false :=
  ((emptySet_calm _ f).active f .noProfile (by decide) (by decide)).trans (setCondition_active _ f .noProfile false)

theorem returnToApproaching_blocks (s : State) (f : Face) (x : Sample) :
    (s.returnToApproaching f x).blocks = { (s.blocks.modFace f fun b => { b with
        doors := b.doors.map Door.disabled
        berth := { b.berth with
          state := .approaching, stop := none, stopError := none, enable := [], pairing := []
          train := b.berth.train.map fun t => { t with ring := [x], gapMark := false } } }) with
      aln := if (s.face f).berth.state = .aligning then s.aln.withdraw f s.bump else s.aln } := by
  have blocks := approached_blocks s f x
  rw [returnToApproaching_eq]
  split
  · rw [withdrawAlignment_blocks, (approached_quiet s f x).bump, blocks,
      show (s.approached f x).aln = s.aln from congrArg Blocks.aln blocks]
  · exact blocks

theorem returnToApproaching_calm (s : State) (f : Face) (x : Sample) : Calm (s.approached f x) (s.returnToApproaching f x) := by
  rw [returnToApproaching_eq]
  exact .ite (withdrawAlignment_calm _ f) (.refl _)

end State

/-! ### The two transitions as commands -/

/-- An accepted sample touches no condition but POSITION_STALE. -/
theorem State.refreshSupervision_active (s : State) (f : Face) (c : Condition) (h : c ≠ .positionStale)
    (hs : c ≠ .doorStalled := by decide) (hh : c ≠ .doorHeld := by decide) :
    ((s.refreshSupervision f).face f).proof.active.get c = (s.face f).proof.active.get c :=
  (State.setCondition_active_other _ f f h false).trans ((State.startSupervision_calm s f).active f c hs hh)

section

variable {s : State} {t : Micros} {f : Face} {p : FaceParams} {x : Sample}

/-- The supervision timer restarted on blocks that are known (R22). -/
theorem refreshed_blocks {w : State} {g : FaceBlocks → FaceBlocks} {a : Engine} (hp : s.params? f = some p)
    (quiet : Quiet (s.advance t) w) (h : w.blocks = { s.blocks.modFace f g with aln := a }) :
    (w.refreshSupervision f).blocks = { (s.blocks.modFace f fun b =>
        { g b with berth := { (g b).berth with supervision := some ((s.advance t).ms + p.supervision) } }) with aln := a } := by
  have tables : w.tbs = s.tbs := congrArg Blocks.tbs h
  rw [State.refreshSupervision_blocks (p := p) (by simpa [State.params?, State.tables?, tables] using hp), h, Blocks.modFace_aln,
    Blocks.modFace_modFace, quiet.ms]

/-- What a sample's test leaves alone beside the blocks. -/
theorem joined_then {w : State} (h : Quiet (s.joined t f x) w) : Quiet (s.advance t) w :=
  ((State.arrived_quiet s t).trans (State.joined_quiet s t f x)).trans h

@[simp] theorem State.joined_aln (s : State) (t : Micros) (f : Face) (x : Sample) : (s.joined t f x).aln = s.aln :=
  congrArg Blocks.aln (State.joined_blocks s t f x)

@[simp] theorem State.joined_ms (s : State) (t : Micros) (f : Face) (x : Sample) : (s.joined t f x).ms = (s.advance t).ms :=
  (joined_then (.refl _)).ms

@[simp] theorem State.joined_bump (s : State) (t : Micros) (f : Face) (x : Sample) : (s.joined t f x).bump = s.bump :=
  (joined_then (.refl _)).bump

/-- A sample in the ring is no input of the engine (R32). -/
theorem State.joined_alignInput (s : State) (t : Micros) (f : Face) (x : Sample) : (s.joined t f x).alignInput f = s.alignInput f := by
  have berth := State.joined_berth s t f x
  rw [State.alignInput_congr (congrArg Blocks.tbs (State.joined_blocks s t f x)) (by simp [berth, Function.comp_def])
    (by simp [berth, Function.comp_def]), berth]
  rfl

/-- Standstill's blocks with the supervision timer restarted. -/
theorem standstill_blocks (hp : s.params? f = some p) (hs : (s.face f).berth.state = .approaching) :
    let b' := (s.face f).berth.sampled (s.advance t).ms p x (s.bump (s.face f).berth.clampedSamples)
    let ring := (b'.train.map fun r => r.ring).getD []
    let ticket := (s.face f).berth.ticket + 1
    standstill p.creep ring = true →
    (s.joined t f x).testSample f p x = (s.joined t f x).detectStandstill f p ring ∧
    (((s.joined t f x).detectStandstill f p ring).refreshSupervision f).blocks = { (s.blocks.modFace f fun b =>
        { b with berth := { b' with
          state := .aligning, stop := some (stopOf ring), stopError := some ((stopOf ring : Int) - p.target), ticket := ticket } }) with
      aln := s.aln.request f ticket { s.alignInput f with stop := stopOf ring } (s.advance t).ms s.bump } := by
  intro b' ring ticket still
  have found : (((s.joined t f x).face f).berth.train.map fun r => r.ring).getD [] = ring := by
    rw [State.joined_ring s t f p x (s.advance t).ms (s.bump (s.face f).berth.clampedSamples)]
  have berth := State.joined_berth s t f x
  refine ⟨by rw [State.testSample_standstill (by simpa [berth] using hs) (by rw [found]; exact still), found], ?_⟩
  have blocks := State.detectStandstill_blocks (s.joined t f x) f p ring
  rw [State.joined_blocks, Blocks.modFace_modFace, State.joined_aln, State.joined_alignInput, State.joined_ms, State.joined_bump,
    berth] at blocks
  rw [refreshed_blocks hp (joined_then (State.detectStandstill_calm _ f p ring).toQuiet) blocks]
  exact Blocks.aln_congr (Blocks.modFace_congr (by simp [FaceState.blocks, b', ticket, Berth.sampled, joinRing]))

/-- Movement's blocks with the supervision timer restarted. -/
theorem movement_blocks (hp : s.params? f = some p)
    (hs : (s.face f).berth.state = .aligning ∨ (s.face f).berth.state = .stopped)
    (h : moved p.creep (s.face f).berth.stop x = true) :
    let b' := (s.face f).berth.sampled (s.advance t).ms p x (s.bump (s.face f).berth.clampedSamples)
    (s.joined t f x).testSample f p x = (s.joined t f x).returnToApproaching f x ∧
    (((s.joined t f x).returnToApproaching f x).refreshSupervision f).blocks = { (s.blocks.modFace f fun b =>
        { b with
          doors := b.doors.map Door.disabled
          berth := { b' with
            state := .approaching, stop := none, stopError := none, enable := [], pairing := []
            train := (s.face f).berth.train.map fun r => { r with ring := [x], gapMark := false } } }) with
      aln := if (s.face f).berth.state = .aligning then s.aln.withdraw f s.bump else s.aln } := by
  intro b'
  have berth := State.joined_berth s t f x
  refine ⟨State.testSample_return (by simpa [berth] using hs) (by simpa [berth] using h), ?_⟩
  have blocks := State.returnToApproaching_blocks (s.joined t f x) f x
  rw [State.joined_blocks, Blocks.modFace_modFace, State.joined_aln, State.joined_bump, berth] at blocks
  rw [refreshed_blocks hp (joined_then ((State.approached_quiet _ f x).trans (State.returnToApproaching_calm _ f x).toQuiet)) blocks]
  exact Blocks.aln_congr (Blocks.modFace_congr (by simp [FaceState.blocks, b', Berth.sampled, Function.comp_def]))

end

namespace State

/-- The inputs by the tables they are read from (R32). -/
theorem alignInput_of {s : State} {f : Face} {b : BankId} {p : FaceParams} {tr : Train} {stop : Nat} (ha : s.tbs.active.get f = some b)
    (hp : (s.tbs.bank b).tables.params.get f = some p) (ht : (s.face f).berth.train = some tr)
    (hs : (s.face f).berth.stop = some stop) :
    s.alignInput f =
      { stop := stop, direction := tr.direction, extentLow := p.extentLow, extentHigh := p.extentHigh
        units := tr.units.map fun u =>
          (u.orientation, u.profile.bind fun i => ((s.tbs.bank b).tables.profiles[i]?).getD none)
        doors := tableDoors (s.tbs.bank b).tables f } := by
  simp [alignInput, faceEntries, params?, tables?, ha, hp, ht, hs]

end State

/-- An entry of a table that may have it absent or out of range. -/
theorem entry_present {α : Type} (o : Option (Option α)) :
    (∀ y, o = some (some y) → o.getD none = some y) ∧ ((∀ y, o ≠ some (some y)) → o.getD none = none) := by
  match o with
  | none => simp
  | some none => simp
  | some (some y) => simp

/-- Settles O12: each transition by its blocks, and the inputs by the tables they are read from. -/
theorem standstillAndMovementMoveTheBerth : Obligations.StandstillAndMovementMoveTheBerth := by
  refine ⟨?_, ?_, ?_⟩
  · intro s t f body p x accepted hs b' ring ticket still
    obtain ⟨tested, blocks⟩ := standstill_blocks (t := t) (x := x) accepted.params hs still
    have quiet := (State.joined_quiet s t f x).trans
      ((State.detectStandstill_calm (s.joined t f x) f p ring).toQuiet.trans (State.refreshSupervision_quiet _ f))
    obtain ⟨intake, replies⟩ := State.arrived_then quiet
    exact ⟨_, by rw [accepted.exec_eq, tested], intake, replies, by rw [State.arbitrate_blocks, blocks]; rfl⟩
  · intro s f b p tr stop ha tb hp ht hs
    rw [State.alignInput_of ha hp ht hs]
    refine ⟨rfl, rfl, rfl, rfl, by simp, fun k u hu => ⟨_, by simp [hu]; rfl, fun none => by simp [none], fun n hn => ?_⟩,
      State.mem_tableDoors_iff tb f, State.tableDoors_pairwise tb f⟩
    rw [hn]
    exact entry_present tb.profiles[n]?
  · intro s t f body p x accepted hs hm b'
    obtain ⟨tested, blocks⟩ := movement_blocks (t := t) accepted.params hs hm
    generalize hw : (s.joined t f x).returnToApproaching f x = w at *
    have calm := hw ▸ State.returnToApproaching_calm (s.joined t f x) f x
    have quiet := (State.joined_quiet s t f x).trans
      (((State.approached_quiet _ f x).trans calm.toQuiet).trans (State.refreshSupervision_quiet _ f))
    obtain ⟨intake, replies⟩ := State.arrived_then quiet
    have kept := (State.arbitrate_calm (w.refreshSupervision f)).active f
    refine ⟨_, by rw [accepted.exec_eq, tested], intake, replies, ?_, ?_, ?_⟩
    · exact (kept .positionStale (by decide) (by decide)).trans (State.refreshSupervision_positionStale _ f)
    · calc ((w.refreshSupervision f).arbitrate.face f).proof.active.noProfile
        _ = ((w.refreshSupervision f).face f).proof.active.noProfile := kept .noProfile (by decide) (by decide)
        _ = (w.face f).proof.active.noProfile := State.refreshSupervision_active w f .noProfile (by decide)
        _ = ((State.approached _ f x).face f).proof.active.noProfile := calm.active f .noProfile (by decide) (by decide)
        _ = false := State.approached_noProfile _ f x
    · rw [State.arbitrate_blocks, blocks, Engine.withdraw_where]

end Sys2Proof.Machine
end

section
/-! PROOFS. Departure: the berth becomes DEPARTING by movement in DWELLING or by DEPARTURE, and its doors close (R13, R21, R28, R52, R73,
R129). -/

namespace Sys2Proof.Machine

namespace State

/-! ### Beside the blocks of one face -/

section

variable {f : Face} {s u : State}

/-- What is done on one face's blocks leaves the other's. -/
theorem Local.face_ne (h : Local f.partner s u) : (u.face f).blocks = (s.face f).blocks := by
  rw [face_blocks_of h f, Blocks.get_modFace_partner, blocks_get]

/-- What is done on one face's blocks leaves the holds, the engine, the gap monitor and the table store. -/
theorem Local.shared (h : Local f s u) : u.holds = s.holds ∧ u.aln = s.aln ∧ u.gap = s.gap ∧ u.tbs = s.tbs :=
  ⟨congrArg Blocks.holds h, congrArg Blocks.aln h, congrArg Blocks.gap h, congrArg Blocks.tbs h⟩

end

/-! ### The berth becomes DEPARTING -/

/-- The berth's own part of becoming DEPARTING: the berth, the supervision timer and the doors' enabled fields (R8, R13, R22). -/
def leaving (s : State) (f : Face) : State :=
  (((s.modBerth f fun b => { b with state := .departing, enable := [], pairing := [], dwellStart := none }).startSupervision
    f).setCondition f .positionStale false).followEnable f

/-- What becoming DEPARTING does on the berth's own face, a deferral cancelled with it (R129). -/
def departed (s : State) (f : Face) : State := (s.leaving f).cancelDeferral f

/-- The partner's exit from DWELLING, where it dwelt (R127). -/
def partnerTold (s : State) (f : Face) (old : BerthState) : State := if old = .dwelling then s.partnerExits f.partner else s

theorem becomeDeparting_eq (s : State) (f : Face) : s.becomeDeparting f =
    if (s.face f).berth.state = .aligning then ((s.departed f).partnerTold f (s.face f).berth.state).withdrawAlignment f
    else (s.departed f).partnerTold f (s.face f).berth.state := rfl

end State

/-- A face's blocks once its berth is DEPARTING, before a deferral ends and its doors close. -/
def FaceBlocks.leaving (supervision : Millis) (b : FaceBlocks) : FaceBlocks :=
  { b with
    berth := { b.berth with state := .departing, enable := [], pairing := [], dwellStart := none, supervision := some supervision }
    doors := b.doors.map fun d => d.follow [] }

namespace State

theorem leaving_quiet (s : State) (f : Face) : Quiet s (s.leaving f) :=
  (((modBerth_calm s f _).trans (startSupervision_calm _ f)).toQuiet.trans (setCondition_quiet _ f _ _)).trans
    (followEnable_calm _ f).toQuiet

theorem leaving_blocks {s : State} {f : Face} {p : FaceParams} (hp : s.params? f = some p) :
    (s.leaving f).blocks = s.blocks.modFace f (FaceBlocks.leaving (s.ms + p.supervision)) := by
  unfold leaving
  rw [followEnable_blocks, setCondition_blocks, startSupervision_blocks (p := p) (by simpa [params?, tables?] using hp),
    modBerth_blocks, (modBerth_calm s f _).ms]
  simp only [Blocks.modFace_modFace]
  rfl

theorem departed_blocks {s : State} {f : Face} {p : FaceParams} (hp : s.params? f = some p) :
    (s.departed f).blocks = s.blocks.modFace f fun b => (b.leaving (s.ms + p.supervision)).cancelled s.ms := by
  rw [departed, cancelDeferral_blocks, leaving_blocks hp, Blocks.modFace_modFace, (leaving_quiet s f).ms]

theorem departed_quiet (s : State) (f : Face) : Quiet s (s.departed f) :=
  (leaving_quiet s f).trans (cancelDeferral_calm _ f).toQuiet

theorem departed_positionStale (s : State) (f : Face) : ((s.departed f).face f).proof.active.positionStale = false :=
  (((followEnable_calm _ f).trans (cancelDeferral_calm _ f)).active f .positionStale (by decide) (by decide)).trans
    (setCondition_active _ f .positionStale false)

theorem departed_flag {s : State} {f : Face} {p : FaceParams} (hp : s.params? f = some p) (h : (s.face f).deferral.used ≠ none) :
    .holdEnded ∈ (s.departed f).lif.flags.get (.face f) := by
  obtain ⟨-, -, deferral, -⟩ := face_records_of (leaving_blocks hp) f
  refine cancelDeferral_flag ?_
  rw [deferral]
  simpa [FaceBlocks.leaving, FaceState.blocks] using h

theorem partnerTold_calm (s : State) (f : Face) (old : BerthState) : Calm s (s.partnerTold f old) :=
  .opt (partnerExits_calm s f.partner)

theorem partnerTold_local (s : State) (f : Face) (old : BerthState) : Local f.partner s (s.partnerTold f old) :=
  .opt (partnerExits_local s f.partner)

theorem becomeDeparting_calm (s : State) (f : Face) : Calm (s.departed f) (s.becomeDeparting f) := by
  rw [becomeDeparting_eq]
  exact .ite ((partnerTold_calm _ f _).trans (withdrawAlignment_calm _ f)) (partnerTold_calm _ f _)

theorem becomeDeparting_quiet (s : State) (f : Face) : Quiet s (s.becomeDeparting f) :=
  (departed_quiet s f).trans (becomeDeparting_calm s f).toQuiet

end State

/-- What the rest of a step finds once a berth has become DEPARTING: its own face's blocks with its doors as they then are, the partner
told, the engine without its waiting request, and everything else of the blocks as it was. -/
structure Departed (f : Face) (p : FaceParams) (ds : List Door) (s u : State) : Prop where
  own : (u.face f).blocks = { ((s.face f).blocks.leaving (s.ms + p.supervision)).cancelled s.ms with doors := ds }
  partner : (s.face f).berth.state = .dwelling → (u.face f.partner).deferral.partnerView = .notDwelling
  aln : u.aln = if (s.face f).berth.state = .aligning then s.aln.withdraw f s.bump else s.aln
  holds : u.holds = s.holds
  gap : u.gap = s.gap
  tbs : u.tbs = s.tbs

namespace State

theorem partnerTold_departed {s : State} {f : Face} {p : FaceParams} (hp : s.params? f = some p) (old : BerthState) :
    let u := (s.departed f).partnerTold f old
    (u.face f).blocks = ((s.face f).blocks.leaving (s.ms + p.supervision)).cancelled s.ms ∧
      (old = .dwelling → (u.face f.partner).deferral.partnerView = .notDwelling) ∧
      u.holds = s.holds ∧ u.aln = s.aln ∧ u.gap = s.gap ∧ u.tbs = s.tbs := by
  intro u
  have blocks := departed_blocks hp
  have told : Local f.partner (s.departed f) u := partnerTold_local _ f old
  obtain ⟨holds, aln, gap, tbs⟩ := told.shared
  obtain ⟨holds', aln', gap', tbs'⟩ := (Local.of_blocks blocks).shared
  refine ⟨?_, ?_, holds.trans holds', aln.trans aln', gap.trans gap', tbs.trans tbs'⟩
  · rw [told.face_ne, face_blocks_of blocks, Blocks.get_modFace, blocks_get]
  · rintro rfl
    exact partnerExits_partnerView _ f.partner

theorem becomeDeparting_departed {s : State} {f : Face} {p : FaceParams} (hp : s.params? f = some p) :
    Departed f p ((s.face f).doors.map fun d => d.follow []) s (s.becomeDeparting f) := by
  obtain ⟨own, partner, holds, aln, gap, tbs⟩ := partnerTold_departed hp (s.face f).berth.state
  have bump := ((departed_quiet s f).trans (partnerTold_calm _ f (s.face f).berth.state).toQuiet).bump
  rw [becomeDeparting_eq]
  generalize (s.departed f).partnerTold f (s.face f).berth.state = u at *
  split
  next aligning =>
    have blocks := withdrawAlignment_blocks u f
    exact ⟨by rw [face_blocks_of blocks, blocks_get, own]; rfl, fun h => by
        obtain ⟨-, -, deferral, -⟩ := face_records_of blocks f.partner
        rw [deferral, blocks_get]
        exact partner h,
      (congrArg Blocks.aln blocks).trans (by rw [aln, bump, if_pos aligning]), (congrArg Blocks.holds blocks).trans holds,
      (congrArg Blocks.gap blocks).trans gap, (congrArg Blocks.tbs blocks).trans tbs⟩
  next aligning => exact ⟨own, partner, by rw [aln, if_neg aligning], holds, gap, tbs⟩

end State

namespace Departed

variable {f : Face} {p : FaceParams} {ds : List Door} {s u : State}

theorem doors_changed {z : State} {es : List Door} (h : Departed f p ds s u)
    (hz : z.blocks = u.blocks.modFace f fun b => { b with doors := es }) : Departed f p es s z := by
  refine ⟨?_, fun hd => ?_, (congrArg Blocks.aln hz).trans h.aln, (congrArg Blocks.holds hz).trans h.holds,
    (congrArg Blocks.gap hz).trans h.gap, (congrArg Blocks.tbs hz).trans h.tbs⟩
  · rw [State.face_blocks_of hz, Blocks.get_modFace, State.blocks_get, h.own]
  · obtain ⟨-, -, deferral, -⟩ := State.face_records_of hz f.partner
    rw [deferral, Blocks.get_partner_modFace, State.blocks_get]
    exact h.partner hd

theorem of_blocks {z : State} (h : Departed f p ds s u) (hz : z.blocks = u.blocks) : Departed f p ds s z :=
  h.doors_changed (hz.trans (Blocks.modFace_same (by rw [State.blocks_get, h.own])).symm)

/-- The supervision timer that becoming DEPARTING has started is started again in the same step (R15, R22). -/
theorem refreshed (h : Departed f p ds s u) (hp : s.params? f = some p) (hq : Quiet s u) : Departed f p ds s (u.refreshSupervision f) := by
  refine h.of_blocks ?_
  rw [State.refreshSupervision_blocks (p := p) (by simpa [State.params?, State.tables?, h.tbs] using hp)]
  refine Blocks.modFace_same ?_
  rw [State.blocks_get, h.own, hq.ms]
  rfl

theorem berth (h : Departed f p ds s u) : (u.face f).berth = { (s.face f).berth with
    state := .departing, enable := [], pairing := [], dwellStart := none, supervision := some (s.ms + p.supervision) } :=
  congrArg FaceBlocks.berth h.own

theorem doors (h : Departed f p ds s u) : (u.face f).doors = ds := congrArg FaceBlocks.doors h.own

theorem release (h : Departed f p ds s u) : (u.face f).release = (s.face f).release := congrArg FaceBlocks.release h.own

theorem line (h : Departed f p ds s u) : (u.face f).line = (s.face f).line := congrArg FaceBlocks.line h.own

theorem deferral_used (h : Departed f p ds s u) : (u.face f).deferral.used = none :=
  (congrArg (fun b => b.deferral.used) h.own).trans (FaceBlocks.cancelled_used _ _)

theorem deferral_ended (h : Departed f p ds s u) (hu : (s.face f).deferral.used ≠ none) :
    (u.face f).deferral = (s.face f).deferral.ended .cancelled s.ms :=
  (congrArg FaceBlocks.deferral h.own).trans (if_pos (Option.isSome_iff_ne_none.2 hu))

/-- The context of a door's rules once the berth is DEPARTING. -/
theorem context (h : Departed f p ds s u) (hq : Quiet s u) (n : Nat) : u.doorContext f n = s.doorContext f n :=
  State.doorContext_eq f n hq h.tbs h.gap (congrArg Release.state h.release)

end Departed

/-! ### The doors close -/

/-- The doors of a face with an emptied enable set, after a close of some of them and the drop of the OPENs that are left (R52, R73). -/
theorem map_closed (ds : List Door) (p : Door → Bool) (g : Door → Door) (hp : ∀ d : Door, p { d with enabled := false } = p d)
    (hg : ∀ d : Door, d.enabled = false → (g d).slotCommand ≠ some .openCmd) :
    (((ds.map fun d => d.follow []).map fun d => if p d then g d else d).map Door.dropOpen) =
      ds.map fun d => if p d then g { d with enabled := false } else d.disabled := by
  simp only [List.map_map]
  refine List.map_congr_left fun d _ => ?_
  simp only [Function.comp_apply, ← Door.disabled_eq, Door.follow_nil, hp]
  split
  · exact Door.dropOpen_of_noOpen (hg _ rfl)
  · rfl

namespace State

section

variable {s u : State} {f : Face}

theorem departureClose_closed (h : DistinctDoors (s.face f)) (hd : (u.face f).doors = (s.face f).doors.map fun d => d.follow []) :
    ((u.departureClose f).dropOpens f).blocks = u.blocks.modFace f fun b => { b with doors := (s.face f).doors.map fun d =>
      if d.departing then ({ d with enabled := false }.departureClose (u.doorContext f d.number)).door else d.disabled } := by
  have distinct : DistinctDoors (u.face f) := by
    unfold DistinctDoors
    rw [hd, List.map_map]
    exact h
  rw [dropOpens_blocks, departureClose_blocks u f distinct, Blocks.modFace_modFace]
  refine Blocks.modFace_congr ?_
  rw [blocks_get, show (u.face f).blocks.doors = _ from hd]
  simp only
  rw [map_closed _ _ _ (fun _ => rfl) fun d h => Door.departureClose_noOpen h _]

theorem movementClose_closed (h : DistinctDoors (s.face f)) (hd : (u.face f).doors = (s.face f).doors.map fun d => d.follow []) :
    ((u.movementClose f).dropOpens f).blocks = u.blocks.modFace f fun b => { b with doors := (s.face f).doors.map fun d =>
      if d.closable then ({ d with enabled := false }.startClose (u.doorContext f d.number) .urgent).door else d.disabled } := by
  have distinct : DistinctDoors (u.face f) := by
    unfold DistinctDoors
    rw [hd, List.map_map]
    exact h
  rw [dropOpens_blocks, movementClose_blocks u f distinct, Blocks.modFace_modFace]
  refine Blocks.modFace_congr ?_
  rw [blocks_get, show (u.face f).blocks.doors = _ from hd]
  simp only
  rw [map_closed _ _ _ (fun _ => rfl) fun d h => Door.startClose_noOpen h _ _]

end

/-! ### DEPARTURE (R13) -/

/-- The berth DEPARTING by DEPARTURE, with the flag of a departure that proof does not cover (R13). -/
def departureFound (s : State) (f : Face) : State :=
  if !(s.face f).proof.held && s.openDoorsFound f then (s.becomeDeparting f).raiseFace f .departureUnproven else s.becomeDeparting f

theorem acceptDeparture_eq (s : State) (f : Face) : s.acceptDeparture f = ((s.departureFound f).departureClose f).dropOpens f := rfl

theorem departureFound_blocks (s : State) (f : Face) : (s.departureFound f).blocks = (s.becomeDeparting f).blocks := by
  unfold departureFound
  split
  · exact raiseFace_blocks _ f _
  · rfl

theorem departureFound_calm (s : State) (f : Face) : Calm (s.becomeDeparting f) (s.departureFound f) := .opt (raiseFace_calm _ f _)

theorem departureFound_flag {s : State} {f : Face} (hh : (s.face f).proof.held = false)
    (hd : ∃ d ∈ (s.face f).doors, d.state ≠ .closed ∧ d.state ≠ .isolated) :
    .departureUnproven ∈ (s.departureFound f).lif.flags.get (.face f) := by
  rw [departureFound, if_pos (by simpa [hh, openDoorsFound] using hd)]
  exact raise_flag _ (.face f) _

theorem acceptDeparture_calm (s : State) (f : Face) : Calm (s.departureFound f) (s.acceptDeparture f) :=
  (applyDoors_calm _ f _ _).trans (dropOpens_calm _ f)

theorem acceptDeparture_departed {s : State} {f : Face} {p : FaceParams} (hp : s.params? f = some p) (hn : DistinctDoors (s.face f)) :
    Departed f p ((s.face f).doors.map fun d =>
      if d.departing then ({ d with enabled := false }.departureClose (s.doorContext f d.number)).door else d.disabled) s
      (s.acceptDeparture f) := by
  have departed := (becomeDeparting_departed hp).of_blocks (departureFound_blocks s f)
  have quiet : Quiet s (s.departureFound f) := (becomeDeparting_quiet s f).trans (departureFound_calm s f).toQuiet
  have closed := departureClose_closed hn departed.doors
  simp only [departed.context quiet] at closed
  exact departed.doors_changed closed

end State

namespace State

@[simp] theorem arrived_line (s : State) (t : Micros) (f : Face) : ((s.arrived t).face f).line = (s.face f).line :=
  congrArg FaceBlocks.line (arrived_face_blocks s t f)

@[simp] theorem arrived_gap (s : State) (t : Micros) : (s.arrived t).gap = s.gap := congrArg Blocks.gap (arrived_blocks s t)

@[simp] theorem arrived_holds (s : State) (t : Micros) : (s.arrived t).holds = s.holds := congrArg Blocks.holds (arrived_blocks s t)

/-- A telegram's block works in the context that the command's time gives. -/
@[simp] theorem arrived_doorContext (s : State) (t : Micros) (f : Face) (n : Nat) :
    (s.arrived t).doorContext f n = (s.advance t).doorContext f n :=
  doorContext_of_blocks f n (arrived_quiet s t) (by simp)

end State

/-- Settles O14: the departed berth's blocks with its doors closed, and the closing rule read off its definition. -/
theorem departureClosesTheDoors : Obligations.DepartureClosesTheDoors := by
  refine ⟨fun s t f p ordered running hp hv hd => ?_, fun d ctx => ⟨?_, fun lost => if_pos lost, fun lost => if_neg lost⟩⟩
  · have params : (s.arrived t).params? f = some p := by simpa using hp
    have accepted : (s.arrived t).takeDeparture f [] = (s.arrived t).acceptDeparture f :=
      State.takeDeparture_accepted (by simp [State.configured, params]) (by simpa using hv) (by simpa using hd)
    have told := State.becomeDeparting_calm (s.arrived t) f
    have closed := (State.acceptDeparture_calm (s.arrived t) f).trans (State.arbitrate_calm _)
    have later := told.trans ((State.departureFound_calm _ f).trans closed)
    obtain ⟨intake, replies⟩ := State.arrived_then
      (((State.becomeDeparting_quiet _ f).trans (State.departureFound_calm _ f).toQuiet).trans
        (State.acceptDeparture_calm (s.arrived t) f).toQuiet)
    have distinct : State.DistinctDoors ((s.arrived t).face f) := (State.DistinctDoors.of_ordered ordered f).of_doors (by simp)
    have departed := (State.acceptDeparture_departed params distinct).of_blocks (State.arbitrate_blocks _)
    refine ⟨_, by rw [exec_departure running, accepted], intake, replies, ?_, ?_, departed.deferral_used, fun used => ⟨?_, ?_⟩,
      fun held found => ?_, ?_, ?_, ?_, ?_, ?_, ?_, ?_⟩
    · simpa using departed.berth
    · exact (later.active f .positionStale (by decide) (by decide)).trans (State.departed_positionStale _ f)
    · simpa using departed.deferral_ended (by simpa using used)
    · exact later.flags _ _ (State.departed_flag params (by simpa using used))
    · exact closed.flags _ _ (State.departureFound_flag held (by simpa using found))
    · simpa using departed.doors
    · simpa [Engine.withdraw_where] using departed.aln
    · simpa using departed.release
    · simpa using departed.line
    · simpa using departed.holds
    · simpa using departed.gap
    · simpa using departed.tbs
  · simp only [Door.departing, Bool.and_eq_true, Bool.or_eq_true, Bool.not_eq_true', decide_eq_true_eq, or_assoc, and_assoc]

/-! ### Movement in DWELLING (R21) -/

namespace State

/-- The berth DEPARTING by movement, its doors closed where proof did not hold (R21). -/
theorem moveFromDwelling_eq (s : State) (f : Face) : s.moveFromDwelling f =
    if (s.face f).proof.held then (s.becomeDeparting f).dropOpens f
    else ((((s.becomeDeparting f).raiseFace f .movementUnproven).movementClose f).dropOpens f) := by
  unfold moveFromDwelling
  dsimp only
  split <;> rfl

theorem moveFromDwelling_calm (s : State) (f : Face) : Calm (s.becomeDeparting f) (s.moveFromDwelling f) := by
  rw [moveFromDwelling_eq]
  exact .ite (dropOpens_calm _ f) (((raiseFace_calm _ f _).trans (applyDoors_calm _ f _ _)).trans (dropOpens_calm _ f))

theorem moveFromDwelling_flag {s : State} {f : Face} (hh : (s.face f).proof.held = false) :
    .movementUnproven ∈ (s.moveFromDwelling f).lif.flags.get (.face f) := by
  rw [moveFromDwelling_eq, if_neg (by simp [hh])]
  exact ((applyDoors_calm _ f _ _).trans (dropOpens_calm _ f)).flags _ _ (raise_flag _ (.face f) _)

/-- The doors that movement leaves: closed where proof did not hold, and only disabled where it did. -/
def movedDoors (s : State) (f : Face) : List Door :=
  (s.face f).doors.map fun d =>
    if !(s.face f).proof.held && d.closable then
      ({ d with enabled := false }.startClose (s.doorContext f d.number) .urgent).door
    else d.disabled

theorem moveFromDwelling_departed {s : State} {f : Face} {p : FaceParams} (hp : s.params? f = some p) (hn : DistinctDoors (s.face f)) :
    Departed f p (s.movedDoors f) s (s.moveFromDwelling f) := by
  have departed := becomeDeparting_departed hp
  rw [moveFromDwelling_eq]
  split
  next held =>
    refine departed.doors_changed ((dropOpens_blocks _ f).trans (Blocks.modFace_congr ?_))
    have doors : ((s.becomeDeparting f).face f).blocks.doors = _ := departed.doors
    rw [blocks_get, doors, map_disabled]
    simp [movedDoors, held]
  next held =>
    have raised := departed.of_blocks (raiseFace_blocks (s.becomeDeparting f) f .movementUnproven)
    have quiet := (becomeDeparting_quiet s f).trans (raiseFace_calm _ f .movementUnproven).toQuiet
    have closed := movementClose_closed hn raised.doors
    simp only [raised.context quiet] at closed
    exact raised.doors_changed (by simpa [movedDoors, held] using closed)

section

variable (s : State) (t : Micros) (f : Face) (x : Sample)

@[simp] theorem joined_doors : ((s.joined t f x).face f).doors = (s.face f).doors := by simp [joined, joinSample]

@[simp] theorem joined_deferral : ((s.joined t f x).face f).deferral = (s.face f).deferral := by simp [joined, joinSample]

@[simp] theorem joined_release : ((s.joined t f x).face f).release = (s.face f).release := by simp [joined, joinSample]

@[simp] theorem joined_line : ((s.joined t f x).face f).line = (s.face f).line := by simp [joined, joinSample]

@[simp] theorem joined_proof : ((s.joined t f x).face f).proof = ((s.arrived t).face f).proof := by simp [joined, joinSample]

@[simp] theorem joined_holds : (s.joined t f x).holds = s.holds := by simp [joined, joinSample]

@[simp] theorem joined_gap : (s.joined t f x).gap = s.gap := by simp [joined, joinSample]

@[simp] theorem joined_tbs : (s.joined t f x).tbs = s.tbs := by simp [joined, joinSample]

@[simp] theorem joined_doorContext (n : Nat) : (s.joined t f x).doorContext f n = (s.advance t).doorContext f n :=
  doorContext_eq f n (joined_then (.refl _)) (by simp) (by simp) (by simp)

end

theorem testSample_moved {s : State} {f : Face} {p : FaceParams} {x : Sample} (hs : (s.face f).berth.state = .dwelling)
    (h : moved p.creep (s.face f).berth.stop x = true) : s.testSample f p x = s.moveFromDwelling f := by
  simp [testSample, hs, h]

end State

/-- Settles O13: the departed berth's blocks with its doors as proof leaves them. -/
theorem movementInDwellingDeparts : Obligations.MovementInDwellingDeparts := by
  refine ⟨?_, fun d => ?_⟩
  · intro s t f body p x ordered accepted dwelling moving b' held
    obtain ⟨v, hv⟩ : ∃ v, s.joined t f x = v := ⟨_, rfl⟩
    have params : v.params? f = some p := by simpa [← hv] using accepted.params
    have berth := State.joined_berth s t f x
    have tested : v.testSample f p x = v.moveFromDwelling f :=
      State.testSample_moved (by simpa [← hv, berth] using dwelling) (by simpa [← hv, berth] using moving)
    have distinct : State.DistinctDoors (v.face f) := (State.DistinctDoors.of_ordered ordered f).of_doors (by simp [← hv])
    have later := ((State.refreshSupervision_quiet (v.moveFromDwelling f) f).trans (State.arbitrate_calm _).toQuiet)
    have told := (State.becomeDeparting_quiet v f).trans (State.moveFromDwelling_calm v f).toQuiet
    have departed := ((State.moveFromDwelling_departed params distinct).refreshed params told).of_blocks (State.arbitrate_blocks _)
    obtain ⟨intake, replies⟩ := State.arrived_then ((hv ▸ State.joined_quiet s t f x).trans
      (told.trans (State.refreshSupervision_quiet (v.moveFromDwelling f) f)))
    have proof : (v.face f).proof.held = held := by rw [← hv, State.joined_proof]; rfl
    refine ⟨_, by rw [accepted.exec_eq, hv, tested], intake, replies, ?_, departed.deferral_used, fun used => ⟨?_, ?_⟩, ?_, fun h => ?_,
      fun h => ⟨later.flags _ _ (State.moveFromDwelling_flag (proof.trans h)), ?_⟩, ?_, ?_, ?_, ?_, ?_, ?_⟩
    · rw [departed.berth, ← hv, berth, State.joined_ms]
      rfl
    · simpa [← hv] using departed.deferral_ended (by simpa [← hv] using used)
    · exact later.flags _ _ ((State.moveFromDwelling_calm v f).flags _ _ ((State.becomeDeparting_calm v f).flags _ _
        (State.departed_flag params (by simpa [← hv] using used))))
    · exact departed.partner (by simpa [← hv, berth] using dwelling)
    · have stay := departed.doors
      rw [State.movedDoors, proof.trans h] at stay
      simpa [← hv] using stay
    · have closed := departed.doors
      rw [State.movedDoors, proof.trans h] at closed
      simpa [← hv] using closed
    · simpa [← hv] using departed.release
    · simpa [← hv] using departed.line
    · simpa [← hv] using departed.holds
    · simpa [← hv, berth, dwelling] using departed.aln
    · simpa [← hv] using departed.gap
    · simpa [← hv] using departed.tbs
  · simp only [Door.closable, Bool.and_eq_true, Bool.or_eq_true, Bool.not_eq_true', decide_eq_true_eq, or_assoc, and_assoc]

end Sys2Proof.Machine
end

section
/-! PROOFS. The end of a train: CLEARED and the lapses of the supervision timer (R14, R22, R177). -/

namespace Sys2Proof.Machine

namespace State

theorem vacate_blocks (s : State) (f : Face) : (s.vacate f).blocks = s.blocks.modFace f fun b =>
    { b with berth := b.berth.emptied, doors := b.doors.map Door.disabled } := by
  unfold vacate
  dsimp only
  rw [emptySet_blocks (by simp [vacated]), setCondition_blocks, setCondition_blocks, modBerth_blocks, Blocks.modFace_modFace]
  rfl

theorem vacate_quiet (s : State) (f : Face) : Quiet s (s.vacate f) :=
  (((modBerth_calm s f _).toQuiet.trans (setCondition_quiet _ f _ _)).trans (setCondition_quiet _ f _ _)).trans
    (emptySet_calm _ f).toQuiet

theorem vacate_noProfile (s : State) (f : Face) : ((s.vacate f).face f).proof.active.noProfile = false :=
  ((emptySet_calm _ f).active f .noProfile (by decide) (by decide)).trans (setCondition_active _ f .noProfile false)

theorem vacate_positionStale (s : State) (f : Face) : ((s.vacate f).face f).proof.active.positionStale = false :=
  (((emptySet_calm _ f).active f .positionStale (by decide) (by decide)).trans
    (setCondition_active_other _ f f (by decide) false)).trans (setCondition_active _ f .positionStale false)

/-- Without a bank to adopt, the test for adoption does nothing (R177). -/
theorem testAdoption_none {s : State} {f : Face} (h : NoAdoption s f) : s.testAdoption f = s := by
  unfold testAdoption
  split
  · rfl
  next b staged =>
    rcases h b staged with active | release
    · exact if_neg fun x => x.1 active
    · exact if_neg fun x => release x.2.2

theorem NoAdoption.of_blocks {s u : State} {f : Face} (h : NoAdoption s f) (ht : u.tbs = s.tbs)
    (hr : (u.face f).release = (s.face f).release) : NoAdoption u f := by
  intro b
  rw [ht, hr]
  exact h b

/-- The state in which a timer's event finds the part: the step has opened. -/
theorem opened_calm (s : State) (t : Micros) : Calm (s.advance t) (s.opened t) := arbitrate_calm _


/-- A supervision timer that is due is stopped, and what its expiry means is decided by the berth state (R22). -/
theorem supervisionLapse_departing {s : State} {f : Face} {e : Millis} (hd : (s.face f).berth.supervision = some e) (he : e ≤ s.ms)
    (hs : (s.face f).berth.state = .departing) :
    s.supervisionLapse f = (s.modBerth f fun b => { b with supervision := none }).becomeVacant f := by
  simp [supervisionLapse, due, hd, he, hs]

theorem supervisionLapse_stale {s : State} {f : Face} {e : Millis} (hd : (s.face f).berth.supervision = some e) (he : e ≤ s.ms)
    (hs : (s.face f).berth.state ≠ .departing) (hv : (s.face f).berth.state ≠ .vacant) :
    s.supervisionLapse f = (s.modBerth f fun b => { b with supervision := none }).activate f .positionStale .positionStale := by
  cases h : (s.face f).berth.state <;> simp_all [supervisionLapse, due]

end State

theorem exec_supervisionExpiry {s : State} (h : s.running = true) (t : Micros) (f : Face) :
    exec (.supervisionExpiry t f) s = .next ((s.opened t).supervisionLapse f).arbitrate := by
  rw [← State.event_running h t fun s => s.supervisionLapse f]; rfl

/-- What ends the train of a DEPARTING berth: a CLEARED, or the supervision timer (R14, R22). -/
def EndsTrain (s : State) (t : Micros) (f : Face) (c : Instr) : Prop :=
  c = .cleared t f [] ∧ s.configured f = true ∨
    c = .supervisionExpiry t f ∧ ∃ e, (s.face f).berth.supervision = some e ∧ e ≤ (s.advance t).ms

/-- The end of a train empties the berth, and the step goes on with the test for adoption. -/
theorem trainEnds {s : State} {t : Micros} {f : Face} {c : Instr} (running : s.running = true)
    (departing : (s.face f).berth.state = .departing) (h : EndsTrain s t f c) :
    ∃ v : State, exec c s = .next (v.testAdoption f).arbitrate ∧ Quiet (s.advance t) v ∧
      (v.face f).proof.active.positionStale = false ∧ (v.face f).proof.active.noProfile = false ∧
      v.blocks = s.blocks.modFace f fun b => { b with berth := b.berth.emptied, doors := b.doors.map Door.disabled } := by
  rcases h with ⟨rfl, configured⟩ | ⟨rfl, e, timer, late⟩
  · have accepted : (s.arrived t).takeCleared f [] = (s.arrived t).becomeVacant f :=
      State.takeCleared_accepted (by simpa using configured) (by simpa using departing)
    exact ⟨(s.arrived t).vacate f, by rw [exec_cleared running, accepted]; rfl,
      (State.arrived_quiet s t).trans (State.vacate_quiet _ f), State.vacate_positionStale _ f, State.vacate_noProfile _ f, by
      rw [State.vacate_blocks, State.arrived_blocks]⟩
  · have lapse := State.supervisionLapse_departing (s := s.opened t) (by simpa using timer) (by rw [State.opened_ms]; exact late)
      (by simpa using departing)
    refine ⟨((s.opened t).modBerth f fun b => { b with supervision := none }).vacate f, by
      rw [exec_supervisionExpiry running, lapse]; rfl,
      ((State.opened_calm s t).trans (State.modBerth_calm _ f _)).toQuiet.trans (State.vacate_quiet _ f),
      State.vacate_positionStale _ f, State.vacate_noProfile _ f, ?_⟩
    rw [State.vacate_blocks, State.modBerth_blocks, State.opened_blocks, Blocks.modFace_modFace]
    rfl

/-- Settles O15: the end of a train with and without an adoption to follow, and the lapse that only makes the position stale. -/
theorem clearedAndLapsesEndTheTrain : Obligations.ClearedAndLapsesEndTheTrain := by
  refine ⟨fun s t f c running departing noAdoption ends => ?_, fun s t f c running departing ends => ?_,
    fun s t f e running timer late departing vacant => ?_⟩
  · obtain ⟨v, hx, quiet, stale, profile, blocks⟩ := trainEnds running departing ends
    obtain ⟨-, -, -, -, -, release⟩ := State.face_records_of blocks f
    have none : NoAdoption v f := State.NoAdoption.of_blocks noAdoption (congrArg Blocks.tbs blocks) (by
      rw [release, Blocks.get_modFace, State.blocks_get]; rfl)
    rw [State.testAdoption_none none] at hx
    have calm := State.arbitrate_calm v
    exact ⟨_, hx, calm.intake.trans quiet.intake, calm.replies.trans quiet.replies,
      (calm.active f .positionStale (by decide) (by decide)).trans stale, (calm.active f .noProfile (by decide) (by decide)).trans profile,
      (State.arbitrate_blocks v).trans blocks⟩
  · obtain ⟨v, hx, quiet, stale, profile, blocks⟩ := trainEnds running departing ends
    exact ⟨v, hx, quiet.intake, quiet.replies, stale, profile, blocks⟩
  · have lapse := State.supervisionLapse_stale (s := s.opened t) (f := f) (by simpa using timer) (by rw [State.opened_ms]; exact late)
      (by simpa using departing) (by simpa using vacant)
    have before := (State.opened_calm s t).trans (State.modBerth_calm _ f fun b => { b with supervision := none })
    obtain ⟨active, flag⟩ := State.activate_active ((s.opened t).modBerth f fun b => { b with supervision := none }) f .positionStale
      .positionStale
    have quiet := before.toQuiet.trans (State.activate_quiet _ f .positionStale .positionStale)
    have calm := State.arbitrate_calm
      (((s.opened t).modBerth f fun b => { b with supervision := none }).activate f .positionStale .positionStale)
    refine ⟨_, by rw [exec_supervisionExpiry running, lapse], calm.intake.trans quiet.intake, calm.replies.trans quiet.replies,
      (calm.active f .positionStale (by decide) (by decide)).trans active,
      fun fresh => calm.flags _ _ (flag ((before.active f .positionStale (by decide) (by decide)).trans fresh)), ?_⟩
    rw [State.arbitrate_blocks, State.activate_blocks, State.modBerth_blocks, State.opened_blocks]

end Sys2Proof.Machine
end

section
/-! PROOFS. The entry to DWELLING and the openings that bring it: what they make of the berth, the deferral and the partner's view (R9,
R54, R74, R127, R129). -/

namespace Sys2Proof.Machine

/-- The berth record after the entry to DWELLING, which only a STOPPED berth makes (R9). -/
def Berth.dwelled (b : Berth) (now : Millis) : Berth :=
  if b.state = .stopped then { b with state := .dwelling, dwellStart := some now } else b

theorem Berth.dwelled_train (b : Berth) (now : Millis) : (b.dwelled now).train = b.train := by
  unfold dwelled; split <;> rfl

theorem Berth.dwelled_stop (b : Berth) (now : Millis) : (b.dwelled now).stop = b.stop := by
  unfold dwelled; split <;> rfl

namespace State

/-! ### The partner sees the entry -/

theorem partnerDwellLapse_local (s : State) (f : Face) : Local f s (s.partnerDwellLapse f) := .opt (endWithClose_local s f _)

theorem partnerEnters_local (s : State) (f : Face) (x : Millis) : Local f s (s.partnerEnters f x) :=
  (Local.of_blocks (modDeferral_blocks s f _)).trans (partnerDwellLapse_local _ f)

theorem endWithClose_berth (s : State) (f g : Face) (c : EndCause) : ((s.endWithClose f c).face g).berth = (s.face g).berth := by
  simp [endWithClose, endDeferral, closeFaceNow]

theorem endWithClose_partnerView (s : State) (f : Face) (c : EndCause) :
    ((s.endWithClose f c).face f).deferral.partnerView = (s.face f).deferral.partnerView := by
  simp [endWithClose, endDeferral, closeFaceNow]

theorem partnerEnters_berth (s : State) (f g : Face) (x : Millis) : ((s.partnerEnters f x).face g).berth = (s.face g).berth := by
  unfold partnerEnters partnerDwellLapse
  split
  · rw [endWithClose_berth, modDeferral_berth]
  · exact modDeferral_berth s f g _

theorem partnerEnters_partnerView (s : State) (f : Face) (x : Millis) :
    ((s.partnerEnters f x).face f).deferral.partnerView = .dwelling x := by
  unfold partnerEnters
  generalize hv : s.modDeferral f _ = v
  have view : (v.face f).deferral.partnerView = .dwelling x := by
    rw [← hv, modDeferral_same]
    split <;> rfl
  unfold partnerDwellLapse
  split
  · rw [endWithClose_partnerView, view]
  · exact view

/-! ### The entry itself (R9) -/

theorem enterDwelling_own (s : State) (f : Face) :
    ((s.enterDwelling f).face f).blocks = { (s.face f).blocks with berth := (s.face f).berth.dwelled s.ms } := by
  unfold enterDwelling Berth.dwelled
  split
  · rw [(partnerEnters_local _ f.partner s.ms).face_ne, face_blocks_of (modBerth_blocks s f _), Blocks.get_modFace, blocks_get]
    rfl
  · rfl

theorem enterDwelling_shared (s : State) (f : Face) : (s.enterDwelling f).holds = s.holds ∧ (s.enterDwelling f).aln = s.aln ∧
    (s.enterDwelling f).gap = s.gap ∧ (s.enterDwelling f).tbs = s.tbs := by
  unfold enterDwelling
  split
  · exact (partnerEnters_local (s.modBerth f fun b => { b with state := .dwelling, dwellStart := some s.ms }) f.partner s.ms).shared
  · exact ⟨rfl, rfl, rfl, rfl⟩

theorem enterDwelling_partner_berth (s : State) (f : Face) :
    ((s.enterDwelling f).face f.partner).berth = (s.face f.partner).berth := by
  unfold enterDwelling
  split
  · rw [partnerEnters_berth]
    simp
  · rfl

theorem enterDwelling_partnerView (s : State) (f : Face) (h : (s.face f).berth.state = .stopped) :
    ((s.enterDwelling f).face f.partner).deferral.partnerView = .dwelling s.ms := by
  rw [enterDwelling, if_pos h, partnerEnters_partnerView]

/-! ### The evacuation opening (R74) -/

theorem cancelDeferral_berth (s : State) (f g : Face) : ((s.cancelDeferral f).face g).berth = (s.face g).berth := by
  unfold cancelDeferral
  split
  · simp [endDeferral]
  · rfl

end State

/-- A door that the evacuation opening moves: RELEASED, ISOLATED and LOST doors are left alone (R74). -/
def Door.Movable (d : Door) : Prop := d.state ≠ .released ∧ d.state ≠ .isolated ∧ d.state ≠ .lost

theorem Door.Movable.reports {d : Door} (h : d.Movable) (ctx : DoorContext) : (d.evacuationOpen ctx).reports = [.evacSet] := by
  obtain ⟨released, isolated, lost⟩ := h
  rw [Door.evacuationOpen_reports, if_neg (by simp [released, isolated, lost])]

theorem Door.Movable.opened {d : Door} (h : d.Movable) (ctx : DoorContext) : (d.evacuationOpen ctx).door.Movable := by
  obtain ⟨released, isolated, lost⟩ := h
  unfold Door.evacuationOpen
  split <;> simp_all [Door.Movable, Door.startOpen, Door.goTo]
  split <;> simp

/-- A release set that holds a door as opened by evacuation (R132). -/
def Marked (n : Nat) (l : List ReleaseMember) : Prop := ∃ m ∈ l, m.door = n ∧ m.evacOpened = true

theorem marked_setMark (n : Nat) (l : List ReleaseMember) : Marked n (setMark n false true l) := by
  induction l with
  | nil => simp [Marked, setMark]
  | cons m rest ih =>
    unfold setMark
    split
    next h => exact ⟨_, List.mem_cons_self, h, by simp⟩
    · split
      · exact ⟨_, List.mem_cons_self, rfl, rfl⟩
      · obtain ⟨x, hx, hn⟩ := ih
        exact ⟨x, List.mem_cons_of_mem m hx, hn⟩

theorem Marked.setMark {k : Nat} {l : List ReleaseMember} (h : Marked k l) (n : Nat) : Marked k (setMark n false true l) := by
  obtain ⟨x, hx, hk, he⟩ := h
  induction l with
  | nil => exact absurd hx (by simp)
  | cons m rest ih =>
    unfold Machine.setMark
    split
    · rcases List.mem_cons.1 hx with rfl | hx
      · exact ⟨_, List.mem_cons_self, hk, by simp⟩
      · exact ⟨x, List.mem_cons_of_mem _ hx, hk, he⟩
    · split
      · exact ⟨x, List.mem_cons_of_mem _ hx, hk, he⟩
      · rcases List.mem_cons.1 hx with rfl | hx
        · exact ⟨x, List.mem_cons_self, hk, he⟩
        · obtain ⟨y, hy, hn⟩ := ih hx
          exact ⟨y, List.mem_cons_of_mem _ hy, hn⟩

/-- A release record that has only gained marks of doors opened by evacuation. -/
def Release.Marking (r r' : Release) : Prop := r' = { r with set := r'.set } ∧ ∀ k, Marked k r.set → Marked k r'.set

theorem Release.Marking.refl (r : Release) : r.Marking r := ⟨rfl, fun _ h => h⟩

theorem Release.Marking.trans {a b c : Release} (h : a.Marking b) (k : b.Marking c) : a.Marking c := by
  obtain ⟨same, marks⟩ := h
  obtain ⟨same', marks'⟩ := k
  exact ⟨by rw [same', same], fun x hx => marks' x (marks x hx)⟩

namespace State

/-- The evacuation opening of the door of a number (R74). -/
abbrev evacDoor (s : State) (f : Face) (n : Nat) : State := s.applyDoor f n fun ctx d => d.evacuationOpen ctx

theorem evacDoor_marking (s : State) (f : Face) (n : Nat) :
    ((s.face f).release).Marking ((s.evacDoor f n).face f).release := by
  cases hd : s.findDoor f n with
  | none => rw [evacDoor, applyDoor_absent _ _ _ _ hd]; exact .refl _
  | some d =>
    rw [applyDoor_release _ _ _ _ d hd, Door.evacuationOpen_reports]
    split
    · exact .refl _
    · exact ⟨rfl, fun k h => h.setMark n⟩

theorem evacDoor_marks {s : State} {f : Face} {n : Nat} {d : Door} (hd : s.findDoor f n = some d) (hm : d.Movable) :
    Marked n ((s.evacDoor f n).face f).release.set := by
  rw [applyDoor_release _ _ _ _ d hd, hm.reports]
  exact marked_setMark n _

/-- The door of a number is there and can be moved. -/
def CanMove (s : State) (f : Face) (n : Nat) : Prop :=
  (∃ x ∈ (s.face f).doors, x.number = n) ∧ ∀ x ∈ (s.face f).doors, x.number = n → x.Movable

theorem CanMove.found {s : State} {f : Face} {n : Nat} (h : s.CanMove f n) : ∃ d, s.findDoor f n = some d ∧ d.Movable := by
  obtain ⟨⟨x, hx, hn⟩, all⟩ := h
  cases hd : s.findDoor f n with
  | none => exact absurd hn (findDoor_none hd x hx)
  | some d =>
    obtain ⟨hm, hdn⟩ := findDoor_some hd
    exact ⟨d, rfl, all d hm hdn⟩

theorem CanMove.evacDoor {s : State} {f : Face} {n : Nat} (h : s.CanMove f n) (k : Nat) : (s.evacDoor f k).CanMove f n := by
  cases hd : s.findDoor f k with
  | none => rw [State.evacDoor, applyDoor_absent _ _ _ _ hd]; exact h
  | some d =>
    obtain ⟨⟨x, hx, hn⟩, all⟩ := h
    obtain ⟨hdm, hdk⟩ := findDoor_some hd
    have number := d.evacuationOpen_number (s.doorContext f k)
    rw [CanMove, applyDoor_doors _ _ _ _ d hd]
    refine ⟨⟨_, List.mem_map_of_mem hx, ?_⟩, fun y hy hyn => ?_⟩
    · split
      next hk => rw [number, hdk, ← hk, hn]
      · exact hn
    · obtain ⟨z, hz, rfl⟩ := List.mem_map.1 hy
      by_cases hk : z.number = k
      · rw [if_pos hk] at hyn ⊢
        exact (all d hdm (number ▸ hyn)).opened _
      · rw [if_neg hk] at hyn ⊢
        exact all z hz hyn

/-- The evacuation opening of a list of doors. -/
theorem evacDoors_marking (f : Face) (ns : List Nat) (s : State) :
    ((s.face f).release).Marking ((ns.foldl (fun s n => s.evacDoor f n) s).face f).release := by
  induction ns generalizing s with
  | nil => exact .refl _
  | cons n rest ih => exact (evacDoor_marking s f n).trans (ih _)

theorem evacDoors_marks (f : Face) (ns : List Nat) (s : State) {n : Nat} (hn : n ∈ ns) (h : s.CanMove f n) :
    Marked n ((ns.foldl (fun s n => s.evacDoor f n) s).face f).release.set := by
  induction ns generalizing s with
  | nil => exact absurd hn (by simp)
  | cons k rest ih =>
    rcases List.mem_cons.1 hn with rfl | hr
    · obtain ⟨d, hd, hm⟩ := h.found
      exact (evacDoors_marking f rest (s.evacDoor f n)).2 n (evacDoor_marks hd hm)
    · exact ih _ hr (h.evacDoor k)

/-- The evacuation opening of a face's doors. -/
abbrev evacDoors (s : State) (f : Face) : State := s.applyDoors f Door.evacuable fun ctx d => d.evacuationOpen ctx

theorem evacuationOpen_steady : Steady fun ctx d => d.evacuationOpen ctx := by
  refine ⟨fun ctx d => d.evacuationOpen_number ctx, fun ctx d => ?_⟩
  rw [Door.evacuationOpen_reports]
  split <;> simp

theorem evacDoors_release (s : State) (f : Face) : ((s.face f).release).Marking ((s.evacDoors f).face f).release :=
  evacDoors_marking f _ s

/-- Every door that the opening moves is marked in the release set (R74, R132). -/
theorem evacDoors_marked {s : State} {f : Face} (hn : DistinctDoors (s.face f)) {d : Door} (hd : d ∈ (s.face f).doors)
    (he : d.evacuable = true) (hm : d.Movable) : Marked d.number ((s.evacDoors f).face f).release.set :=
  evacDoors_marks f _ s (List.mem_map_of_mem (List.mem_filter.2 ⟨hd, he⟩))
    ⟨⟨d, hd, rfl⟩, fun _ hx hxn => List.inj_on_of_nodup_map hn hx hd hxn ▸ hm⟩

/-! ### The opening of a face under evacuation -/

theorem evacuationOpening_eq (s : State) (f : Face) :
    s.evacuationOpening f = ((s.cancelDeferral f).evacDoors f).enterDwelling f := rfl

end State

/-- What the evacuation opening of a face leaves: its own face's blocks, with the marks its release record has gained, the berths and
everything else of the blocks as they were (R74). -/
structure Evacuated (f : Face) (s u : State) : Prop where
  own : (u.face f).blocks = { (s.face f).blocks.cancelled s.ms with
    berth := (s.face f).berth.dwelled s.ms
    doors := (s.face f).doors.map fun d => if d.evacuable then (d.evacuationOpen (s.doorContext f d.number)).door else d
    release := (u.face f).release }
  marking : ((s.face f).release).Marking (u.face f).release
  marked : ∀ d ∈ (s.face f).doors, d.evacuable = true → d.Movable → Marked d.number (u.face f).release.set
  partnerBerth : (u.face f.partner).berth = (s.face f.partner).berth
  partnerView : (s.face f).berth.state = .stopped → (u.face f.partner).deferral.partnerView = .dwelling s.ms
  holds : u.holds = s.holds
  aln : u.aln = s.aln
  gap : u.gap = s.gap
  tbs : u.tbs = s.tbs

namespace Evacuated

variable {f : Face} {s u : State}

theorem berth (h : Evacuated f s u) : (u.face f).berth = (s.face f).berth.dwelled s.ms := congrArg FaceBlocks.berth h.own

theorem doors (h : Evacuated f s u) : (u.face f).doors =
    (s.face f).doors.map fun d => if d.evacuable then (d.evacuationOpen (s.doorContext f d.number)).door else d :=
  congrArg FaceBlocks.doors h.own

theorem deferral (h : Evacuated f s u) : (u.face f).deferral =
    if (s.face f).deferral.used.isSome then (s.face f).deferral.ended .cancelled s.ms else (s.face f).deferral :=
  congrArg FaceBlocks.deferral h.own

theorem line (h : Evacuated f s u) : (u.face f).line = (s.face f).line := congrArg FaceBlocks.line h.own

theorem release (h : Evacuated f s u) : (u.face f).release = { (s.face f).release with set := (u.face f).release.set } := by
  obtain ⟨same, -⟩ := h.marking
  exact same

end Evacuated

namespace State

/-- The doors of a face under evacuation once a deferral has been cancelled. -/
theorem evacDoors_blocks {s : State} {f : Face} (hn : DistinctDoors (s.face f)) :
    ((s.cancelDeferral f).evacDoors f).blocks = s.blocks.modFace f fun b => { b.cancelled s.ms with
      doors := b.doors.map fun d => if d.evacuable then (d.evacuationOpen (s.doorContext f d.number)).door else d
      release := (((s.cancelDeferral f).evacDoors f).face f).release } := by
  have blocks := cancelDeferral_blocks s f
  obtain ⟨-, doors, -, -, -, release⟩ := face_records_of blocks f
  rw [Blocks.get_modFace, blocks_get] at doors release
  have context (n : Nat) : (s.cancelDeferral f).doorContext f n = s.doorContext f n :=
    doorContext_eq f n (cancelDeferral_calm s f).toQuiet (congrArg Blocks.tbs blocks) (congrArg Blocks.gap blocks)
      (congrArg Release.state release)
  rw [applyDoors_blocks _ f _ _ evacuationOpen_steady (hn.of_doors doors)]
  simp only [blocks, context, Blocks.modFace_modFace]
  rfl

theorem evacuationOpening_evacuated {s : State} {f : Face} (hn : DistinctDoors (s.face f)) : Evacuated f s (s.evacuationOpening f) := by
  have cancelled := cancelDeferral_blocks s f
  obtain ⟨-, doors, -, -, -, release⟩ := face_records_of cancelled f
  rw [Blocks.get_modFace, blocks_get] at doors release
  have marking := evacDoors_release (s.cancelDeferral f) f
  have marked {d : Door} := evacDoors_marked (d := d) (hn.of_doors doors)
  rw [release] at marking
  rw [doors] at marked
  have blocks := evacDoors_blocks hn
  have quiet : Quiet s ((s.cancelDeferral f).evacDoors f) := ((cancelDeferral_calm s f).trans (applyDoors_calm _ f _ _)).toQuiet
  rw [evacuationOpening_eq]
  generalize (s.cancelDeferral f).evacDoors f = e at *
  obtain ⟨berth, -⟩ := face_records_of blocks f
  obtain ⟨partnerBerth, -⟩ := face_records_of blocks f.partner
  rw [Blocks.get_modFace, blocks_get] at berth
  rw [Blocks.get_partner_modFace, blocks_get] at partnerBerth
  have own := enterDwelling_own e f
  obtain ⟨holds, aln, gap, tbs⟩ := enterDwelling_shared e f
  rw [face_blocks_of blocks f, Blocks.get_modFace, blocks_get, berth, quiet.ms] at own
  have same : ((e.enterDwelling f).face f).release = (e.face f).release := congrArg FaceBlocks.release own
  refine ⟨by rw [own, same]; rfl, same ▸ marking, fun d hd he hm => same ▸ marked hd he hm,
    (enterDwelling_partner_berth e f).trans partnerBerth, fun hs => ?_, holds.trans (congrArg Blocks.holds blocks),
    aln.trans (congrArg Blocks.aln blocks), gap.trans (congrArg Blocks.gap blocks), tbs.trans (congrArg Blocks.tbs blocks)⟩
  rw [enterDwelling_partnerView e f (by rw [berth]; exact hs), quiet.ms]

/-- The engine's inputs read the tables and of each berth its stop position and its train (R32). -/
theorem alignInput_same {s u : State} {g : Face} (ht : u.tbs = s.tbs)
    (hb : (u.face g).berth.stop = (s.face g).berth.stop ∧
      ((u.face g).berth.train.map fun t => t.direction) = ((s.face g).berth.train.map fun t => t.direction) ∧
      ((u.face g).berth.train.map fun t => t.units) = ((s.face g).berth.train.map fun t => t.units)) :
    u.alignInput g = s.alignInput g := by
  obtain ⟨stop, direction, units⟩ := hb
  rw [alignInput_congr ht direction units, stop]
  rfl

/-- An evacuation opening is no matter for the engine: of the berths it changes the state and the dwell start alone. -/
theorem evacuationOpening_engine (s : State) (f : Face) :
    (s.evacuationOpening f).aln = s.aln ∧ ∀ g, (s.evacuationOpening f).alignInput g = s.alignInput g := by
  have cancelled := cancelDeferral_blocks s f
  have berths (g : Face) : (((s.cancelDeferral f).evacDoors f).face g).berth = (s.face g).berth := by
    rw [applyDoors_berth, cancelDeferral_berth]
  have tables : ((s.cancelDeferral f).evacDoors f).tbs = s.tbs := (applyDoors_tbs _ f _ _).trans (congrArg Blocks.tbs cancelled)
  have engine : ((s.cancelDeferral f).evacDoors f).aln = s.aln := (applyDoors_aln _ f _ _).trans (congrArg Blocks.aln cancelled)
  rw [evacuationOpening_eq]
  generalize (s.cancelDeferral f).evacDoors f = e at *
  obtain ⟨-, aln, -, tbs⟩ := enterDwelling_shared e f
  refine ⟨aln.trans engine, fun g => alignInput_same (tbs.trans tables) ?_⟩
  obtain rfl | rfl := Face.eq_or_partner f g
  · have berth : ((e.enterDwelling g).face g).berth = _ := congrArg FaceBlocks.berth (enterDwelling_own e g)
    rw [berth, berths]
    simp [Berth.dwelled_train, Berth.dwelled_stop]
  · rw [enterDwelling_partner_berth, berths]
    exact ⟨rfl, rfl, rfl⟩

end State

end Sys2Proof.Machine
end

section
/-! PROOFS. The completion of an alignment: its result delivered, and the next waiting request taken (R19, R29, R30, R44, R52). -/

namespace Sys2Proof.Machine

namespace State

/-! ### The findings of a result (R44) -/

theorem raiseFindings_blocks (s : State) (f : Face) (r : AlignResult) : (s.raiseFindings f r).blocks = s.blocks :=
  reported_blocks (raiseFindings_reported s f r)

/-- The flags of a result without its NO_PROFILE. -/
def raiseAlignment (s : State) (f : Face) (r : AlignResult) : State :=
  let s := if r.misaligned then s.raiseFace f .misaligned else s
  if r.partialAlign then s.raiseFace f .partialAlign else s

theorem raiseFindings_eq (s : State) (f : Face) (r : AlignResult) : s.raiseFindings f r =
    if r.noProfile then (s.raiseAlignment f r).activate f .noProfile .noProfile else s.raiseAlignment f r := rfl

theorem raiseAlignment_calm (s : State) (f : Face) (r : AlignResult) : Calm s (s.raiseAlignment f r) :=
  (Calm.opt (raiseFace_calm s f _)).trans (.opt (raiseFace_calm _ f _))

theorem raiseFindings_after (s : State) (f : Face) (r : AlignResult) : Quiet (s.raiseAlignment f r) (s.raiseFindings f r) := by
  rw [raiseFindings_eq]
  split
  · exact activate_quiet _ f _ _
  · exact .refl _

theorem raiseFindings_quiet (s : State) (f : Face) (r : AlignResult) : Quiet s (s.raiseFindings f r) :=
  (raiseAlignment_calm s f r).toQuiet.trans (raiseFindings_after s f r)

/-- The findings of a result on a face: its flags, and NO_PROFILE active (R44). -/
structure Found (f : Face) (r : AlignResult) (u : State) : Prop where
  misaligned : r.misaligned = true → EventKind.misaligned ∈ u.lif.flags.get (.face f)
  partialAlign : r.partialAlign = true → EventKind.partialAlign ∈ u.lif.flags.get (.face f)
  noProfile : r.noProfile = true → (u.face f).proof.active.noProfile = true

theorem Found.calm {f : Face} {r : AlignResult} {u v : State} (h : Found f r u) (k : Calm u v) : Found f r v :=
  ⟨fun x => k.flags _ _ (h.misaligned x), fun x => k.flags _ _ (h.partialAlign x),
    fun x => (k.active f .noProfile (by decide) (by decide)).trans (h.noProfile x)⟩

theorem raiseFindings_found (s : State) (f : Face) (r : AlignResult) : Found f r (s.raiseFindings f r) := by
  have after := raiseFindings_after s f r
  refine ⟨fun h => after.flags _ _ ?_, fun h => after.flags _ _ ?_, fun h => ?_⟩
  · rw [raiseAlignment, if_pos h]
    exact (Calm.opt (raiseFace_calm _ f .partialAlign)).flags _ _ (raise_flag s (.face f) _)
  · unfold raiseAlignment
    dsimp only
    rw [if_pos h]
    exact raise_flag _ (.face f) _
  · obtain ⟨active, -⟩ := activate_active (s.raiseAlignment f r) f .noProfile .noProfile
    rw [raiseFindings_eq, if_pos h]
    exact active

/-! ### A result taken (R19) -/

theorem aligned_quiet (s : State) (f : Face) (r : AlignResult) : Quiet s (s.aligned f r) :=
  ((modBerth_calm s f _).toQuiet.trans (raiseFindings_quiet _ f r)).trans (emptySet_calm _ f).toQuiet

theorem aligned_found (s : State) (f : Face) (r : AlignResult) : Found f r (s.aligned f r) :=
  (raiseFindings_found _ f r).calm (emptySet_calm _ f)

theorem aligned_blocks (s : State) (f : Face) (r : AlignResult) : (s.aligned f r).blocks = s.blocks.modFace f fun b =>
    { b with
      doors := b.doors.map fun d => ({ d with enabled := r.enable.contains d.number } : Door).dropOpen
      berth := b.berth.aligned r } := by
  rw [aligned, dropOpens_blocks, followEnable_blocks, raiseFindings_blocks, modBerth_blocks]
  simp only [Blocks.modFace_modFace, List.map_map]
  rfl

theorem deliverAlignment_refused {s : State} {i : InFlight}
    (h : ¬((s.face i.face).berth.state = .aligning ∧ (s.face i.face).berth.ticket = i.ticket)) : s.deliverAlignment i = s := if_neg h

theorem deliverAlignment_accepted {s : State} {i : InFlight}
    (h : (s.face i.face).berth.state = .aligning ∧ (s.face i.face).berth.ticket = i.ticket) :
    s.deliverAlignment i = s.acceptAlignment i.face (align i.input) := if_pos h

/-- A result taken is no matter for the engine: of the berth it changes what R19 writes, and the train's gap mark. -/
theorem aligned_engine (s : State) (f : Face) (r : AlignResult) :
    (s.aligned f r).aln = s.aln ∧ ∀ g, (s.aligned f r).alignInput g = s.alignInput g := by
  have blocks := aligned_blocks s f r
  refine ⟨congrArg Blocks.aln blocks, fun g => alignInput_same (congrArg Blocks.tbs blocks) ?_⟩
  obtain ⟨berth, -⟩ := face_records_of blocks g
  obtain rfl | rfl := Face.eq_or_partner f g
  · rw [Blocks.get_modFace, blocks_get] at berth
    rw [berth]
    exact ⟨rfl, by simp [Berth.aligned, FaceState.blocks, Function.comp_def], by simp [Berth.aligned, FaceState.blocks, Function.comp_def]⟩
  · rw [Blocks.get_partner_modFace, blocks_get] at berth
    rw [berth]
    exact ⟨rfl, rfl, rfl⟩

theorem acceptAlignment_quiet (s : State) (f : Face) (r : AlignResult) : Quiet s (s.acceptAlignment f r) := by
  rw [acceptAlignment_eq]
  exact (aligned_quiet s f r).trans (Calm.opt (evacuationOpening_calm _ f)).toQuiet

theorem deliverAlignment_quiet (s : State) (i : InFlight) : Quiet s (s.deliverAlignment i) := by
  unfold deliverAlignment
  split
  · exact acceptAlignment_quiet s _ _
  · exact .refl s

/-- A delivery leaves the engine as it was, and its inputs with it. -/
theorem deliverAlignment_engine (s : State) (i : InFlight) :
    (s.deliverAlignment i).aln = s.aln ∧ (s.deliverAlignment i).alignInput = s.alignInput := by
  unfold deliverAlignment
  split
  · obtain ⟨aln, inputs⟩ := aligned_engine s i.face (align i.input)
    rw [acceptAlignment_eq]
    split
    · obtain ⟨aln', inputs'⟩ := evacuationOpening_engine (s.aligned i.face (align i.input)) i.face
      exact ⟨aln'.trans aln, funext fun g => (inputs' g).trans (inputs g)⟩
    · exact ⟨aln, funext inputs⟩
  · exact ⟨rfl, rfl⟩

end State

/-! ### The next request (R29) -/

/-- The engine after a completion: the computation counted, and the waiting request that is next taken with its inputs. -/
def Engine.completed (e : Engine) (f : Face) (bump : Counter → Counter) (input : Face → AlignInput) : Engine :=
  match State.nextWaiting e with
  | none => { e with inflight := none, computations := e.computations.modify f bump }
  | some (g, ticket) =>
    { e with waiting := e.waiting.set g none, inflight := some ⟨g, ticket, input g⟩, computations := e.computations.modify f bump }

namespace State

/-- The computation counted and the engine idle, before a waiting request is taken. -/
def counted (s : State) (f : Face) : State :=
  s.modAln fun e => { e with inflight := none, computations := e.computations.modify f s.bump }

/-- A completion of the computation in flight. -/
theorem completeAlignment_eq {s : State} {i : InFlight} (h : s.aln.inflight = some i) : s.completeAlignment =
    match nextWaiting ((s.deliverAlignment i).counted i.face).aln with
    | none => (s.deliverAlignment i).counted i.face
    | some (f, ticket) => ((s.deliverAlignment i).counted i.face).takeAlignment f ticket := by
  rw [completeAlignment, h]
  rfl

theorem nextWaiting_congr {e e' : Engine} (h : e'.waiting = e.waiting) : nextWaiting e' = nextWaiting e := by
  simp only [nextWaiting, h]

theorem completeAlignment_calm {s : State} {i : InFlight} (h : s.aln.inflight = some i) :
    Calm (s.deliverAlignment i) s.completeAlignment := by
  have counts : Calm (s.deliverAlignment i) ((s.deliverAlignment i).counted i.face) := modAln_calm _ _
  rw [completeAlignment_eq h]
  split
  · exact counts
  · exact counts.trans (modAln_calm _ _)

theorem completeAlignment_lif {s : State} {i : InFlight} (h : s.aln.inflight = some i) :
    s.completeAlignment.lif = (s.deliverAlignment i).lif := by
  rw [completeAlignment_eq h]
  split <;> rfl

theorem completeAlignment_blocks {s : State} {i : InFlight} (h : s.aln.inflight = some i) :
    s.completeAlignment.blocks = { (s.deliverAlignment i).blocks with
      aln := (s.deliverAlignment i).aln.completed i.face (s.deliverAlignment i).bump (s.deliverAlignment i).alignInput } := by
  rw [completeAlignment_eq h,
    nextWaiting_congr (e := (s.deliverAlignment i).aln) (e' := ((s.deliverAlignment i).counted i.face).aln) rfl, Engine.completed]
  cases nextWaiting (s.deliverAlignment i).aln with
  | none => rfl
  | some x => rfl

end State

theorem exec_alignmentComplete {s : State} (h : s.running = true) (t : Micros) :
    exec (.alignmentComplete t) s = .next (s.opened t).completeAlignment.arbitrate := by
  rw [← State.event_running h t State.completeAlignment]; rfl

/-- The engine after a completion by its waiting requests: the one placed earlier is taken, face A's of two placed together (R29). -/
theorem Engine.completed_eq (e : Engine) (f : Face) (bump : Counter → Counter) (input : Face → AlignInput) :
    e.completed f bump input =
      match e.waiting.a, e.waiting.b with
      | none, none => { e with inflight := none, computations := e.computations.modify f bump }
      | some x, none =>
        { e with
          inflight := some ⟨.A, x.ticket, input .A⟩, waiting := ⟨none, none⟩, computations := e.computations.modify f bump }
      | none, some y =>
        { e with
          inflight := some ⟨.B, y.ticket, input .B⟩, waiting := ⟨none, none⟩, computations := e.computations.modify f bump }
      | some x, some y =>
        if y.placedAt < x.placedAt then
          { e with
            inflight := some ⟨.B, y.ticket, input .B⟩, waiting := ⟨some x, none⟩, computations := e.computations.modify f bump }
        else
          { e with
            inflight := some ⟨.A, x.ticket, input .A⟩, waiting := ⟨none, some y⟩
            computations := e.computations.modify f bump } := by
  obtain ⟨inflight, ⟨a, b⟩, computations, withdrawn⟩ := e
  unfold completed State.nextWaiting
  cases a with
  | none => cases b <;> rfl
  | some x =>
    cases b with
    | none => rfl
    | some y =>
      by_cases earlier : y.placedAt < x.placedAt
      · simp only [if_pos earlier]; rfl
      · simp only [if_neg earlier]; rfl

/-- Settles O19: the engine by its waiting requests, and the berth by what the delivery makes of it. -/
theorem completionIsTakenByItsTicket : Obligations.CompletionIsTakenByItsTicket := by
  intro s t i running inflight f r accepted aln'
  obtain ⟨o, ho⟩ : ∃ o, s.opened t = o := ⟨_, rfl⟩
  have flight : o.aln.inflight = some i := by simpa [← ho] using inflight
  have calm := (State.completeAlignment_calm flight).trans (State.arbitrate_calm _)
  have opened : Calm (s.advance t) o := ho ▸ State.opened_calm s t
  have quiet := opened.toQuiet.trans (State.deliverAlignment_quiet o i)
  have engine : (o.deliverAlignment i).aln.completed i.face (o.deliverAlignment i).bump (o.deliverAlignment i).alignInput = aln' := by
    obtain ⟨aln, inputs⟩ := State.deliverAlignment_engine o i
    rw [aln, inputs, quiet.bump, show (s.advance t).bump = s.bump from rfl, ← ho, State.opened_aln,
      funext (State.opened_alignInput s t)]
    exact Engine.completed_eq _ _ _ _
  have blocks := (State.arbitrate_blocks _).trans (State.completeAlignment_blocks flight)
  rw [engine] at blocks
  refine ⟨_, by rw [exec_alignmentComplete running, ho], congrArg Blocks.aln blocks, calm.intake.trans quiet.intake,
    calm.replies.trans quiet.replies, fun refused => ?_, fun taken normal => ?_⟩
  · have undelivered : o.deliverAlignment i = o := State.deliverAlignment_refused (by rw [← ho, State.opened_berth]; exact refused)
    rw [undelivered] at blocks
    refine ⟨by rw [blocks, ← ho, State.opened_blocks], ?_⟩
    rw [State.arbitrate_lif_flags, State.completeAlignment_lif flight, undelivered, ← ho, State.opened_lif_flags]
  · have delivered : o.deliverAlignment i = o.aligned f r := by
      rw [State.deliverAlignment_accepted (by rw [← ho, State.opened_berth]; exact taken), State.acceptAlignment_eq]
      obtain ⟨-, -, -, -, -, release⟩ := State.face_records_of (State.aligned_blocks o f r) f
      refine if_neg ?_
      rw [release, Blocks.get_modFace, State.blocks_get, ← ho]
      simpa [FaceState.blocks] using normal
    rw [delivered] at blocks calm
    have found := (State.aligned_found o f r).calm calm
    refine ⟨?_, found.misaligned, found.partialAlign, found.noProfile⟩
    rw [blocks, State.aligned_blocks, ← ho, State.opened_blocks]
    rfl

end Sys2Proof.Machine
end

section
/-! PROOFS. OPEN_FACE accepted: the openings, the deferral cancelled, the entry to DWELLING and what the partner makes of it (R9, R54, R127,
R129). -/

namespace Sys2Proof.Machine

namespace State

/-! ### The state that a request's block finds -/

@[simp] theorem handed_blocks (s : State) (t : Micros) (rest : List Request) : (s.handed t rest).blocks = s.blocks := by simp [handed]

@[simp] theorem handed_face_blocks (s : State) (t : Micros) (rest : List Request) (f : Face) :
    ((s.handed t rest).face f).blocks = (s.face f).blocks := by rw [face_blocks_of (handed_blocks s t rest), blocks_get]

@[simp] theorem handed_berth (s : State) (t : Micros) (rest : List Request) (f : Face) :
    ((s.handed t rest).face f).berth = (s.face f).berth := congrArg FaceBlocks.berth (handed_face_blocks s t rest f)

@[simp] theorem handed_doors (s : State) (t : Micros) (rest : List Request) (f : Face) :
    ((s.handed t rest).face f).doors = (s.face f).doors := congrArg FaceBlocks.doors (handed_face_blocks s t rest f)

@[simp] theorem handed_deferral (s : State) (t : Micros) (rest : List Request) (f : Face) :
    ((s.handed t rest).face f).deferral = (s.face f).deferral := congrArg FaceBlocks.deferral (handed_face_blocks s t rest f)

@[simp] theorem handed_release (s : State) (t : Micros) (rest : List Request) (f : Face) :
    ((s.handed t rest).face f).release = (s.face f).release := congrArg FaceBlocks.release (handed_face_blocks s t rest f)

@[simp] theorem handed_holdClosed (s : State) (t : Micros) (rest : List Request) (f : Face) :
    ((s.handed t rest).face f).proof.holdClosed = (s.face f).proof.holdClosed := by simp [handed]

@[simp] theorem handed_configured (s : State) (t : Micros) (rest : List Request) (f : Face) :
    (s.handed t rest).configured f = s.configured f := by simp [handed, configured, params?, tables?]

/-- A request's block works in the context that the command's time gives. -/
@[simp] theorem handed_doorContext (s : State) (t : Micros) (rest : List Request) (f : Face) (n : Nat) :
    (s.handed t rest).doorContext f n = (s.advance t).doorContext f n :=
  (show (s.handed t rest).doorContext f n = (s.opened t).doorContext f n from rfl).trans
    (doorContext_of_blocks f n (opened_calm s t).toQuiet (by simp))

/-- What a request's block leaves alone is what the command found, but for the reply of the request. -/
theorem answered_done {s v : State} {t : Micros} {r : Request} {rest : List Request} (h : Quiet (s.handed t rest) v) :
    Answered s (v.done r).arbitrate r rest .done [] := by
  have quiet := (arbitrate_calm (v.done r)).toQuiet
  have replies : (v.done r).lif.replies = v.lif.replies ++ [replyTo r .done []] := rfl
  refine ⟨?_, ?_⟩
  · rw [quiet.intake, show (v.done r).lif.intake = v.lif.intake from rfl, h.intake]; rfl
  · rw [quiet.replies, replies, h.replies]; simp [handed]

@[simp] theorem done_blocks (s : State) (r : Request) : (s.done r).blocks = s.blocks := rfl

theorem done_calm (s : State) (r : Request) : ∀ c k, k ∈ s.lif.flags.get c → k ∈ (s.done r).arbitrate.lif.flags.get c :=
  (arbitrate_calm (s.done r)).flags

/-! ### OPEN_FACE -/

/-- The rules that an accepted OPEN_FACE has passed (R54). -/
theorem takeOpenFace_accepted {s : State} {r : Request} {f : Face} (hf : r.face? = some f) (hb : r.body = [])
    (hc : s.configured f = true) (hs : (s.face f).berth.state = .stopped ∨ (s.face f).berth.state = .dwelling)
    (he : (s.face f).berth.enable ≠ []) (hr : (s.face f).release.state = .normal ∨ (s.face f).release.state = .released)
    (hh : (s.face f).proof.holdClosed.nonempty = false) : s.takeOpenFace r = (s.acceptOpenFace f).done r := by
  have allowed : s.openFaceRefusal f = none := by
    rcases hs with hs | hs <;> rcases hr with hr | hr <;> simp [openFaceRefusal, openRefusal, hs, he, hr, hh]
  simp [takeOpenFace, withConfigured, withFace, withNoFields, hf, hb, hc, allowed]

theorem acceptOpenFace_calm (s : State) (f : Face) : Calm (s.cancelDeferral f) (s.acceptOpenFace f) :=
  (applyDoors_calm _ f _ _).trans (enterDwelling_calm _ f)

/-- The doors of a face that is opened, once a deferral has been cancelled. -/
theorem openedDoors_blocks {s : State} {f : Face} (hn : DistinctDoors (s.face f)) :
    ((s.cancelDeferral f).openDoors f).blocks = s.blocks.modFace f fun b => { b.cancelled s.ms with
      doors := b.doors.map fun d => if d.openable then d.startOpen (s.doorContext f d.number) .routine else d } := by
  have blocks := cancelDeferral_blocks s f
  obtain ⟨-, doors, -, -, -, release⟩ := face_records_of blocks f
  rw [Blocks.get_modFace, blocks_get] at doors release
  have context (n : Nat) : (s.cancelDeferral f).doorContext f n = s.doorContext f n :=
    doorContext_eq f n (cancelDeferral_calm s f).toQuiet (congrArg Blocks.tbs blocks) (congrArg Blocks.gap blocks)
      (congrArg Release.state release)
  rw [openDoors_blocks _ f (hn.of_doors doors)]
  simp only [blocks, context, Blocks.modFace_modFace]
  rfl

end State

/-- A face's blocks once its partner has entered DWELLING at a time: its view follows, a deferral in progress has seen its partner
dwell and starts the partner dwell timer, or ends at once with its held close where T is 0 (R127). -/
def FaceBlocks.partnerDwells (now : Millis) (ctx : Nat → DoorContext) (b : FaceBlocks) : FaceBlocks :=
  match b.deferral.used with
  | none => { b with deferral := { b.deferral with partnerView := .dwelling now } }
  | some y =>
    if y.entry.minDwell = 0 then
      { b with
        deferral := { b.deferral with partnerView := .dwelling now }.ended .partnerDwell now
        doors := b.doors.map fun d => if d.closable then (d.startClose (ctx d.number) .routine).door else d }
    else
      { b with deferral := { b.deferral with
          partnerView := .dwelling now, partnerSeen := true, partnerTimer := some (now + y.entry.minDwell) } }

theorem FaceBlocks.partnerDwells_view (now : Millis) (ctx : Nat → DoorContext) (b : FaceBlocks) :
    (b.partnerDwells now ctx).deferral.partnerView = .dwelling now := by
  unfold partnerDwells
  split
  · rfl
  · split <;> rfl

namespace State

theorem enterDwelling_blocks {s : State} {f : Face} (hn : DistinctDoors (s.face f.partner)) (hs : (s.face f).berth.state = .stopped) :
    (s.enterDwelling f).blocks = (s.blocks.modFace f fun b =>
        { b with berth := { b.berth with state := .dwelling, dwellStart := some s.ms } }).modFace f.partner
      (FaceBlocks.partnerDwells s.ms (s.doorContext f.partner)) := by
  rw [enterDwelling, if_pos hs]
  generalize hv : s.modBerth f _ = v
  have blocks : v.blocks = _ := hv ▸ modBerth_blocks s f _
  obtain ⟨-, doors, -, -, -, release⟩ := face_records_of blocks f.partner
  rw [Blocks.get_partner_modFace, blocks_get] at doors release
  have quiet : Quiet s v := hv ▸ (modBerth_calm s f _).toQuiet
  have context (n : Nat) : v.doorContext f.partner n = s.doorContext f.partner n :=
    doorContext_eq f.partner n quiet (congrArg Blocks.tbs blocks) (congrArg Blocks.gap blocks) (congrArg Release.state release)
  have seen := partnerEnters_blocks v f.partner (hn.of_doors doors)
  simp only [context] at seen
  rw [quiet.ms] at seen
  rw [seen, blocks]
  rfl

/-- An accepted OPEN_FACE: the face's own openings, and what the partner makes of an entry to DWELLING. -/
theorem acceptOpenFace_blocks {s : State} {f : Face} (hn : ∀ g, DistinctDoors (s.face g)) :
    (s.acceptOpenFace f).blocks = (s.blocks.modFace f fun b => { b.cancelled s.ms with
        berth := b.berth.dwelled s.ms
        doors := b.doors.map fun d => if d.openable then d.startOpen (s.doorContext f d.number) .routine else d }).modFace f.partner
      fun b => if (s.face f).berth.state = .stopped then b.partnerDwells s.ms (s.doorContext f.partner) else b := by
  have blocks := openedDoors_blocks (hn f)
  have quiet : Quiet s ((s.cancelDeferral f).openDoors f) := ((cancelDeferral_calm s f).trans (applyDoors_calm _ f _ _)).toQuiet
  unfold acceptOpenFace
  generalize (s.cancelDeferral f).openDoors f = w at *
  obtain ⟨berth, -⟩ := face_records_of blocks f
  obtain ⟨-, doors, -, -, -, release⟩ := face_records_of blocks f.partner
  rw [Blocks.get_modFace, blocks_get] at berth
  rw [Blocks.get_partner_modFace, blocks_get] at doors release
  have context (n : Nat) : w.doorContext f.partner n = s.doorContext f.partner n :=
    doorContext_eq f.partner n quiet (congrArg Blocks.tbs blocks) (congrArg Blocks.gap blocks) (congrArg Release.state release)
  by_cases hs : (s.face f).berth.state = .stopped
  · rw [enterDwelling_blocks ((hn f.partner).of_doors doors) (by rw [berth]; exact hs), blocks, funext context, quiet.ms,
      Blocks.modFace_modFace]
    simp only [if_pos hs]
    refine congrArg (fun b : Blocks => b.modFace f.partner _) (Blocks.modFace_congr ?_)
    simp [FaceBlocks.cancelled, FaceState.blocks, Berth.dwelled, hs]
  · have stay : w.enterDwelling f = w := if_neg (by rw [berth]; exact hs)
    rw [stay, blocks]
    simp only [if_neg hs]
    rw [Blocks.modFace_same (f := f.partner) rfl]
    refine Blocks.modFace_congr ?_
    simp [FaceBlocks.cancelled, FaceState.blocks, Berth.dwelled, hs]

end State

/-- A berth that a face's doors open under dwells from then on. -/
theorem Berth.dwelled_of_open {b : Berth} {now : Millis} (h : b.state = .stopped ∨ b.state = .dwelling) :
    b.dwelled now = { b with state := .dwelling, dwellStart := if b.state = .stopped then some now else b.dwellStart } := by
  obtain ⟨state⟩ := b
  rcases h with rfl | rfl <;> rfl

theorem Door.openable_iff (d : Door) :
    d.openable = true ↔ d.enabled = true ∧ d.latched = false ∧ (d.state = .closed ∨ d.state = .closing) := by
  simp only [openable, Bool.and_eq_true, Bool.or_eq_true, Bool.not_eq_true', decide_eq_true_eq, and_assoc]

/-- Settles O21: the openings on the face itself, and the entry to DWELLING as the partner sees it. -/
theorem openFaceOpensTheEnabledDoors : Obligations.OpenFaceOpensTheEnabledDoors := by
  intro s t r rest f ordered takes hf hb hc hs he hr hh now
  obtain ⟨a, ha⟩ : ∃ a, s.handed t rest = a := ⟨_, rfl⟩
  have accepted : a.takeOpenFace r = (a.acceptOpenFace f).done r := by
    subst ha
    exact State.takeOpenFace_accepted hf hb (by simpa using hc) (by simpa using hs) (by simpa using he) (by simpa using hr)
      (by simpa using hh)
  have distinct (g : Face) : State.DistinctDoors (a.face g) := (State.DistinctDoors.of_ordered ordered g).of_doors (by simp [← ha])
  have quiet := (State.cancelDeferral_calm a f).trans (State.acceptOpenFace_calm a f)
  have blocks : ((a.acceptOpenFace f).done r).arbitrate.blocks = _ :=
    (State.arbitrate_blocks _).trans (State.acceptOpenFace_blocks distinct)
  have ms : a.ms = now := by simp [← ha, now]
  have berth : (a.face f).berth = (s.face f).berth := by simp [← ha]
  have context (g : Face) (n : Nat) : a.doorContext g n = (s.advance t).doorContext g n := by simp [← ha]
  simp only [ms, berth, context, funext (context f.partner), show a.blocks = s.blocks by simp [← ha]] at blocks
  obtain ⟨-, -, deferral, -⟩ := State.face_records_of blocks f
  obtain ⟨-, -, partner, -⟩ := State.face_records_of blocks f.partner
  rw [Blocks.get_modFace_partner, Blocks.get_modFace, State.blocks_get] at deferral
  rw [Blocks.get_modFace, Blocks.get_partner_modFace, State.blocks_get] at partner
  have found : Quiet (s.handed t rest) (a.acceptOpenFace f) := by
    rw [ha]
    exact quiet.toQuiet
  refine ⟨((a.acceptOpenFace f).done r).arbitrate, ?_, State.answered_done found, ?_, fun used => ?_, fun unused => ?_,
    fun used => ?_, fun stays => ?_, ?_, ?_⟩
  · rw [← accepted, ← ha]
    exact exec_of_takes rfl takes
  · rw [deferral]
    exact FaceBlocks.cancelled_used _ _
  · have flag := State.cancelDeferral_flag (s := a) (f := f) (by simpa [← ha, Option.isSome_iff_ne_none] using used)
    exact State.done_calm _ r _ _ ((State.acceptOpenFace_calm a f).flags _ _ flag)
  · rw [deferral]
    exact if_neg (by simp [FaceState.blocks, unused])
  · rw [deferral]
    exact if_pos (Option.isSome_iff_ne_none.2 used)
  · rw [partner, if_neg stays]
    rfl
  · rw [partner]
    split
    · exact FaceBlocks.partnerDwells_view _ _ _
    · rfl
  · rw [deferral, blocks]
    refine congrArg (fun b : Blocks => b.modFace f.partner _) (Blocks.modFace_congr ?_)
    simp only [State.blocks_get]
    rw [show (s.face f).blocks.berth = (s.face f).berth from rfl, Berth.dwelled_of_open hs]
    simp only [Door.openable_iff]
    rfl

end Sys2Proof.Machine
end

section
/-! PROOFS. Evacuation: its beginning by EVACUATE and by the evacuation input, and a train that stops while it is in force (R73, R74, R129,
R137 to R140). -/

namespace Sys2Proof.Machine

/-- The context of a door's rules in a state that differs in the release state alone: it says whether evacuation is in force. -/
theorem State.doorContext_evacuating {s u : State} (f : Face) (n : Nat) (hq : Quiet s u) (ht : u.tbs = s.tbs) (hg : u.gap = s.gap)
    (hr : (u.face f).release.state = .evacuating) :
    u.doorContext f n = { s.doorContext f n with evacuating := true } := by
  simp only [doorContext, params?, tables?, hq.ms, hq.clearing, ht, hg, hr, decide_true]

/-! ### Its beginning (R137, R138) -/

namespace State

/-- The release state EVACUATING with its flag, before the face is opened or closed. -/
def evacuating (s : State) (f : Face) : State := (s.setRelease f .evacuating).raiseFace f .evacuationStart

theorem beginEvacuation_eq (s : State) (f : Face) : s.beginEvacuation f =
    if ((s.evacuating f).face f).berth.state = .stopped ∨ ((s.evacuating f).face f).berth.state = .dwelling then
      (s.evacuating f).evacuationOpening f
    else (s.evacuating f).departureClose f := rfl

theorem evacuating_blocks (s : State) (f : Face) : (s.evacuating f).blocks = s.blocks.modFace f fun b =>
    { b with release := { b.release with state := .evacuating } } := by
  rw [evacuating, raiseFace_blocks, setRelease_blocks]

theorem evacuating_records (s : State) (f : Face) :
    ((s.evacuating f).face f).berth = (s.face f).berth ∧ ((s.evacuating f).face f).doors = (s.face f).doors ∧
      ((s.evacuating f).face f).deferral = (s.face f).deferral ∧ ((s.evacuating f).face f).line = (s.face f).line ∧
      ((s.evacuating f).face f).release = { (s.face f).release with state := .evacuating } := by
  obtain ⟨berth, doors, deferral, -, line, release⟩ := face_records_of (evacuating_blocks s f) f
  rw [Blocks.get_modFace, blocks_get] at berth doors deferral line release
  exact ⟨berth, doors, deferral, line, release⟩

theorem evacuating_calm (s : State) (f : Face) : Calm s (s.evacuating f) :=
  (setRelease_calm s f _).trans (raiseFace_calm _ f _)

theorem beginEvacuation_calm (s : State) (f : Face) : Calm (s.evacuating f) (s.beginEvacuation f) := by
  rw [beginEvacuation_eq]
  exact .ite (evacuationOpening_calm _ f) (applyDoors_calm _ f _ _)

theorem beginEvacuation_flag (s : State) (f : Face) : .evacuationStart ∈ (s.beginEvacuation f).lif.flags.get (.face f) :=
  (beginEvacuation_calm s f).flags _ _ (raise_flag _ (.face f) _)

end State

/-- What the beginning of an evacuation on a face makes of the part, from the state in which it begins (R74, R137, R139). -/
structure Begun (f : Face) (s u : State) : Prop where
  state : (u.face f).release = { (s.face f).release with state := .evacuating, set := (u.face f).release.set }
  opened : (s.face f).berth.state = .stopped ∨ (s.face f).berth.state = .dwelling →
    (u.face f).berth = { (s.face f).berth with
      state := .dwelling
      dwellStart := if (s.face f).berth.state = .stopped then some s.ms else (s.face f).berth.dwellStart } ∧
    (u.face f).deferral = (if (s.face f).deferral.used.isSome then (s.face f).deferral.ended .cancelled s.ms
      else (s.face f).deferral) ∧
    (u.face f).doors = ((s.face f).doors.map fun d =>
      if d.evacuable then (d.evacuationOpen { s.doorContext f d.number with evacuating := true }).door else d) ∧
    ∀ d ∈ (s.face f).doors, d.evacuable = true → d.Movable → Marked d.number (u.face f).release.set
  closed : (s.face f).berth.state ≠ .stopped → (s.face f).berth.state ≠ .dwelling →
    (u.face f).berth = (s.face f).berth ∧ (u.face f).release.set = (s.face f).release.set ∧
    (u.face f).doors = (s.face f).doors.map fun d =>
      if d.departing then (d.departureClose { s.doorContext f d.number with evacuating := true }).door else d
  line : (u.face f).line = (s.face f).line
  holds : u.holds = s.holds
  aln : u.aln = s.aln
  gap : u.gap = s.gap
  tbs : u.tbs = s.tbs

namespace State

theorem beginEvacuation_begun {s : State} {f : Face} (hn : DistinctDoors (s.face f)) : Begun f s (s.beginEvacuation f) := by
  have blocks := evacuating_blocks s f
  have quiet := (evacuating_calm s f).toQuiet
  obtain ⟨berth, doors, deferral, line, release⟩ := evacuating_records s f
  rw [beginEvacuation_eq]
  generalize s.evacuating f = e at *
  have tables : e.tbs = s.tbs := congrArg Blocks.tbs blocks
  have zones : e.gap = s.gap := congrArg Blocks.gap blocks
  have context (n : Nat) : e.doorContext f n = { s.doorContext f n with evacuating := true } :=
    doorContext_evacuating f n quiet tables zones (congrArg Release.state release)
  have distinct : DistinctDoors (e.face f) := hn.of_doors doors
  split
  next stands =>
    have evacuated := evacuationOpening_evacuated distinct
    have marked := evacuated.marked
    rw [doors] at marked
    refine ⟨by rw [evacuated.release, release], fun hs => ⟨?_, ?_, ?_, marked⟩, fun hs hd => ?_, evacuated.line.trans line,
      evacuated.holds.trans (congrArg Blocks.holds blocks), evacuated.aln.trans (congrArg Blocks.aln blocks),
      evacuated.gap.trans zones, evacuated.tbs.trans tables⟩
    · rw [evacuated.berth, quiet.ms, berth]
      exact Berth.dwelled_of_open hs
    · rw [evacuated.deferral, quiet.ms, deferral]
    · simp only [evacuated.doors, doors, context]
    · exact absurd stands (by rw [berth]; exact fun x => x.elim hs hd)
  next shut =>
    have closed := departureClose_blocks e f distinct
    obtain ⟨holds', aln', gap', tbs'⟩ := (Local.of_blocks closed).shared
    obtain ⟨berth', doors', -, -, line', release'⟩ := face_records_of closed f
    rw [Blocks.get_modFace, blocks_get] at berth' doors' line' release'
    have same : ((e.departureClose f).face f).release = { (s.face f).release with state := .evacuating } := release'.trans release
    refine ⟨by rw [same], fun hs => absurd (by rw [berth]; exact hs) shut,
      fun hs hd => ⟨berth'.trans berth, by rw [same], ?_⟩, line'.trans line, holds'.trans (congrArg Blocks.holds blocks),
      aln'.trans (congrArg Blocks.aln blocks), gap'.trans zones, tbs'.trans tables⟩
    rw [doors']
    simp only [FaceState.blocks, doors, context]

/-- A deferral in progress is ended by the opening, and its flag raised (R129). -/
theorem beginEvacuation_holdEnded {s : State} {f : Face} (hs : (s.face f).berth.state = .stopped ∨ (s.face f).berth.state = .dwelling)
    (hu : (s.face f).deferral.used ≠ none) : .holdEnded ∈ (s.beginEvacuation f).lif.flags.get (.face f) := by
  obtain ⟨berth, -, deferral, -⟩ := evacuating_records s f
  rw [beginEvacuation_eq, if_pos (by rw [berth]; exact hs)]
  have flag := cancelDeferral_flag (s := s.evacuating f) (f := f) (by rw [deferral]; exact hu)
  exact ((applyDoors_calm _ f _ _).trans (enterDwelling_calm _ f)).flags _ _ flag

end State

/-- What an evacuation finds of a face where a command at a time begins it: the release record has taken the latch or the input, and the
rest is as before the command. -/
structure Beginning (s : State) (t : Micros) (f : Face) (a : State) : Prop where
  berth : (a.face f).berth = (s.face f).berth
  doors : (a.face f).doors = (s.face f).doors
  deferral : (a.face f).deferral = (s.face f).deferral
  line : (a.face f).line = (s.face f).line
  holds : a.holds = s.holds
  aln : a.aln = s.aln
  gap : a.gap = s.gap
  tbs : a.tbs = s.tbs
  ms : a.ms = (s.advance t).ms
  context : ∀ n, { a.doorContext f n with evacuating := true } = { (s.advance t).doorContext f n with evacuating := true }

/-- The latch and the input are no matter for berths, doors and their contexts. -/
theorem Beginning.of_blocks {s x : State} {t : Micros} {f : Face} (hb : x.blocks = s.blocks) (hm : x.ms = (s.advance t).ms)
    (hc : ∀ n, x.doorContext f n = (s.advance t).doorContext f n) (g : Release → Release) : Beginning s t f (x.modRelease f g) := by
  obtain ⟨berth, doors, deferral, -, line, -⟩ := State.face_records_of hb f
  rw [State.blocks_get] at berth doors deferral line
  refine ⟨(State.modRelease_berth x f f g).trans berth, (State.modRelease_doors x f f g).trans doors,
    (State.modRelease_deferral x f f g).trans deferral, (State.modRelease_line x f f g).trans line, congrArg Blocks.holds hb,
    congrArg Blocks.aln hb, congrArg Blocks.gap hb, congrArg Blocks.tbs hb, hm, fun n => ?_⟩
  rw [← hc n]
  rfl

theorem exec_evacInputChange {s : State} (h : s.running = true) (t : Micros) (f : Face) (level : Level) :
    exec (.evacInputChange t f level) s =
      .next (((s.opened t).modRelease f fun x => { x with input := level }).testEvacuation f).arbitrate := by
  rw [← State.event_running h t fun s => (s.modRelease f fun x => { x with input := level }).testEvacuation f]; rfl

theorem exec_evacuate {s : State} {r : Request} {rest : List Request} (h : Takes s r rest (some .evacuate)) (t : Micros) :
    exec (.evacuate t) s = .next ((s.handed t rest).takeEvacuate r).arbitrate := exec_of_takes rfl h

namespace State

/-- The evacuation latch set by an EVACUATE (R138). -/
def evacLatched (s : State) (f : Face) : State := s.modRelease f fun x => { x with latch := true }

theorem testEvacuation_begins {s : State} {f : Face} (hi : (s.face f).release.input = .asserted) (hc : s.configured f = true)
    (hr : (s.face f).release.state ≠ .evacuating) : s.testEvacuation f = s.beginEvacuation f := if_pos ⟨hi, hc, hr⟩

theorem takeEvacuate_begins {s : State} {r : Request} {f : Face} (hf : r.face? = some f) (hb : r.body = [])
    (hc : s.configured f = true) (hr : (s.face f).release.state ≠ .evacuating) :
    s.takeEvacuate r = ((s.evacLatched f).beginEvacuation f).done r := by
  simp [evacLatched, takeEvacuate, withFace, withNoFields, hf, hb, hc, hr]

theorem takeEvacuate_again {s : State} {r : Request} {f : Face} (hf : r.face? = some f) (hb : r.body = [])
    (hc : s.configured f = true) (hr : (s.face f).release.state = .evacuating) :
    s.takeEvacuate r = (s.evacLatched f).done r := by
  simp [evacLatched, takeEvacuate, withFace, withNoFields, hf, hb, hc, hr]

theorem takeEvacuate_unconfigured {s : State} {r : Request} {f : Face} (hf : r.face? = some f) (hb : r.body = [])
    (hc : s.configured f = false) : s.takeEvacuate r = s.refuse r .notConfigured := by
  simp [takeEvacuate, withFace, withNoFields, hf, hb, hc]

end State

/-- Either command brings a face to the beginning of an evacuation, with the latch or the input in its release record (R137, R138). -/
theorem evacuation_step {s : State} {t : Micros} {f : Face} {c : Instr} (hc : s.configured f = true)
    (hr : (s.face f).release.state ≠ .evacuating)
    (command : c = .evacInputChange t f .asserted ∧ s.running = true ∨
      c = .evacuate t ∧ ∃ r rest, Takes s r rest (some .evacuate) ∧ r.face? = some f ∧ r.body = []) :
    ∃ a u, exec c s = .next u ∧
      (∀ r rest, c = .evacuate t → s.lif.intake = r :: rest → Answered s u r rest .done []) ∧ Beginning s t f a ∧
      (a.face f).release = { (s.face f).release with
        latch := (s.face f).release.latch || decide (c = .evacuate t)
        input := if c = .evacuate t then (s.face f).release.input else .asserted } ∧
      u.blocks = (a.beginEvacuation f).blocks ∧
      ∀ k ∈ (a.beginEvacuation f).lif.flags.get (.face f), k ∈ u.lif.flags.get (.face f) := by
  rcases command with ⟨rfl, running⟩ | ⟨rfl, r, rest, takes, hf, hb⟩
  · have begins := State.testEvacuation_begins (s := (s.opened t).modRelease f fun x => { x with input := .asserted }) (f := f)
      (by simp) (by simpa [State.configured, State.params?, State.tables?] using hc) (by simpa using hr)
    refine ⟨(s.opened t).modRelease f fun x => { x with input := .asserted }, _, by rw [exec_evacInputChange running, begins], fun _ _ hne => absurd hne (by simp),
      .of_blocks (by simp) (State.opened_calm s t).ms
        (fun n => State.doorContext_of_blocks f n (State.opened_calm s t).toQuiet (by simp)) _, by simp, State.arbitrate_blocks _,
      (State.arbitrate_calm _).flags _⟩
  · have begins := State.takeEvacuate_begins (s := s.handed t rest) hf hb (by simpa using hc) (by simpa using hr)
    have quiet := (State.modRelease_calm (s.handed t rest) f fun x => { x with latch := true }).trans
      ((State.evacuating_calm _ f).trans (State.beginEvacuation_calm _ f))
    refine ⟨(s.handed t rest).evacLatched f, ((((s.handed t rest).evacLatched f).beginEvacuation f).done r).arbitrate, by rw [exec_evacuate takes, begins], fun r' rest' _ hi => ?_,
      .of_blocks (by simp) (by simp) (by simp) _, by simp [State.evacLatched],
      State.arbitrate_blocks _, State.done_calm _ r _⟩
    obtain ⟨-, intake, -⟩ := takes
    obtain ⟨rfl, rfl⟩ := List.cons_eq_cons.1 (intake.symm.trans hi)
    exact State.answered_done quiet.toQuiet

theorem Door.evacuable_iff (d : Door) :
    d.evacuable = true ↔ d.enabled = true ∧ d.latched = false ∧ d.isolation = .none ∧ d.state ≠ .lost := by
  simp only [evacuable, Bool.and_eq_true, Bool.not_eq_true', decide_eq_true_eq, and_assoc]

theorem Door.evacuable.movable {d : Door} (h : d.evacuable = true) (hr : d.state ≠ .released) (hi : d.state ≠ .isolated) : d.Movable := by
  obtain ⟨-, -, -, hl⟩ := d.evacuable_iff.1 h
  exact ⟨hr, hi, hl⟩

theorem Begun.of_blocks {f : Face} {s u z : State} (h : Begun f s u) (hz : z.blocks = u.blocks) : Begun f s z := by
  obtain ⟨berth, doors, deferral, -, line, release⟩ := State.face_records_of hz f
  simp only [State.blocks_get, FaceState.blocks] at berth doors deferral line release
  refine ⟨?_, ?_, ?_, line.trans h.line, (congrArg Blocks.holds hz).trans h.holds, (congrArg Blocks.aln hz).trans h.aln,
    (congrArg Blocks.gap hz).trans h.gap, (congrArg Blocks.tbs hz).trans h.tbs⟩
  · rw [release]; exact h.state
  · rw [berth, deferral, doors, release]; exact h.opened
  · rw [berth, doors, release]; exact h.closed

/-- Settles O28: the step to the beginning, what the beginning makes of the face, and the opening's cases by door state. -/
theorem evacuationBegins : Obligations.EvacuationBegins := by
  refine ⟨?_, fun d ctx => ⟨d.evacuable_iff, ?_, ?_, ?_⟩⟩
  · intro s t f c ordered hc hr command ctx
    obtain ⟨a, u, hx, answered, before, release, blocks, flags⟩ := evacuation_step hc hr command
    have distinct : State.DistinctDoors (a.face f) := (State.DistinctDoors.of_ordered ordered f).of_doors before.doors
    have begun := (State.beginEvacuation_begun distinct).of_blocks blocks
    refine ⟨u, hx, answered, ?_, ?_, ?_, ?_, flags _ (State.beginEvacuation_flag a f), fun stands => ?_, fun hs hd => ?_,
      begun.line.trans before.line, begun.holds.trans before.holds, begun.aln.trans before.aln, begun.gap.trans before.gap,
      begun.tbs.trans before.tbs⟩
    · rw [begun.state]
    · rw [begun.state, release]
    · rw [begun.state, release]
    · rw [begun.state, release]
    · obtain ⟨berth, deferral, doors, marked⟩ := begun.opened (by rw [before.berth]; exact stands)
      rw [before.deferral, before.ms] at deferral
      refine ⟨by rw [berth, before.berth, before.ms], ?_, fun used => ⟨?_, flags _ ?_⟩, ?_, fun d hd he hr hi => ?_⟩
      · rw [deferral]
        exact FaceBlocks.cancelled_used (s.advance t).ms (s.face f).blocks
      · rw [deferral, if_pos (Option.isSome_iff_ne_none.2 used)]
      · exact State.beginEvacuation_holdEnded (by rw [before.berth]; exact stands) (by rw [before.deferral]; exact used)
      · rw [doors, before.doors]
        simp only [before.context, ctx]
      · exact marked d (by rw [before.doors]; exact hd) he (Door.evacuable.movable he hr hi)
    · obtain ⟨berth, set, doors⟩ := begun.closed (by rw [before.berth]; exact hs) (by rw [before.berth]; exact hd)
      refine ⟨berth.trans before.berth, by rw [set, release], ?_⟩
      rw [doors, before.doors]
      simp only [before.context, ctx]
  · rintro (h | h | h | h | h) <;> simp [Door.evacuationOpen, h, Door.startOpen, Door.goTo]
  · rintro (h | h) <;> simp [Door.evacuationOpen, h]
  · intro h
    refine ⟨fun ⟨e, he⟩ => by simp [Door.evacuationOpen, h, he, Door.goTo], fun no => ?_⟩
    have other : d.timer.map (fun t => t.kind) ≠ some .recycleDwell := by
      rintro timer
      obtain ⟨⟨kind, e⟩, ht, rfl⟩ := Option.map_eq_some_iff.1 timer
      exact no e ht
    simp only [Door.evacuationOpen, h, if_neg other]

end Sys2Proof.Machine
end

section
/-! PROOFS. Evacuation in force: what begins nothing more, and the train that stops under it (R137, R138, R140). -/

namespace Sys2Proof.Machine

namespace State

theorem testEvacuation_nothing {s : State} {f : Face}
    (h : s.configured f = false ∨ (s.face f).release.state = .evacuating ∨ (s.face f).release.input = .deasserted) :
    s.testEvacuation f = s := by
  refine if_neg fun ⟨input, configured, state⟩ => ?_
  rcases h with h | h | h
  · simp [h] at configured
  · exact state h
  · simp [h] at input

/-! ### A train that stops (R140) -/

theorem aligned_records (s : State) (f : Face) (r : AlignResult) :
    ((s.aligned f r).face f).berth = (s.face f).berth.aligned r ∧
      ((s.aligned f r).face f).doors =
        (s.face f).doors.map (fun d => (d.follow r.enable).dropOpen) ∧
      ((s.aligned f r).face f).deferral = (s.face f).deferral ∧ ((s.aligned f r).face f).line = (s.face f).line ∧
      ((s.aligned f r).face f).release = (s.face f).release := by
  obtain ⟨berth, doors, deferral, -, line, release⟩ := face_records_of (aligned_blocks s f r) f
  rw [Blocks.get_modFace, blocks_get] at berth doors deferral line release
  exact ⟨berth, doors, deferral, line, release⟩

/-- The doors keep their numbers when they follow an enable set. -/
theorem following_number (d : Door) (enable : List Nat) : (d.follow enable).dropOpen.number = d.number := by
  unfold Door.dropOpen
  split <;> rfl

theorem aligned_distinct {s : State} {f : Face} (r : AlignResult) (hn : DistinctDoors (s.face f)) :
    DistinctDoors ((s.aligned f r).face f) := by
  obtain ⟨-, doors, -⟩ := aligned_records s f r
  have numbers : (fun d : Door => d.number) ∘ (fun d : Door => (d.follow r.enable).dropOpen) = fun d => d.number :=
    funext fun d => following_number d r.enable
  unfold DistinctDoors
  rw [doors, List.map_map, numbers]
  exact hn

theorem aligned_doorContext (s : State) (f : Face) (r : AlignResult) (n : Nat) :
    (s.aligned f r).doorContext f n = s.doorContext f n := by
  have blocks := aligned_blocks s f r
  obtain ⟨-, -, -, -, release⟩ := aligned_records s f r
  exact doorContext_eq f n (aligned_quiet s f r) (congrArg Blocks.tbs blocks) (congrArg Blocks.gap blocks)
    (congrArg Release.state release)

theorem acceptAlignment_evacuating {s : State} {f : Face} (r : AlignResult) (hr : (s.face f).release.state = .evacuating) :
    s.acceptAlignment f r = (s.aligned f r).evacuationOpening f := by
  obtain ⟨-, -, -, -, release⟩ := aligned_records s f r
  rw [acceptAlignment_eq, if_pos (by rw [release]; exact hr)]

theorem acceptAlignment_evacuated {s : State} {f : Face} (r : AlignResult) (hn : DistinctDoors (s.face f))
    (hr : (s.face f).release.state = .evacuating) : Evacuated f (s.aligned f r) (s.acceptAlignment f r) := by
  rw [acceptAlignment_evacuating r hr]
  exact evacuationOpening_evacuated (aligned_distinct r hn)

end State

theorem Engine.completed_computations (e : Engine) (f : Face) (bump : Counter → Counter) (input : Face → AlignInput) :
    (e.completed f bump input).computations = e.computations.modify f bump := by
  unfold completed
  split <;> rfl

/-- A door that the opening takes once it follows the set, by what it was before. -/
theorem Door.evacuable_following {d : Door} {enable : List Nat} (he : enable.contains d.number = true) (hl : d.latched = false)
    (hi : d.isolation = .none) (hs : d.state ≠ .lost) :
    (d.follow enable).dropOpen = d.follow enable ∧ (d.follow enable).evacuable = true :=
  ⟨if_neg fun ⟨_, out⟩ => out he, (d.follow enable).evacuable_iff.2 ⟨he, hl, hi, hs⟩⟩

/-- What an alignment result makes of a face that takes it under evacuation, from the state in which it is delivered: the set taken,
the doors that R74 names opened and marked, the berth dwelling, which the partner sees (R19, R74, R127, R140). -/
structure StopsEvacuating (f : Face) (r : AlignResult) (s u : State) : Prop where
  berth : (u.face f).berth = { (s.face f).berth.aligned r with state := .dwelling, dwellStart := some s.ms }
  doors : (u.face f).doors = (s.face f).doors.map fun d =>
    let x := (d.follow r.enable).dropOpen
    if x.evacuable then (x.evacuationOpen (s.doorContext f d.number)).door else x
  marked : ∀ d ∈ (s.face f).doors, r.enable.contains d.number = true → d.latched = false → d.isolation = .none → d.Movable →
    Marked d.number (u.face f).release.set
  release : (u.face f).release = { (s.face f).release with set := (u.face f).release.set }
  deferral : (u.face f).deferral =
    if (s.face f).deferral.used.isSome then (s.face f).deferral.ended .cancelled s.ms else (s.face f).deferral
  partnerView : (u.face f.partner).deferral.partnerView = .dwelling s.ms
  partnerBerth : (u.face f.partner).berth = (s.face f.partner).berth
  found : State.Found f r u
  line : (u.face f).line = (s.face f).line
  holds : u.holds = s.holds
  gap : u.gap = s.gap
  tbs : u.tbs = s.tbs

theorem State.acceptAlignment_stopsEvacuating {s : State} {f : Face} {r : AlignResult} (hn : DistinctDoors (s.face f))
    (hr : (s.face f).release.state = .evacuating) : StopsEvacuating f r s (s.acceptAlignment f r) := by
  have evacuated := acceptAlignment_evacuated r hn hr
  have blocks := aligned_blocks s f r
  have ms := (aligned_quiet s f r).ms
  obtain ⟨berth, doors, deferral, line, release⟩ := aligned_records s f r
  obtain ⟨partnerBerth, -⟩ := face_records_of blocks f.partner
  rw [Blocks.get_partner_modFace, blocks_get] at partnerBerth
  obtain ⟨holds, -, gap, tbs⟩ := (Local.of_blocks blocks).shared
  refine ⟨by rw [evacuated.berth, berth, ms]; rfl, ?_, fun d hd he hl hi hm => ?_, by rw [evacuated.release, release],
    by rw [evacuated.deferral, deferral, ms], by rw [evacuated.partnerView (by rw [berth]; rfl), ms],
    evacuated.partnerBerth.trans partnerBerth, ?_, evacuated.line.trans line, evacuated.holds.trans holds,
    evacuated.gap.trans gap, evacuated.tbs.trans tbs⟩
  · rw [evacuated.doors, doors, List.map_map]
    simp only [aligned_doorContext, Function.comp_def, following_number]
  · obtain ⟨released, isolated, lost⟩ := hm
    obtain ⟨kept, evacuable⟩ := Door.evacuable_following he hl hi lost
    have marked := evacuated.marked (d.follow r.enable)
    rw [doors] at marked
    exact marked (List.mem_map.2 ⟨d, hd, kept⟩) evacuable ⟨released, isolated, lost⟩
  · rw [acceptAlignment_evacuating r hr]
    exact (aligned_found s f r).calm (evacuationOpening_calm _ f)

/-- Settles O29: commands that begin nothing, and the opening of a face whose train stops under evacuation. -/
theorem evacuationInForceOpensOnlyAStoppedTrain : Obligations.EvacuationInForceOpensOnlyAStoppedTrain := by
  refine ⟨fun s t f level => ⟨fun running idle => ?_, fun r rest takes hf hb => ⟨fun hc => ?_, fun hc hr => ?_⟩⟩, ?_, ?_⟩
  · rw [exec_evacInputChange running, State.testEvacuation_nothing]
    rcases idle with hc | hr | hl
    · exact .inl (by simpa [State.configured, State.params?, State.tables?] using hc)
    · exact .inr (.inl (by simpa using hr))
    · exact .inr (.inr (by simpa using hl))
  · exact answers_of_takes rfl takes (State.takeEvacuate_unconfigured hf hb (by simpa using hc))
  · rw [Answers, exec_evacuate takes, State.takeEvacuate_again hf hb (by simpa using hc) (by simpa using hr)]
    rfl
  · intro s f r ordered hr u
    have distinct : State.DistinctDoors (s.face f) := .of_ordered ordered f
    have stops : StopsEvacuating f r s u := State.acceptAlignment_stopsEvacuating distinct hr
    rw [stops.berth, stops.release]
    exact ⟨rfl, rfl, rfl, rfl, hr, stops.doors⟩
  · intro s t i ordered running inflight f r now aligning ticket hr
    obtain ⟨o, ho⟩ : ∃ o, s.opened t = o := ⟨_, rfl⟩
    have opened : Calm (s.advance t) o := ho ▸ State.opened_calm s t
    have same : o.blocks = s.blocks := by rw [← ho, State.opened_blocks]
    have records (g : Face) : (o.face g).blocks = (s.face g).blocks := by rw [State.face_blocks_of same, State.blocks_get]
    have context (n : Nat) : o.doorContext f n = (s.advance t).doorContext f n :=
      State.doorContext_of_blocks f n opened.toQuiet same
    have flight : o.aln.inflight = some i := by simpa [← ho] using inflight
    have delivered : o.deliverAlignment i = o.acceptAlignment f r :=
      State.deliverAlignment_accepted (by rw [← ho, State.opened_berth]; exact ⟨aligning, ticket⟩)
    have berth : (o.face f).berth = (s.face f).berth := congrArg FaceBlocks.berth (records f)
    have doors : (o.face f).doors = (s.face f).doors := congrArg FaceBlocks.doors (records f)
    have deferral : (o.face f).deferral = (s.face f).deferral := congrArg FaceBlocks.deferral (records f)
    have release : (o.face f).release = (s.face f).release := congrArg FaceBlocks.release (records f)
    have stops : StopsEvacuating f r o (o.acceptAlignment f r) := State.acceptAlignment_stopsEvacuating
      ((State.DistinctDoors.of_ordered ordered f).of_doors doors) (by rw [release]; exact hr)
    have quiet := opened.toQuiet.trans (State.acceptAlignment_quiet o f r)
    have calm := (State.completeAlignment_calm flight).trans (State.arbitrate_calm _)
    have blocks := (State.arbitrate_blocks _).trans (State.completeAlignment_blocks flight)
    obtain ⟨engine, -⟩ := State.deliverAlignment_engine o i
    rw [delivered] at calm blocks engine
    have found := stops.found.calm calm
    obtain ⟨berth', doors', deferral', -, line', release'⟩ := State.face_records_of blocks f
    obtain ⟨partnerBerth', -, partnerDeferral', -⟩ := State.face_records_of blocks f.partner
    simp only [State.blocks_get, FaceState.blocks] at berth' doors' deferral' line' release' partnerBerth' partnerDeferral'
    refine ⟨_, by rw [exec_alignmentComplete running, ho], calm.intake.trans quiet.intake, calm.replies.trans quiet.replies, ?_, ?_,
      fun d hd he hl hi hlost hrel hiso => ?_, ?_, ?_, ?_, ?_, found.misaligned, found.partialAlign, found.noProfile, ?_, ?_, ?_, ?_, ?_⟩
    · rw [berth', stops.berth, berth, opened.ms]; rfl
    · rw [doors', stops.doors, doors]
      simp only [context]
      rfl
    · rw [release']
      exact stops.marked d (by rw [doors]; exact hd) he hl hi ⟨hrel, hiso, hlost⟩
    · rw [release', stops.release, release]
    · rw [deferral', stops.deferral, deferral, opened.ms]
      cases (s.face f).deferral.used <;> rfl
    · rw [partnerDeferral', stops.partnerView, opened.ms]
    · rw [partnerBerth', stops.partnerBerth]
      exact congrArg FaceBlocks.berth (records f.partner)
    · have completed : o.completeAlignment.arbitrate.aln = Engine.completed _ _ _ _ := congrArg Blocks.aln blocks
      rw [completed, Engine.completed_computations, engine, quiet.bump, ← ho, State.opened_aln]
      rfl
    · rw [line', stops.line]
      exact congrArg FaceBlocks.line (records f)
    · exact (congrArg Blocks.holds blocks).trans (stops.holds.trans (congrArg Blocks.holds same))
    · exact (congrArg Blocks.gap blocks).trans (stops.gap.trans (congrArg Blocks.gap same))
    · exact (congrArg Blocks.tbs blocks).trans (stops.tbs.trans (congrArg Blocks.tbs same))

end Sys2Proof.Machine
end

section
/-! PROOFS. Power-on and the release of the reset pin: every block in its fresh state (R23, R31, R77, R100, R118, R150, R164, R166, R195). -/

namespace Sys2Proof.Machine

/-- The record of a face that starts anew is the fresh one (R23, R77, R100, R150, R164). -/
theorem freshFace_initial (level : Level) (now : Millis) : freshFace level now (FaceState.initial level (now + 200)) :=
  ⟨rfl, rfl, rfl, ⟨rfl, rfl, rfl, rfl, rfl, rfl, rfl⟩, rfl, rfl, rfl, rfl, rfl, rfl, rfl, rfl, rfl, rfl, rfl, rfl⟩

theorem freshLink_initial (cause : ResetCause) (now : Millis) : freshLink cause now (LinkInterface.initial cause (now + 2000)) := by
  simp [freshLink, LinkInterface.initial]

/-- Tables without an entry (R166). -/
theorem empty_tables_absent (f : Face) :
    (Tables.empty.params.get f = none ∧ ∀ i : Fin 32, (Tables.empty.doors.get f)[i] = none) ∧
      (∀ i : Fin 16, Tables.empty.profiles[i] = none) ∧ (∀ i : Fin 32, Tables.empty.consist[i] = MatchEntry.absent) ∧
      ∀ i : Fin 64, Tables.empty.zones[i] = none := by
  cases f <;> simp [Tables.empty, PerFace.get]

/-- The Gap Monitor's heads at the start: sixteen unused slots (R118). -/
theorem initial_heads_unused (start : Micros) :
    (GapMonitor.initial start).heads.map (fun h => h.slot) = List.range 16 ∧
      ∀ h ∈ (GapMonitor.initial start).heads, h.serves = ⟨false, false⟩ ∧ h.state = .unused ∧ h.window = [] ∧
        h.missingStreak = 0 ∧ h.goodStreak = 0 ∧ h.missingScans = 0 := by
  refine ⟨by simp [GapMonitor.initial, Head.initial, Function.comp_def], fun h hh => ?_⟩
  obtain ⟨n, -, rfl⟩ := List.mem_map.1 hh
  exact ⟨rfl, rfl, rfl, rfl, rfl, rfl⟩

/-- What the fresh blocks hold is what R23, R31, R77, R100, R118, R150, R164, R166 and R195 give. -/
theorem freshBlocks_fresh (s : State) (cause : ResetCause) (evac : PerFace Level) : freshState cause evac (s.freshBlocks cause evac) := by
  refine ⟨fun f => ?_, freshLink_initial cause s.ms, fun i => ?_, ⟨rfl, rfl, rfl, rfl⟩, ⟨rfl, rfl, rfl, ?_⟩, rfl, rfl, rfl, rfl,
    rfl, rfl, rfl, fun b f => ?_⟩
  · rw [State.freshBlocks_face]
    exact freshFace_initial _ s.ms
  · simp [State.freshBlocks]
  · exact initial_heads_unused s.now
  · cases b <;> exact empty_tables_absent f

/-- Settles O3: the fresh blocks, which both commands write, and the pin alone where the part has no power. -/
theorem powerOnAndPinReleaseResetEveryBlock : Obligations.PowerOnAndPinReleaseResetEveryBlock := by
  refine fun s t evac => ⟨⟨_, rfl, freshBlocks_fresh (s.advance t) .powerOn evac, rfl, rfl, rfl⟩, fun powered => ?_, fun off => ?_⟩
  · have released : (s.advance t).releasePin evac = { (s.advance t).freshBlocks .pin evac with resetPin := false } := if_pos powered
    exact ⟨_, congrArg Host.Outcome.next released, freshBlocks_fresh (s.advance t) .pin evac, powered, rfl, rfl⟩
  · exact congrArg Host.Outcome.next (if_neg (by simp [State.advance, off]))

end Sys2Proof.Machine
end

section
/-! PROOFS. SOFT_RESET, block by block: what each block's reset makes of `blocks` up to the tests for adoption and evacuation (R24, R31,
R78, R101, R104, R119, R125, R151, R180, R194). -/

namespace Sys2Proof.Machine

/-! ### A door and its link -/

/-- A door record whose slot is empty has nothing to begin a send with (R86). -/
theorem Door.modLink_begun {d : Door} (h : d.link.slot = none) (kind : TurnKind) : d.modLink (fun l => l.begun kind) = d := by
  simp [modLink, UnitLink.begun, UnitLink.sends, h]

namespace State

/-! ### Stage by stage -/

@[simp] theorem raiseDevice_blocks (s : State) (k : EventKind) : (s.raiseDevice k).blocks = s.blocks :=
  reported_blocks (raiseDevice_reported s k)

@[simp] theorem lifSoftReset_blocks (s : State) : s.lifSoftReset.blocks = s.blocks := rfl

@[simp] theorem modProof_blocks (s : State) (f : Face) (g : ProofRecord → ProofRecord) : (s.modProof f g).blocks = s.blocks := by
  cases f <;> rfl

@[simp] theorem proofSoftReset_blocks (s : State) (f : Face) : (s.proofSoftReset f).blocks = s.blocks := by
  simp [proofSoftReset]

@[simp] theorem doorsHandOn_blocks (s : State) (f : Face) : (s.doorsHandOn f).blocks = s.blocks :=
  reported_blocks (doorsHandOn_reported s f)

theorem modReports_blocks (s : State) (f : Face) (g : List ObstructionReport → List ObstructionReport) :
    (s.modReports f g).blocks = s.blocks.modFace f fun b => { b with reports := g b.reports } := by cases f <;> rfl

theorem modLine_blocks (s : State) (f : Face) (g : DoorLine → DoorLine) :
    (s.modLine f g).blocks = s.blocks.modFace f fun b => { b with line := g b.line } := by cases f <;> rfl

end State

/-- The berth record after a soft reset (R24). -/
def Berth.restarted (b : Berth) : Berth :=
  { b with
    state := .vacant, train := none, stop := none, stopError := none, enable := [], pairing := [], dwellStart := none,
    supervision := none, lastSample := none, lastRefusal := none }

/-- The deferral record after a soft reset (R125, notes/assumptions/30.md). -/
def Deferral.restarted (d : Deferral) : Deferral :=
  { d with used := none, start := none, maximum := none, partnerSeen := false, partnerTimer := none, partnerView := .notDwelling }

/-- The Gap Monitor after a soft reset: a new cycle from now (R104, R119). -/
def GapMonitor.restarted (g : GapMonitor) (now : Micros) : GapMonitor :=
  { g with
    cycle := g.cycle + 1, cycleStart := now, heads := g.heads.map Head.softReset
    zones := g.zones.map fun zs => zs.map fun z => { z with state := .unknown, metric := none } }

/-- A face's berth, deferral, obstruction reports and doors after a soft reset (R24, R78, R125, notes/assumptions/19.md). -/
def FaceBlocks.restarted (b : FaceBlocks) : FaceBlocks :=
  { b with berth := b.berth.restarted, deferral := b.deferral.restarted, reports := [], doors := b.doors.map Door.softReset }

namespace State

theorem faceSoftReset_blocks (s : State) (f : Face) : (s.faceSoftReset f).blocks = s.blocks.modFace f FaceBlocks.restarted := by
  unfold faceSoftReset
  dsimp only
  rw [doorsHandOn_blocks, modDoors_blocks, modReports_blocks, modDeferral_blocks, modBerth_blocks]
  simp only [Blocks.modFace_modFace]
  rfl

theorem gapSoftReset_blocks (s : State) : s.gapSoftReset.blocks = { s.blocks with gap := s.gap.restarted s.now } := rfl

theorem alnSoftReset_blocks (s : State) :
    s.alnSoftReset.blocks = { s.blocks with aln := { s.aln with inflight := none, waiting := ⟨none, none⟩ } } := rfl

theorem tbsSoftReset_blocks (s : State) : s.tbsSoftReset.blocks =
    { s.blocks with tbs := { s.tbs with validation := none, copy := s.tbs.copy.map fun c => { c with beganAt := s.ms } } } := rfl

/-! ### The door line (R101) -/

/-- No door's link holds a command, or has a base to number one by. -/
def LinksFresh (x : FaceState) : Prop := ∀ d ∈ x.doors, d.link.slot = none ∧ d.link.base = none

theorem urgentDrop_none {ds : List Door} (h : ∀ d ∈ ds, d.link.slot = none) : urgentDrop ds = none := by
  have : ds.filter (fun d => !d.link.lost && d.link.slot.map (fun c => c.urgency) = some .urgent) = [] := by
    rw [List.filter_eq_nil_iff]
    intro d hd
    simp [h d hd]
  rw [urgentDrop, this]
  rfl

end State

/-- The turn that polls a unit with nothing to send (R87, R199). -/
def Turn.pollOf (now : Micros) (drop : Nat) : Turn :=
  { drop := drop, kind := .poll, carried := .nothing 0, orphan := false, windowEnd := now + dropFrameTime drop (.nothing 0) + 800 }

/-- A door line after a soft reset: it runs where its face is configured, and polls the smallest drop address (R84, R101). -/
def DoorLine.restarted (configured : Bool) (ds : List Door) (now : Micros) : DoorLine :=
  let least := if configured then leastDrop (ds.map fun d => d.drop) else none
  { running := configured, turn := least.map (Turn.pollOf now), rotation := least, tunnel := none }

namespace State

/-- A poll that finds no command and no base carries nothing (R86). -/
theorem beginTurn_fresh {s : State} {f : Face} (h : LinksFresh (s.face f)) (drop : Nat) :
    (s.beginTurn f .poll drop).blocks = s.blocks.modFace f fun b =>
      { b with line := { b.line with turn := some (Turn.pollOf s.now drop), rotation := some drop } } := by
  have link : (((s.findDrop f drop).map fun d => d.link).getD Door.newLink).carries .poll
      (((s.face f).line.tunnel.map fun t => t.payload).getD []) = .nothing 0 := by
    cases hd : s.findDrop f drop with
    | none => rfl
    | some d =>
      obtain ⟨slot, base⟩ := h d (List.mem_of_find?_eq_some hd)
      simp [UnitLink.carries, UnitLink.sends, slot, base]
  have doors : (s.face f).doors.map (fun d => if d.drop = drop then d.modLink (fun l => l.begun .poll) else d) = (s.face f).doors := by
    refine (List.map_congr_left fun d hd => ?_).trans (List.map_id _)
    obtain ⟨slot, -⟩ := h d hd
    rw [Door.modLink_begun slot, ite_self]
    rfl
  unfold beginTurn
  rw [modLine_blocks, modDropLink, modDoors_blocks, Blocks.modFace_modFace, link]
  refine Blocks.modFace_congr ?_
  rw [blocks_get, show (s.face f).blocks.doors = (s.face f).doors from rfl, doors]
  rfl

/-- The next turn of a line that has neither a command nor an exchange nor a rotation position (R84). -/
theorem nextTurn_fresh {s : State} {f : Face} (h : LinksFresh (s.face f)) (hc : s.configured f = true)
    (hl : (s.face f).line.tunnel = none) (hr : (s.face f).line.rotation = none) :
    (s.nextTurn f).blocks = s.blocks.modFace f fun b => { b with line := { b.line with
      turn := (leastDrop ((s.face f).doors.map fun d => d.drop)).map (Turn.pollOf s.now)
      rotation := leastDrop ((s.face f).doors.map fun d => d.drop) } } := by
  have chosen (u : State) (hd : (u.face f).doors = (s.face f).doors) (ht : (u.face f).line.tunnel = none)
      (hr : (u.face f).line.rotation = none) :
      chooseTurn (u.face f).doors (u.face f).line = (leastDrop ((s.face f).doors.map fun d => d.drop)).map fun d => (.poll, d) := by
    rw [chooseTurn, hd, urgentDrop_none fun d m => (h d m).1, ht, hr]
    rfl
  unfold nextTurn
  dsimp only
  generalize hv : s.modLine f _ = v
  have blocks : v.blocks = _ := hv ▸ modLine_blocks s f _
  have doors : (v.face f).doors = (s.face f).doors := by simp [← hv]
  rw [if_pos (by simpa [← hv, configured, params?, tables?] using hc),
    chosen v doors (by simpa [← hv] using hl) (by simpa [← hv] using hr)]
  cases leastDrop ((s.face f).doors.map fun d => d.drop) with
  | none =>
    refine blocks.trans (Blocks.modFace_congr ?_)
    simp [FaceState.blocks, hr]
  | some x =>
    refine (beginTurn_fresh (fun d hd => h d (doors ▸ hd)) x).trans ?_
    rw [blocks, Blocks.modFace_modFace, ← hv]
    rfl

theorem lineSoftReset_blocks {s : State} {f : Face} (h : LinksFresh (s.face f)) :
    (s.lineSoftReset f).blocks = s.blocks.modFace f fun b =>
      { b with line := .restarted (s.configured f) (s.face f).doors s.now } := by
  unfold lineSoftReset
  dsimp only
  generalize hv : s.modLine f _ = v
  have blocks : v.blocks = _ := hv ▸ modLine_blocks s f _
  have doors : (v.face f).doors = (s.face f).doors := by simp [← hv]
  have configured' : v.configured f = s.configured f := by simp [← hv, configured, params?, tables?]
  rw [configured']
  split
  next hc =>
    rw [nextTurn_fresh (fun d hd => h d (doors ▸ hd)) (configured'.trans hc) (by simp [← hv]) (by simp [← hv]), blocks,
      Blocks.modFace_modFace, doors, ← hv]
    simp [DoorLine.restarted, hc]
  next hc =>
    rw [blocks]
    simp [DoorLine.restarted, hc]

/-! ### The Release Supervisor (R151) -/

theorem restoreClose_release (s : State) (f g : Face) : ((s.restoreClose f).face g).release = (s.face g).release :=
  applyDoors_release s f g _ _ fun c d => d.restoreClose_reports c

/-- A restore close asked for again is work on the doors alone. -/
theorem restoreClose_blocks (s : State) (f : Face) :
    (s.restoreClose f).blocks = s.blocks.modFace f fun b => { b with doors := ((s.restoreClose f).face f).doors } := by
  refine (Sequenced.blocks_eq (applyDoors_sequenced s f _ _) rfl (applyDoors_doors_ne s (Face.partner_ne f) _ _)
    (restoreClose_release s f f.partner)).trans (Blocks.modFace_congr ?_)
  rw [← restoreClose, restoreClose_release, blocks_get]
  rfl

theorem releaseSoftReset_blocks (s : State) (f : Face) (level : Level) : (s.releaseSoftReset f level).blocks =
    s.blocks.modFace f fun b =>
      { b with release := { b.release with input := level }, doors := ((s.releaseSoftReset f level).face f).doors } := by
  have input := modRelease_blocks s f fun r => { r with input := level }
  unfold releaseSoftReset
  dsimp only
  split
  · rw [restoreClose_blocks, input, Blocks.modFace_modFace]
  · rw [input]
    exact Blocks.modFace_congr (by simp [FaceState.blocks])

end State

/-! ### All blocks -/

/-- The blocks of both faces changed. -/
def Blocks.modFaces (b : Blocks) (g : Face → FaceBlocks → FaceBlocks) : Blocks :=
  { b with faces := ⟨g .A b.faces.a, g .B b.faces.b⟩ }

@[simp] theorem Blocks.get_modFaces (b : Blocks) (g : Face → FaceBlocks → FaceBlocks) (f : Face) :
    (b.modFaces g).faces.get f = g f (b.faces.get f) := by cases f <;> rfl

/-- One face after the other. -/
theorem Blocks.modFace_AB (b : Blocks) (g h : FaceBlocks → FaceBlocks) :
    (b.modFace .A g).modFace .B h = b.modFaces fun f => match f with | .A => g | .B => h := rfl

namespace State

/-- The faces' own resets, the lines' and the release records' apart (R24, R78, R125). -/
def facesRestarted (s : State) : State := (s.faceSoftReset .A).faceSoftReset .B

/-- The lines' resets (R101). -/
def linesRestarted (s : State) : State := (s.lineSoftReset .A).lineSoftReset .B

/-- The release records' resets (R151). -/
def releasesRestarted (s : State) (evac : PerFace Level) : State := (s.releaseSoftReset .A evac.a).releaseSoftReset .B evac.b

/-- The Link Interface, the Proof Units, the engine and the Gap Monitor after a soft reset (R31, R119, R164, R194). -/
def sharedRestarted (s : State) : State :=
  ((((s.lifSoftReset.raiseDevice .reset).proofSoftReset .A).proofSoftReset .B).alnSoftReset).gapSoftReset

/-- Every block after a soft reset, before the tests for adoption and evacuation. -/
def restarted (s : State) (evac : PerFace Level) : State :=
  ((((s.sharedRestarted.facesRestarted.linesRestarted).decide .A).decide .B).releasesRestarted evac).tbsSoftReset

theorem facesRestarted_blocks (s : State) : s.facesRestarted.blocks = s.blocks.modFaces fun _ => FaceBlocks.restarted := by
  rw [facesRestarted, faceSoftReset_blocks, faceSoftReset_blocks]
  rfl

end State

end Sys2Proof.Machine
end

section
/-! PROOFS. What stays after a soft reset while a test for adoption or for evacuation follows in the step: the Link Interface, the berths, the
deferrals and the shared blocks (R101, R137, R177, R194). -/

namespace Sys2Proof.Machine

/-- Beside what `Quiet` says, the uplink's health, the reset's marks and what the Link Interface keeps stand as they stood. -/
structure Steadfast (s u : State) : Prop extends Quiet s u where
  badCount : u.lif.badCount = s.lif.badCount
  goodStreak : u.lif.goodStreak = s.lif.goodStreak
  degraded : u.lif.degraded = s.lif.degraded
  silence : u.lif.silence = s.lif.silence
  resetCause : u.lif.resetCause = s.lif.resetCause
  afterReset : u.lif.afterReset = s.lif.afterReset
  routes : u.lif.routes = s.lif.routes
  errorLimit : u.lif.errorLimit = s.lif.errorLimit
  snapshot : u.lif.snapshot = s.lif.snapshot
  preparing : u.lif.preparing = s.lif.preparing

namespace Steadfast

theorem of_lif {s u : State} (hn : u.now = s.now) (hl : u.lif = s.lif) : Steadfast s u := by
  refine ⟨⟨hn, ?_, ?_, ?_, fun _ _ h => hl ▸ h⟩, ?_, ?_, ?_, ?_, ?_, ?_, ?_, ?_, ?_, ?_⟩ <;> rw [hl]

theorem refl (s : State) : Steadfast s s := of_lif rfl rfl

theorem trans {s u v : State} (h : Steadfast s u) (k : Steadfast u v) : Steadfast s v :=
  ⟨h.toQuiet.trans k.toQuiet, k.badCount.trans h.badCount, k.goodStreak.trans h.goodStreak, k.degraded.trans h.degraded,
    k.silence.trans h.silence, k.resetCause.trans h.resetCause, k.afterReset.trans h.afterReset, k.routes.trans h.routes,
    k.errorLimit.trans h.errorLimit, k.snapshot.trans h.snapshot, k.preparing.trans h.preparing⟩

/-- What is steadfast from a state that differs from the first beside the link and the clock. -/
theorem after {s v u : State} (k : Steadfast v u) (hn : v.now = s.now) (hl : v.lif = s.lif) : Steadfast s u := (of_lif hn hl).trans k

theorem of_reported {s u : State} (h : Reported s u) (q : Quiet s u) : Steadfast s u :=
  ⟨q, h.lif_badCount, h.lif_goodStreak, h.lif_degraded, h.lif_silence, h.lif_resetCause, h.lif_afterReset, h.lif_routes,
    h.lif_errorLimit, h.lif_snapshot, h.lif_preparing⟩

theorem of_sequenced {s u : State} (h : Sequenced s u) (q : Quiet s u) : Steadfast s u :=
  ⟨q, h.lif_badCount, h.lif_goodStreak, h.lif_degraded, h.lif_silence, h.lif_resetCause, h.lif_afterReset, h.lif_routes,
    h.lif_errorLimit, h.lif_snapshot, h.lif_preparing⟩

end Steadfast

namespace State

theorem decide_steadfast (s : State) (f : Face) : Steadfast s (s.decide f) := .of_reported (decide_reported s f) (decide_calm s f).toQuiet

theorem raiseDevice_steadfast (s : State) (k : EventKind) : Steadfast s (s.raiseDevice k) :=
  .of_reported (raiseDevice_reported s k) ((raiseDevice_reported s k).quiet fun _ _ h => raise_keeps_flag s .device _ k _ h)

theorem doorsHandOn_steadfast (s : State) (f : Face) : Steadfast s (s.doorsHandOn f) :=
  .of_reported (doorsHandOn_reported s f) (doorsHandOn_calm s f).toQuiet

theorem applyDoors_steadfast (s : State) (f : Face) (p : Door → Bool) (g : DoorContext → Door → DoorOutcome) :
    Steadfast s (s.applyDoors f p g) := .of_sequenced (applyDoors_sequenced s f p g) (applyDoors_calm s f p g).toQuiet

/-- A turn that begins touches the line and the links alone. -/
theorem nextTurn_steadfast (s : State) (f : Face) : Steadfast s (s.nextTurn f) := by
  unfold nextTurn
  dsimp only
  split
  · split
    · exact .of_lif rfl rfl
    · exact .of_lif rfl rfl
  · exact .of_lif rfl rfl

/-! ### The resets before the tests -/

theorem facesRestarted_steadfast (s : State) : Steadfast s s.facesRestarted := by
  have one (s : State) (f : Face) : Steadfast s (s.faceSoftReset f) := .after (doorsHandOn_steadfast _ f) rfl rfl
  exact (one s .A).trans (one _ .B)

theorem linesRestarted_steadfast (s : State) : Steadfast s s.linesRestarted := by
  have one (s : State) (f : Face) : Steadfast s (s.lineSoftReset f) := by
    unfold lineSoftReset
    dsimp only
    split
    · exact .after (nextTurn_steadfast _ f) rfl rfl
    · exact .of_lif rfl rfl
  exact (one s .A).trans (one _ .B)

theorem releasesRestarted_steadfast (s : State) (evac : PerFace Level) : Steadfast s (s.releasesRestarted evac) := by
  have one (s : State) (f : Face) (level : Level) : Steadfast s (s.releaseSoftReset f level) := by
    unfold releaseSoftReset
    dsimp only
    split
    · exact .after (applyDoors_steadfast _ f _ _) rfl rfl
    · exact .of_lif rfl rfl
  exact (one s .A evac.a).trans (one _ .B evac.b)

theorem proofSoftReset_steadfast (s : State) (f : Face) : Steadfast s (s.proofSoftReset f) := .of_lif rfl rfl

theorem alnSoftReset_steadfast (s : State) : Steadfast s s.alnSoftReset := .of_lif rfl rfl

theorem gapSoftReset_steadfast (s : State) : Steadfast s s.gapSoftReset := .of_lif rfl rfl

theorem tbsSoftReset_steadfast (s : State) : Steadfast s s.tbsSoftReset := .of_lif rfl rfl

theorem sharedRestarted_steadfast (s : State) : Steadfast (s.lifSoftReset.raiseDevice .reset) s.sharedRestarted :=
  (((proofSoftReset_steadfast _ .A).trans (proofSoftReset_steadfast _ .B)).trans (alnSoftReset_steadfast _)).trans
    (gapSoftReset_steadfast _)

/-- From the reset of the Link Interface on, the resets of the other blocks leave it alone. -/
theorem restarted_steadfast (s : State) (evac : PerFace Level) : Steadfast (s.lifSoftReset.raiseDevice .reset) (s.restarted evac) := by
  have lines := ((sharedRestarted_steadfast s).trans (facesRestarted_steadfast _)).trans (linesRestarted_steadfast _)
  have releases := ((lines.trans (decide_steadfast _ .A)).trans (decide_steadfast _ .B)).trans (releasesRestarted_steadfast _ evac)
  exact releases.trans (tbsSoftReset_steadfast _)

end State

end Sys2Proof.Machine
end

section
/-! PROOFS. SOFT_RESET, all blocks: the state before the tests for adoption and evacuation (R24, R31, R78, R101, R104, R119, R125, R151,
R180, R194). -/

namespace Sys2Proof.Machine

/-- The Link Interface after a soft reset at a state (R183, R194). -/
structure LinkReset (s u : State) : Prop where
  intake : u.lif.intake = []
  replies : u.lif.replies = []
  flag : EventKind.reset ∈ u.lif.flags.device
  badCount : u.lif.badCount = 0
  goodStreak : u.lif.goodStreak = 0
  degraded : u.lif.degraded = false
  silence : u.lif.silence = some (s.ms + 2000)
  resetCause : u.lif.resetCause = .soft
  afterReset : u.lif.afterReset = true
  routes : u.lif.routes = s.lif.routes
  errorLimit : u.lif.errorLimit = s.lif.errorLimit
  snapshot : u.lif.snapshot = s.lif.snapshot
  preparing : u.lif.preparing = none
  now : u.now = s.now

theorem LinkReset.steadfast {s u v : State} (h : LinkReset s u) (k : Steadfast u v) : LinkReset s v :=
  ⟨k.intake.trans h.intake, k.replies.trans h.replies, k.flags .device _ h.flag, k.badCount.trans h.badCount,
    k.goodStreak.trans h.goodStreak, k.degraded.trans h.degraded, k.silence.trans h.silence, k.resetCause.trans h.resetCause,
    k.afterReset.trans h.afterReset, k.routes.trans h.routes, k.errorLimit.trans h.errorLimit, k.snapshot.trans h.snapshot,
    k.preparing.trans h.preparing, k.now.trans h.now⟩

namespace State

theorem restarted_link (s : State) (evac : PerFace Level) : LinkReset s (s.restarted evac) := by
  have raised := raiseDevice_steadfast s.lifSoftReset .reset
  have first : LinkReset s (s.lifSoftReset.raiseDevice .reset) :=
    ⟨raised.intake, raised.replies, raise_flag s.lifSoftReset .device .reset, raised.badCount, raised.goodStreak, raised.degraded,
      raised.silence, raised.resetCause, raised.afterReset, raised.routes, raised.errorLimit, raised.snapshot, raised.preparing,
      raised.now⟩
  exact first.steadfast (restarted_steadfast s evac)

/-! ### The blocks of the resets together -/

theorem sharedRestarted_now (s : State) : s.sharedRestarted.now = s.now := by
  exact (sharedRestarted_steadfast s).now.trans (raiseDevice_steadfast s.lifSoftReset .reset).now

theorem sharedRestarted_blocks (s : State) : s.sharedRestarted.blocks =
    { s.blocks with aln := { s.aln with inflight := none, waiting := ⟨none, none⟩ }, gap := s.gap.restarted s.now } := by
  unfold sharedRestarted
  generalize hv : (((s.lifSoftReset.raiseDevice .reset).proofSoftReset .A).proofSoftReset .B) = v
  have blocks : v.blocks = s.blocks := by simp [← hv]
  have now : v.now = s.now := by
    rw [← hv]
    exact (((proofSoftReset_steadfast _ .A).trans (proofSoftReset_steadfast _ .B)).now).trans (raiseDevice_steadfast _ .reset).now
  rw [gapSoftReset_blocks, alnSoftReset_blocks, show v.alnSoftReset.gap = s.gap from congrArg Blocks.gap blocks,
    show v.alnSoftReset.now = s.now from now, blocks, show v.aln = s.aln from congrArg Blocks.aln blocks]

/-- Whether a face is configured is in the Table Store alone. -/
theorem configured_of_tbs {s u : State} (h : u.tbs = s.tbs) (f : Face) : u.configured f = s.configured f := by
  simp only [configured, params?, tables?, h]

theorem facesRestarted_linksFresh (s : State) (f : Face) : LinksFresh (s.facesRestarted.face f) := by
  obtain ⟨-, doors, -⟩ := face_records_of (facesRestarted_blocks s) f
  intro d hd
  rw [doors, Blocks.get_modFaces] at hd
  obtain ⟨e, -, rfl⟩ := List.mem_map.1 hd
  exact ⟨rfl, rfl⟩

theorem linesRestarted_blocks {s : State} (h : ∀ f, LinksFresh (s.face f)) : s.linesRestarted.blocks =
    s.blocks.modFaces fun f b => { b with line := .restarted (s.configured f) b.doors s.now } := by
  have a := lineSoftReset_blocks (h .A)
  have doors : ((s.lineSoftReset .A).face .B).doors = (s.face .B).doors := by
    obtain ⟨-, doors, -⟩ := face_records_of a .B
    exact doors
  have now : (s.lineSoftReset .A).now = s.now := by
    unfold lineSoftReset
    dsimp only
    split
    · exact (nextTurn_steadfast _ .A).now
    · rfl
  have b := lineSoftReset_blocks (s := s.lineSoftReset .A) (f := .B) fun d hd => h .B d (doors ▸ hd)
  rw [linesRestarted, b, a, configured_of_tbs (congrArg Blocks.tbs a), now, doors]
  rfl

theorem releasesRestarted_blocks (s : State) (evac : PerFace Level) : (s.releasesRestarted evac).blocks =
    s.blocks.modFaces fun f b => { b with
      release := { b.release with input := evac.get f }, doors := ((s.releasesRestarted evac).face f).doors } := by
  have a := releaseSoftReset_blocks s .A evac.a
  have b := releaseSoftReset_blocks (s.releaseSoftReset .A evac.a) .B evac.b
  have doors : ((s.releasesRestarted evac).face .A).doors = ((s.releaseSoftReset .A evac.a).face .A).doors := by
    obtain ⟨-, doors, -⟩ := face_records_of b .A
    exact doors
  refine b.trans ?_
  rw [a, Blocks.modFace_AB]
  refine congrArg (Blocks.modFaces s.blocks) (funext fun f => ?_)
  cases f with
  | A => rw [doors]; rfl
  | B => rfl

end State

/-- The blocks after a soft reset, before the tests for adoption and evacuation; of the doors, that a restore close alone may have gone on
from their reset records. -/
def Blocks.restarted (s : State) (evac : PerFace Level) (doors : Face → List Door) : Blocks :=
  { (s.blocks.modFaces fun f b => { b.restarted with
      line := .restarted (s.configured f) (b.doors.map Door.softReset) s.now
      release := { b.release with input := evac.get f }, doors := doors f }) with
    aln := { s.aln with inflight := none, waiting := ⟨none, none⟩ }
    gap := s.gap.restarted s.now
    tbs := { s.tbs with validation := none, copy := s.tbs.copy.map fun c => { c with beganAt := s.ms } } }

namespace State

/-- The faces after the resets of their own blocks and lines. -/
def facesBack (s : State) : State := ((s.sharedRestarted.facesRestarted.linesRestarted).decide .A).decide .B

theorem facesBack_now (s : State) : s.facesBack.now = s.now := by
  have lines := ((facesRestarted_steadfast s.sharedRestarted).trans (linesRestarted_steadfast _)).trans
    ((decide_steadfast _ .A).trans (decide_steadfast _ .B))
  exact lines.now.trans (sharedRestarted_now s)

theorem facesBack_blocks (s : State) : s.facesBack.blocks =
    { (s.blocks.modFaces fun f b => { b.restarted with
        line := .restarted (s.configured f) (b.doors.map Door.softReset) s.now }) with
      aln := { s.aln with inflight := none, waiting := ⟨none, none⟩ }, gap := s.gap.restarted s.now } := by
  have shared := sharedRestarted_blocks s
  have faces := facesRestarted_blocks s.sharedRestarted
  have now : s.sharedRestarted.facesRestarted.now = s.now :=
    (facesRestarted_steadfast s.sharedRestarted).now.trans (sharedRestarted_now s)
  have tables : s.sharedRestarted.facesRestarted.tbs = s.tbs := congrArg Blocks.tbs (faces.trans (congrArg (Blocks.modFaces · _) shared))
  rw [facesBack, decide_blocks, decide_blocks, linesRestarted_blocks (facesRestarted_linksFresh _), faces, shared, now]
  simp only [configured_of_tbs tables]
  rfl

/-- The releases' and the Table Store's resets on top of the faces'. -/
theorem releases_then_tables {s v w : State} {evac : PerFace Level}
    (back : v.blocks = { (s.blocks.modFaces fun f b => { b.restarted with
        line := .restarted (s.configured f) (b.doors.map Door.softReset) s.now }) with
      aln := { s.aln with inflight := none, waiting := ⟨none, none⟩ }, gap := s.gap.restarted s.now })
    (releases : w.blocks = v.blocks.modFaces fun f b => { b with
      release := { b.release with input := evac.get f }, doors := (w.face f).doors }) (ms : w.ms = s.ms) :
    w.tbsSoftReset.blocks = .restarted s evac fun f => (w.face f).doors := by
  rw [back] at releases
  have tables : w.tbs = s.tbs := congrArg Blocks.tbs releases
  rw [tbsSoftReset_blocks, ms, tables, releases]
  rfl

theorem restarted_eq (s : State) (evac : PerFace Level) : s.restarted evac = (s.facesBack.releasesRestarted evac).tbsSoftReset := rfl

theorem restarted_blocks (s : State) (evac : PerFace Level) :
    (s.restarted evac).blocks = .restarted s evac fun f => ((s.facesBack.releasesRestarted evac).face f).doors := by
  have ms : (s.facesBack.releasesRestarted evac).ms = s.ms :=
    (releasesRestarted_steadfast s.facesBack evac).ms.trans (congrArg (· / 1000) (facesBack_now s))
  rw [restarted_eq]
  exact releases_then_tables (facesBack_blocks s) (releasesRestarted_blocks s.facesBack evac) ms

end State

end Sys2Proof.Machine
end

section
/-! PROOFS. After a soft reset: what an adoption or an evacuation that follows in the step leaves standing (R101, R137, R177, R194). -/

namespace Sys2Proof.Machine

/-- Beside what `Steadfast` says, the holds, the engine, the Gap Monitor but for what a face has adopted, the berths, the obstruction
reports, the deferrals, the release sequences and the evacuation inputs stand as they stood, and no validation begins or ends. -/
structure Standing (s u : State) : Prop extends Steadfast s u where
  holds : u.holds = s.holds
  aln : u.aln = s.aln
  gap : u.gap = { s.gap with adopted := u.gap.adopted }
  validation : u.tbs.validation = s.tbs.validation
  berth : ∀ f, (u.face f).berth = (s.face f).berth
  reports : ∀ f, (u.face f).reports = (s.face f).reports
  deferral : ∀ f, (u.face f).deferral = (s.face f).deferral
  seq : ∀ f, (u.face f).release.seq = (s.face f).release.seq
  input : ∀ f, (u.face f).release.input = (s.face f).release.input

namespace Standing

theorem refl (s : State) : Standing s s :=
  ⟨.refl s, rfl, rfl, rfl, rfl, fun _ => rfl, fun _ => rfl, fun _ => rfl, fun _ => rfl, fun _ => rfl⟩

theorem trans {s u v : State} (h : Standing s u) (k : Standing u v) : Standing s v :=
  ⟨h.toSteadfast.trans k.toSteadfast, k.holds.trans h.holds, k.aln.trans h.aln, by rw [k.gap, h.gap], k.validation.trans h.validation,
    fun f => (k.berth f).trans (h.berth f), fun f => (k.reports f).trans (h.reports f),
    fun f => (k.deferral f).trans (h.deferral f), fun f => (k.seq f).trans (h.seq f), fun f => (k.input f).trans (h.input f)⟩

theorem of_reported {s u : State} (h : Reported s u) (q : Quiet s u) : Standing s u :=
  ⟨.of_reported h q, h.holds, h.aln, by rw [h.gap], by rw [h.tbs], h.berth, h.reports, h.deferral, fun f => by rw [h.release f],
    fun f => by rw [h.release f]⟩

theorem of_sequenced {s u : State} (h : Sequenced s u) (q : Quiet s u) (hr : ∀ f, (u.face f).release = (s.face f).release) :
    Standing s u :=
  ⟨.of_sequenced h q, h.holds, h.aln, by rw [h.gap], by rw [h.tbs], h.berth, h.reports, h.deferral, fun f => by rw [hr],
    fun f => by rw [hr]⟩

end Standing

namespace State

theorem decide_standing (s : State) (f : Face) : Standing s (s.decide f) := .of_reported (decide_reported s f) (decide_calm s f).toQuiet

theorem raiseFace_standing (s : State) (f : Face) (k : EventKind) : Standing s (s.raiseFace f k) :=
  .of_reported (raiseFace_reported s f k) (raiseFace_calm s f k).toQuiet

theorem doorsHandOn_standing (s : State) (f : Face) : Standing s (s.doorsHandOn f) :=
  .of_reported (doorsHandOn_reported s f) (doorsHandOn_calm s f).toQuiet

theorem modProof_standing (s : State) (f : Face) (g : ProofRecord → ProofRecord) : Standing s (s.modProof f g) :=
  ⟨.of_lif rfl rfl, rfl, rfl, rfl, rfl, by simp, by simp, by simp, by simp, by simp⟩

theorem modDoors_standing (s : State) (f : Face) (g : List Door → List Door) : Standing s (s.modDoors f g) :=
  ⟨.of_lif rfl rfl, rfl, rfl, rfl, rfl, by simp, by simp, by simp, by simp, by simp⟩

theorem modLine_standing (s : State) (f : Face) (g : DoorLine → DoorLine) : Standing s (s.modLine f g) :=
  ⟨.of_lif rfl rfl, rfl, rfl, rfl, rfl, by simp, by simp, by simp, by simp, by simp⟩

theorem modTbs_standing (s : State) (g : TableStore → TableStore) (h : (g s.tbs).validation = s.tbs.validation) :
    Standing s (s.modTbs g) :=
  ⟨.of_lif rfl rfl, rfl, rfl, rfl, h, by simp, by simp, by simp, by simp, by simp⟩

theorem modRelease_standing (s : State) (f : Face) (g : Release → Release) (hs : ∀ r, (g r).seq = r.seq)
    (hi : ∀ r, (g r).input = r.input) : Standing s (s.modRelease f g) := by
  refine ⟨.of_lif rfl rfl, rfl, rfl, rfl, rfl, by simp, by simp, by simp, fun h => ?_, fun h => ?_⟩
  all_goals
    obtain rfl | rfl := Face.eq_or_partner f h
    · simp [hs, hi]
    · simp

theorem setRelease_standing (s : State) (f : Face) (st : ReleaseState) : Standing s (s.setRelease f st) :=
  (modRelease_standing s f (fun r => { r with state := st }) (fun _ => rfl) fun _ => rfl).trans (decide_standing _ f)

theorem departureClose_standing (s : State) (f : Face) : Standing s (s.departureClose f) :=
  .of_sequenced (applyDoors_sequenced s f _ _) (applyDoors_calm s f _ _).toQuiet fun g =>
    applyDoors_release s f g _ _ fun c d => d.departureClose_reports c

/-! ### Evacuation -/

/-- An evacuation that begins on a VACANT berth closes the face, and nothing else (R139). -/
theorem testEvacuation_standing {s : State} {f : Face} (h : (s.face f).berth.state = .vacant) : Standing s (s.testEvacuation f) := by
  unfold testEvacuation
  split
  · obtain ⟨berth, -⟩ := evacuating_records s f
    have shut : s.beginEvacuation f = (s.evacuating f).departureClose f := by
      rw [beginEvacuation_eq, if_neg (by simp [berth, h])]
    rw [shut]
    exact ((setRelease_standing s f _).trans (raiseFace_standing _ f _)).trans (departureClose_standing _ f)
  · exact .refl s

/-! ### Adoption -/

theorem modDropLink_standing (s : State) (f : Face) (drop : Nat) (g : UnitLink → UnitLink) : Standing s (s.modDropLink f drop g) :=
  modDoors_standing s f _

theorem beginTurn_standing (s : State) (f : Face) (kind : TurnKind) (drop : Nat) : Standing s (s.beginTurn f kind drop) := by
  unfold beginTurn
  exact (modDropLink_standing s f drop _).trans (modLine_standing _ f _)

theorem nextTurn_standing (s : State) (f : Face) : Standing s (s.nextTurn f) := by
  unfold nextTurn
  dsimp only
  split
  · split
    · exact (modLine_standing s f _).trans (beginTurn_standing _ f _ _)
    · exact modLine_standing s f _
  · exact (modLine_standing s f _).trans (modLine_standing _ f _)

theorem startLine_standing (s : State) (f : Face) : Standing s (s.startLine f) := by
  unfold startLine
  dsimp only
  split
  · exact modLine_standing s f _
  · exact (modLine_standing s f _).trans (nextTurn_standing _ f)

theorem endTunnel_none {s : State} {f : Face} (h : (s.face f).line.tunnel = none) (r : Result) (d : List Byte) :
    s.endTunnel f r d = s := by
  rw [endTunnel, h]

/-- A line without an exchange follows an adoption without a reply (R102). -/
theorem followLine_standing {s : State} {f : Face} (h : (s.face f).line.tunnel = none) (was : Bool) :
    Standing s (s.followLine f was) := by
  unfold followLine
  dsimp only
  generalize hv : s.modLine f _ = v
  have standing : Standing s v := hv ▸ modLine_standing s f _
  have quiet : (v.face f).line.tunnel = none := by simpa [← hv] using h
  split
  · split
    · rw [quiet]
      exact standing
    · exact standing.trans (startLine_standing v f)
  · rw [endTunnel_none quiet]
    split
    · exact standing
    · exact standing.trans (modLine_standing v f _)

theorem beginCopy_standing (s : State) (b : BankId) : Standing s (s.beginCopy b) :=
  modTbs_standing s _ (by cases b <;> rfl)

theorem modGap_standing (s : State) (f : Face) : Standing s (s.modGap fun g => { g with adopted := g.adopted.set f true }) :=
  ⟨.of_lif rfl rfl, rfl, rfl, rfl, rfl, by simp, by simp, by simp, by simp, by simp⟩

theorem formSets_standing (s : State) (f : Face) : Standing s (s.formSets f) := modProof_standing s f _

/-- An adoption handed on to the doors, the line, the Gap Monitor and the Proof Unit, before the test for evacuation (R178). -/
def adoptionHanded (s : State) (f : Face) (was : Bool) : State :=
  ((((((s.modDoors f fun ds => rebuildDoors ds (s.faceEntries f)).doorsHandOn f).followLine f was).modGap
    fun g => { g with adopted := g.adopted.set f true }).formSets f).decide f)

theorem handOnAdoption_eq (s : State) (f : Face) (was : Bool) :
    s.handOnAdoption f was = (s.adoptionHanded f was).testEvacuation f := rfl

theorem adoptionHanded_standing {s : State} {f : Face} (was : Bool) (ht : (s.face f).line.tunnel = none) :
    Standing s (s.adoptionHanded f was) := by
  unfold adoptionHanded
  generalize hw : (s.modDoors f _).doorsHandOn f = w
  have doors : Standing s w := hw ▸ (modDoors_standing s f _).trans (doorsHandOn_standing _ f)
  have line : Standing w (w.followLine f was) := followLine_standing (by simpa [← hw] using ht) was
  exact ((doors.trans line).trans (modGap_standing _ f)).trans ((formSets_standing _ f).trans (decide_standing _ f))

theorem handOnAdoption_standing {s : State} {f : Face} (was : Bool) (hv : (s.face f).berth.state = .vacant)
    (ht : (s.face f).line.tunnel = none) : Standing s (s.handOnAdoption f was) := by
  have handed := adoptionHanded_standing was ht
  rw [handOnAdoption_eq]
  exact handed.trans (testEvacuation_standing (by rw [handed.berth, hv]))

/-- An adoption on a VACANT berth whose line has no exchange. -/
theorem adopt_standing {s : State} {f : Face} (b : BankId) (hv : (s.face f).berth.state = .vacant)
    (ht : (s.face f).line.tunnel = none) : Standing s (s.adopt f b) := by
  unfold adopt
  dsimp only
  generalize hw : s.modTbs _ = w
  have active : Standing s w := hw ▸ modTbs_standing s _ rfl
  have handed : Standing w (w.handOnAdoption f (s.configured f)) :=
    handOnAdoption_standing _ (by rw [active.berth, hv]) (by simpa [← hw] using ht)
  have raised := (active.trans handed).trans (raiseFace_standing _ f .bankAdopted)
  split
  · exact raised.trans (beginCopy_standing _ b)
  · exact raised

theorem testAdoption_standing {s : State} {f : Face} (ht : (s.face f).line.tunnel = none) : Standing s (s.testAdoption f) := by
  unfold testAdoption
  split
  · exact .refl s
  next b _ =>
    split
    next h => exact adopt_standing b h.2.1 ht
    · exact .refl s

end State

end Sys2Proof.Machine
end

section
/-! PROOFS. The other face's adoption or evacuation after a soft reset is no matter for a face: its blocks, its Proof Unit, its parameters and
what its own tests read stand (R137, R177 to R179). -/

namespace Sys2Proof.Machine

/-- A face but for its alert output, which follows the flags of the whole device (R189). -/
def FaceState.muted (x : FaceState) : FaceState := { x with proof := { x.proof with alertDriven := false } }

/-- Work that leaves a face alone, but for its alert output: its records and its parameters stand, and no bank is staged anew. -/
structure Apart (f : Face) (s u : State) : Prop where
  face : (u.face f).muted = (s.face f).muted
  params : u.params? f = s.params? f
  active : u.tbs.active.get f = s.tbs.active.get f
  staged : ∀ b, u.tbs.staged = some b → s.tbs.staged = some b

namespace Apart

theorem refl (f : Face) (s : State) : Apart f s s := ⟨rfl, rfl, rfl, fun _ h => h⟩

theorem trans {f : Face} {s u v : State} (h : Apart f s u) (k : Apart f u v) : Apart f s v :=
  ⟨k.face.trans h.face, k.params.trans h.params, k.active.trans h.active, fun b hb => h.staged b (k.staged b hb)⟩

theorem of_face {f : Face} {s u : State} (hf : (u.face f).muted = (s.face f).muted) (ht : u.tbs = s.tbs) : Apart f s u :=
  ⟨hf, by simp only [State.params?, State.tables?, ht], by rw [ht], fun b => by rw [ht]; exact id⟩

theorem foldl {f : Face} {α : Type} (l : List α) (g : State → α → State) (hg : ∀ s x, Apart f s (g s x)) (s : State) :
    Apart f s (l.foldl g s) := by
  induction l generalizing s with
  | nil => exact .refl f s
  | cons x rest ih => exact (hg s x).trans (ih _)

theorem opt {f : Face} {s a : State} {c : Prop} {_ : Decidable c} (h : Apart f s a) : Apart f s (if c then a else s) := by
  split
  · exact h
  · exact .refl f s

theorem blocks {f : Face} {s u : State} (h : Apart f s u) : (u.face f).blocks = (s.face f).blocks :=
  show (u.face f).muted.blocks = (s.face f).muted.blocks by rw [h.face]

theorem configured {f : Face} {s u : State} (h : Apart f s u) : u.configured f = s.configured f :=
  congrArg Option.isSome h.params

theorem noAdoption {f : Face} {s u : State} (h : Apart f s u) (k : NoAdoption s f) : NoAdoption u f := by
  intro b hb
  have release : (u.face f).release = (s.face f).release := congrArg FaceBlocks.release h.blocks
  rw [h.active, release]
  exact k b (h.staged b hb)

end Apart

namespace State

/-! ### Work on the other face -/

section

variable (s : State) (f : Face)

theorem modDoors_apart (g : List Door → List Door) : Apart f s (s.modDoors f.partner g) := .of_face (by simp) rfl

theorem modLine_apart (g : DoorLine → DoorLine) : Apart f s (s.modLine f.partner g) := .of_face (by simp) rfl

theorem modRelease_apart (g : Release → Release) : Apart f s (s.modRelease f.partner g) := .of_face (by simp) rfl

theorem modProof_apart (g : ProofRecord → ProofRecord) : Apart f s (s.modProof f.partner g) := .of_face (by simp) rfl

theorem modLif_apart (g : LinkInterface → LinkInterface) : Apart f s (s.modLif g) := .of_face rfl rfl

theorem modGap_apart (g : GapMonitor → GapMonitor) : Apart f s (s.modGap g) := .of_face rfl rfl

theorem refreshAlerts_apart : Apart f s s.refreshAlerts := .of_face (by cases f <;> rfl) rfl

theorem joinNotice_apart (c : Scope) (k : EventKind) : Apart f s (s.joinNotice c k) := by
  unfold joinNotice
  split
  · exact .of_face rfl rfl
  · exact .refl f s

theorem raise_apart (c : Scope) (k : EventKind) : Apart f s (s.raise c k) := by
  unfold raise
  split
  · exact .refl f s
  · exact ((modLif_apart s f _).trans (joinNotice_apart _ f c k)).trans (refreshAlerts_apart _ f)

theorem decide_apart : Apart f s (s.decide f.partner) := by
  unfold decide
  dsimp only
  split
  · exact modProof_apart s f _
  · exact (modProof_apart s f _).trans (modLif_apart _ f _)

theorem formSets_apart : Apart f s (s.formSets f.partner) := modProof_apart s f _

theorem setActive_apart (c : ConditionSet) : Apart f s (s.setActive f.partner c) := by
  unfold setActive
  split
  · exact decide_apart s f
  · exact ((modProof_apart s f _).trans (formSets_apart _ f)).trans (decide_apart _ f)

theorem doorsHandOn_apart : Apart f s (s.doorsHandOn f.partner) := (modProof_apart s f _).trans (setActive_apart _ f _)

theorem setRelease_apart (st : ReleaseState) : Apart f s (s.setRelease f.partner st) :=
  (modRelease_apart s f _).trans (decide_apart _ f)

theorem takeReport_apart (n : Nat) (r : DoorReport) : Apart f s (s.takeReport f.partner n r) := by
  cases r
  case latchSet =>
    unfold takeReport takeLatch
    dsimp only
    split
    · exact ((modRelease_apart s f _).trans (setRelease_apart _ f _)).trans (raise_apart _ f _ _)
    · exact (modRelease_apart s f _).trans (raise_apart _ f _ _)
  all_goals unfold takeReport; exact modRelease_apart s f _

theorem takeReports_apart (n : Nat) (l : List DoorReport) : Apart f s (s.takeReports f.partner n l) :=
  .foldl l _ (fun s r => takeReport_apart s f n r) s

theorem applyDoor_apart (n : Nat) (g : DoorContext → Door → DoorOutcome) : Apart f s (s.applyDoor f.partner n g) := by
  unfold applyDoor
  split
  · exact .refl f s
  · exact ((((modDoors_apart s f _).trans (takeReports_apart _ f n _)).trans (doorsHandOn_apart _ f)).trans
      (.foldl _ _ (fun s k => raise_apart s f _ k) _)).trans (takeReports_apart _ f n _)

theorem applyDoors_apart (p : Door → Bool) (g : DoorContext → Door → DoorOutcome) : Apart f s (s.applyDoors f.partner p g) :=
  .foldl _ _ (fun s n => applyDoor_apart s f n g) s

/-! ### Evacuation and adoption -/

variable {s f}

theorem testEvacuation_apart (h : (s.face f.partner).berth.state = .vacant) : Apart f s (s.testEvacuation f.partner) := by
  unfold testEvacuation
  split
  · obtain ⟨berth, -⟩ := evacuating_records s f.partner
    have shut : s.beginEvacuation f.partner = (s.evacuating f.partner).departureClose f.partner := by
      rw [beginEvacuation_eq, if_neg (by simp [berth, h])]
    rw [shut]
    exact ((setRelease_apart s f _).trans (raise_apart _ f _ _)).trans (applyDoors_apart _ f _ _)
  · exact .refl f s

variable (s f)

theorem beginTurn_apart (kind : TurnKind) (drop : Nat) : Apart f s (s.beginTurn f.partner kind drop) := by
  unfold beginTurn modDropLink
  exact (modDoors_apart s f _).trans (modLine_apart _ f _)

theorem nextTurn_apart : Apart f s (s.nextTurn f.partner) := by
  unfold nextTurn
  dsimp only
  split
  · split
    · exact (modLine_apart s f _).trans (beginTurn_apart _ f _ _)
    · exact modLine_apart s f _
  · exact (modLine_apart s f _).trans (modLine_apart _ f _)

theorem startLine_apart : Apart f s (s.startLine f.partner) := by
  unfold startLine
  dsimp only
  split
  · exact modLine_apart s f _
  · exact (modLine_apart s f _).trans (nextTurn_apart _ f)

theorem endTunnel_apart (r : Result) (d : List Byte) : Apart f s (s.endTunnel f.partner r d) := by
  unfold endTunnel
  split
  · exact .refl f s
  · exact (modLine_apart s f _).trans (modLif_apart _ f _)

theorem followLine_apart (was : Bool) : Apart f s (s.followLine f.partner was) := by
  unfold followLine
  dsimp only
  generalize hv : s.modLine f.partner _ = v
  refine (hv ▸ modLine_apart s f _ : Apart f s v).trans ?_
  split
  · split
    · split
      · split
        · exact .refl f v
        · exact endTunnel_apart v f _ _
      · exact .refl f v
    · exact startLine_apart v f
  · have ended := endTunnel_apart v f (.refused .notConfigured) []
    split
    · exact ended
    · exact ended.trans (modLine_apart _ f _)

/-- The copy that a second adoption begins leaves every table as it is (R179). -/
theorem beginCopy_apart (b : BankId) : Apart f s (s.beginCopy b) := by
  have active : (s.beginCopy b).tbs.active = s.tbs.active := by cases b <;> rfl
  have tables (x : BankId) : ((s.beginCopy b).tbs.bank x).tables = (s.tbs.bank x).tables := by cases b <;> cases x <;> rfl
  refine ⟨rfl, ?_, by rw [active], fun _ h => absurd h (by simp [beginCopy])⟩
  simp only [params?, tables?, active, tables]

theorem adoptionHanded_apart (was : Bool) : Apart f s (s.adoptionHanded f.partner was) := by
  unfold adoptionHanded
  have doors := (modDoors_apart s f fun ds => rebuildDoors ds (s.faceEntries f.partner)).trans (doorsHandOn_apart _ f)
  exact ((doors.trans (followLine_apart _ f was)).trans (modGap_apart _ f _)).trans ((formSets_apart _ f).trans (decide_apart _ f))

variable {s f}

theorem handOnAdoption_apart (was : Bool) (hv : (s.face f.partner).berth.state = .vacant)
    (ht : (s.face f.partner).line.tunnel = none) : Apart f s (s.handOnAdoption f.partner was) := by
  rw [handOnAdoption_eq]
  exact (adoptionHanded_apart s f was).trans (testEvacuation_apart (by rw [(adoptionHanded_standing was ht).berth, hv]))

/-- The other face's active bank is no matter for a face's own. -/
theorem activeSet_apart (s : State) (f : Face) (b : BankId) :
    Apart f s (s.modTbs fun t => { t with active := t.active.set f.partner (some b) }) := by
  have own : (s.tbs.active.set f.partner (some b)).get f = s.tbs.active.get f := by cases f <;> rfl
  refine ⟨rfl, ?_, own, fun _ h => h⟩
  simp only [params?, tables?, modTbs_tbs, own]
  rfl

theorem adopt_apart (b : BankId) (hv : (s.face f.partner).berth.state = .vacant) (ht : (s.face f.partner).line.tunnel = none) :
    Apart f s (s.adopt f.partner b) := by
  unfold adopt
  dsimp only
  generalize hw : s.modTbs _ = w
  have active : Apart f s w := hw ▸ activeSet_apart s f b
  have handed : Apart f w (w.handOnAdoption f.partner (s.configured f.partner)) :=
    handOnAdoption_apart _ (by simpa [← hw] using hv) (by simpa [← hw] using ht)
  have raised := (active.trans handed).trans (raise_apart _ f (.face f.partner) .bankAdopted)
  split
  · exact raised.trans (beginCopy_apart _ f b)
  · exact raised

theorem testAdoption_apart (ht : (s.face f.partner).line.tunnel = none) : Apart f s (s.testAdoption f.partner) := by
  unfold testAdoption
  split
  · exact .refl f s
  next b _ =>
    split
    next h => exact adopt_apart b h.2.1 ht
    · exact .refl f s

end

end State

end Sys2Proof.Machine
end

section
/-! PROOFS. SOFT_RESET as a step: the tests for adoption and evacuation, and the arbiter's turn (R177, R191, R194). -/

namespace Sys2Proof.Machine

namespace State

/-! ### The arbiter without a reply -/

/-- Without a reply to send, the after-reset mark stands (R191, R195). -/
theorem arbitrate_afterReset {s : State} (h : s.lif.replies = []) : s.arbitrate.lif.afterReset = s.lif.afterReset := by
  unfold arbitrate
  split
  · rfl
  · rw [h]
    cases s.lif.changed with
    | cons p rest => rfl
    | nil =>
      dsimp only
      split
      · rfl
      · split
        · unfold sendPeriodic
          split <;> rfl
        · rfl

theorem arbitrate_steadfast {s : State} (h : s.lif.replies = []) : Steadfast s s.arbitrate :=
  have a := arbitrate_arbitrated s
  ⟨(arbitrate_calm s).toQuiet, a.lif_badCount, a.lif_goodStreak, a.lif_degraded, a.lif_silence, a.lif_resetCause,
    arbitrate_afterReset h, a.lif_routes, a.lif_errorLimit, a.lif_snapshot, a.lif_preparing⟩

/-- A periodic telegram that is not there is not made by the arbiter (R162, R191). -/
theorem sendPeriodic_pending_none {s : State} {f : Face} (h : (s.face f).proof.pending = none) (g : Face) :
    ((s.sendPeriodic g).face f).proof.pending = none := by
  unfold sendPeriodic
  split
  · exact h
  · obtain rfl | rfl := Face.eq_or_partner g f
    · simp [beginSending]
    · rw [beginSending, modLif_face, modProof_face_partner]
      exact h

theorem arbitrate_pending_none {s : State} {f : Face} (h : (s.face f).proof.pending = none) :
    (s.arbitrate.face f).proof.pending = none := by
  unfold arbitrate
  split
  · exact h
  · split
    · exact h
    · exact h
    · split
      · exact h
      · split
        · exact sendPeriodic_pending_none h _
        · exact h

/-! ### The tests -/

/-- A soft reset's tests for adoption and evacuation, and the alerts at its end (R137, R177, R189). -/
def tested (s : State) : State :=
  ((((s.testAdoption .A).testAdoption .B).testEvacuation .A).testEvacuation .B).refreshAlerts

theorem softReset_tested (s : State) (evac : PerFace Level) : s.softReset evac = (s.restarted evac).tested := rfl

/-- Both berths are VACANT and no line has an exchange. -/
structure Idle (s : State) : Prop where
  vacant : ∀ f, (s.face f).berth.state = .vacant
  tunnel : ∀ f, (s.face f).line.tunnel = none

/-- Face A's adoption leaves the other line without an exchange. -/
theorem Idle.tunnel_B {s : State} (h : Idle s) : ((s.testAdoption .A).face .B).line.tunnel = none := by
  have apart : Apart .B s (s.testAdoption .A) := testAdoption_apart (f := .B) (h.tunnel .A)
  rw [show ((s.testAdoption .A).face .B).line = (s.face .B).line from congrArg FaceBlocks.line apart.blocks]
  exact h.tunnel .B

theorem refreshAlerts_standing (s : State) : Standing s s.refreshAlerts := (modProof_standing s .A _).trans (modProof_standing _ .B _)

theorem tested_standing {s : State} (h : Idle s) : Standing s s.tested := by
  have a := testAdoption_standing (h.tunnel .A)
  have lineB := h.tunnel_B
  have ab := a.trans (testAdoption_standing lineB)
  have abA := ab.trans (testEvacuation_standing (f := .A) (by rw [ab.berth]; exact h.vacant .A))
  have abAB := abA.trans (testEvacuation_standing (f := .B) (by rw [abA.berth]; exact h.vacant .B))
  exact abAB.trans (refreshAlerts_standing _)

/-- Neither test moves a face: no bank waits for it, and no asserted input finds it configured and not EVACUATING (R137, R177). -/
structure Unmoved (s : State) (f : Face) : Prop where
  adoption : NoAdoption s f
  evacuation : s.configured f = false ∨ (s.face f).release.state = .evacuating ∨ (s.face f).release.input = .deasserted

theorem Unmoved.apart {s u : State} {f : Face} (h : Unmoved s f) (k : Apart f s u) : Unmoved u f := by
  obtain ⟨adoption, evacuation⟩ := h
  have release : (u.face f).release = (s.face f).release := congrArg FaceBlocks.release k.blocks
  exact ⟨k.noAdoption adoption, by rw [k.configured, release]; exact evacuation⟩

theorem testAdoption_unmoved {s : State} {f : Face} (h : Unmoved s f) (g : Face) (ht : (s.face g).line.tunnel = none) :
    Apart f s (s.testAdoption g) := by
  obtain rfl | rfl := Face.eq_or_partner f g
  · rw [testAdoption_none h.adoption]
    exact .refl _ s
  · exact testAdoption_apart ht

theorem testEvacuation_unmoved {s : State} {f : Face} (h : Unmoved s f) (g : Face) (hv : (s.face g).berth.state = .vacant) :
    Apart f s (s.testEvacuation g) := by
  obtain rfl | rfl := Face.eq_or_partner f g
  · rw [testEvacuation_nothing h.evacuation]
    exact .refl _ s
  · exact testEvacuation_apart hv

theorem tested_apart {s : State} {f : Face} (h : Idle s) (k : Unmoved s f) : Apart f s s.tested := by
  have a := testAdoption_unmoved k .A (h.tunnel .A)
  have standA := testAdoption_standing (h.tunnel .A)
  have lineB := h.tunnel_B
  have standAB := standA.trans (testAdoption_standing lineB)
  have ab := a.trans (testAdoption_unmoved (k.apart a) .B lineB)
  have vacantA : (((s.testAdoption .A).testAdoption .B).face .A).berth.state = .vacant := by rw [standAB.berth]; exact h.vacant .A
  have standABA := standAB.trans (testEvacuation_standing vacantA)
  have abA := ab.trans (testEvacuation_unmoved (k.apart ab) .A vacantA)
  have vacantB : ((((s.testAdoption .A).testAdoption .B).testEvacuation .A).face .B).berth.state = .vacant := by
    rw [standABA.berth]; exact h.vacant .B
  exact (abA.trans (testEvacuation_unmoved (k.apart abA) .B vacantB)).trans (refreshAlerts_apart _ f)

/-! ### The command -/

theorem takeSoftReset_eq {s : State} {r : Request} (h : r.body = []) (evac : PerFace Level) :
    s.takeSoftReset evac r = s.softReset evac := by simp [takeSoftReset, withNoFields, h]

end State

theorem exec_softReset {s : State} {r : Request} {rest : List Request} (h : Takes s r rest (some .softReset)) (hb : r.body = [])
    (t : Micros) (evac : PerFace Level) :
    exec (.softReset t evac) s = .next (((s.handed t rest).restarted evac).tested).arbitrate := by
  rw [exec_of_takes rfl h, State.takeSoftReset_eq hb, State.softReset_tested]

namespace State

/-- The records of a face after the resets, its doors and its Proof Unit apart (R24, R101, R125, R151). -/
theorem restarted_records (s : State) (evac : PerFace Level) (f : Face) :
    ((s.restarted evac).face f).berth = (s.face f).berth.restarted ∧
      ((s.restarted evac).face f).deferral = (s.face f).deferral.restarted ∧ ((s.restarted evac).face f).reports = [] ∧
      ((s.restarted evac).face f).line = .restarted (s.configured f) ((s.face f).doors.map Door.softReset) s.now ∧
      ((s.restarted evac).face f).release = { (s.face f).release with input := evac.get f } := by
  obtain ⟨berth, -, deferral, reports, line, release⟩ := face_records_of (restarted_blocks s evac) f
  rw [berth, deferral, reports, line, release, Blocks.restarted, Blocks.get_modFaces, blocks_get]
  exact ⟨rfl, rfl, rfl, rfl, rfl⟩

theorem shared_of_blocks {u : State} {b : Blocks} (h : u.blocks = b) :
    u.holds = b.holds ∧ u.aln = b.aln ∧ u.gap = b.gap ∧ u.tbs = b.tbs := by
  subst h
  exact ⟨rfl, rfl, rfl, rfl⟩

/-- The shared blocks after the resets (R31, R119, R180). -/
theorem restarted_shared (s : State) (evac : PerFace Level) :
    (s.restarted evac).holds = s.holds ∧ (s.restarted evac).aln = { s.aln with inflight := none, waiting := ⟨none, none⟩ } ∧
      (s.restarted evac).gap = s.gap.restarted s.now ∧
      (s.restarted evac).tbs = { s.tbs with validation := none, copy := s.tbs.copy.map fun c => { c with beganAt := s.ms } } :=
  shared_of_blocks (restarted_blocks s evac)

theorem restarted_idle (s : State) (evac : PerFace Level) : Idle (s.restarted evac) := by
  refine ⟨fun f => ?_, fun f => ?_⟩
  · obtain ⟨berth, -⟩ := restarted_records s evac f
    rw [berth]
    rfl
  · obtain ⟨-, -, -, line, -⟩ := restarted_records s evac f
    rw [line]
    rfl

theorem arbitrate_standing {s : State} (h : s.lif.replies = []) : Standing s s.arbitrate :=
  have a := arbitrate_arbitrated s
  ⟨arbitrate_steadfast h, a.holds, a.aln, by rw [a.gap], by rw [a.tbs], a.berth, a.reports, a.deferral,
    fun f => by rw [a.release f], fun f => by rw [a.release f]⟩

/-- The step of a soft reset from the resets on. -/
theorem softReset_standing (s : State) (evac : PerFace Level) :
    Standing (s.restarted evac) ((s.restarted evac).tested).arbitrate := by
  have standing := tested_standing (restarted_idle s evac)
  exact standing.trans (arbitrate_standing ((restarted_link s evac).steadfast standing.toSteadfast).replies)

end State

/-- The first part of O4: what a soft reset gives whatever follows in its step. -/
theorem softReset_always (s : State) (t : Micros) (evac : PerFace Level) (r : Request) (rest : List Request)
    (takes : Takes s r rest (some .softReset)) (hb : r.body = []) :
    ∃ u, exec (.softReset t evac) s = .next u ∧
      (u.lif.intake = [] ∧ u.lif.replies = [] ∧ EventKind.reset ∈ u.lif.flags.device ∧ u.lif.badCount = 0 ∧
        u.lif.goodStreak = 0 ∧ u.lif.degraded = false ∧ u.lif.silence = some (u.ms + 2000) ∧ u.lif.resetCause = .soft ∧
        u.lif.afterReset = true ∧ u.lif.routes = s.lif.routes ∧ u.lif.errorLimit = s.lif.errorLimit ∧
        u.lif.snapshot = s.lif.snapshot ∧ u.lif.preparing = none) ∧
      (∀ f, (u.face f).berth = (s.face f).berth.restarted ∧
        (u.face f).reports = [] ∧ (u.face f).deferral.used = none ∧ (u.face f).deferral.lastEnd = (s.face f).deferral.lastEnd ∧
        (u.face f).release.seq = (s.face f).release.seq ∧ (u.face f).release.input = evac.get f) ∧
      u.aln = { s.aln with inflight := none, waiting := ⟨none, none⟩ } ∧
      (u.gap.cycle = s.gap.cycle + 1 ∧ u.gap.cycleStart = u.now) ∧ u.tbs.validation = none ∧ u.holds = s.holds := by
  obtain ⟨h, hh⟩ : ∃ h, s.handed t rest = h := ⟨_, rfl⟩
  have same : h.blocks = s.blocks := by simp [← hh]
  obtain ⟨holds, aln, gap, tbs⟩ := State.restarted_shared h evac
  have standing := State.softReset_standing h evac
  have link := (State.restarted_link h evac).steadfast standing.toSteadfast
  refine ⟨_, hh ▸ exec_softReset takes hb t evac, ⟨link.intake, link.replies, link.flag, link.badCount, link.goodStreak, link.degraded,
    ?_, link.resetCause, link.afterReset, ?_, ?_, ?_, link.preparing⟩, fun f => ?_, ?_, ⟨?_, ?_⟩, ?_, ?_⟩
  · rw [link.silence, State.ms, State.ms, link.now]
  · rw [link.routes]; simp [← hh, State.handed]
  · rw [link.errorLimit]; simp [← hh, State.handed]
  · rw [link.snapshot]; simp [← hh]
  · obtain ⟨berth, deferral, reports, -, release⟩ := State.restarted_records h evac f
    rw [standing.berth, standing.reports, standing.deferral, standing.seq, standing.input, berth, deferral, reports, release, ← hh,
      State.handed_berth, State.handed_deferral, State.handed_release]
    exact ⟨rfl, rfl, rfl, rfl, rfl, rfl⟩
  · rw [standing.aln, aln, show s.aln = h.aln from (congrArg Blocks.aln same).symm]
  · rw [standing.gap, gap, show s.gap = h.gap from (congrArg Blocks.gap same).symm]
    rfl
  · rw [standing.gap, gap, link.now]
    rfl
  · rw [standing.validation, tbs]
  · rw [standing.holds, holds, show s.holds = h.holds from (congrArg Blocks.holds same).symm]

end Sys2Proof.Machine
end

section
/-! PROOFS. The Proof Unit and the doors over a soft reset: proof begins afresh without a loss, and a restore close asked for again leaves it
NOT_HELD (R151, R153, R164). -/

namespace Sys2Proof.Machine

theorem Door.softReset_quiet (d : Door) : d.softReset.state ≠ .stalled ∧ d.softReset.state ≠ .held := by
  unfold Door.softReset
  dsimp only
  split
  · exact ⟨nofun, nofun⟩
  · split <;> exact ⟨nofun, nofun⟩

/-- A restore close with no obstruction in the way: a CLOSE and CLOSING, or the CLOSE alone for a LOST door (R75). -/
theorem Door.restoreClose_free {ctx : DoorContext} (h : ctx.occupied = false) (d : Door) : d.restoreClose ctx =
    plain (if d.state = .lost then d.place ctx .closeCmd .routine
      else ({ d with recycleCount := 0 }.place ctx .closeCmd .routine).goTo .closing) := by
  unfold restoreClose startClose enterClosing
  split <;> simp [h]

theorem Door.place_state (d : Door) (ctx : DoorContext) (c : DoorCommand) (u : Urgency) : (d.place ctx c u).state = d.state := by
  unfold place
  dsimp only
  split <;> rfl

theorem Door.restoreClose_quiet {ctx : DoorContext} (h : ctx.occupied = false) (d : Door) :
    (d.restoreClose ctx).door.state ≠ .stalled ∧ (d.restoreClose ctx).door.state ≠ .held := by
  rw [restoreClose_free h, plain]
  dsimp only
  split
  next lost => rw [place_state, lost]; exact ⟨nofun, nofun⟩
  · exact ⟨nofun, nofun⟩

namespace State

/-! ### Face proof without an active condition -/

/-- The requirements of face proof but for the conditions' (R154). -/
def provable (s : State) (f : Face) : Bool :=
  s.configured f && (s.face f).doors.all Door.countsClosed && ((s.gap.zones.get f).all fun z => z.state = .clear) &&
    (s.face f).release.state = .normal

theorem proofBlockers_isEmpty {s : State} {f : Face} (h : (s.face f).proof.withhold = noConditions) :
    (s.proofBlockers f).isEmpty = s.provable f := by
  simp [proofBlockers, Blockers.isEmpty, provable, h, noConditions, ConditionSet.nonempty, Bool.and_assoc]

theorem provable_of {s u : State} {f : Face} (ht : u.tbs = s.tbs) (hg : u.gap = s.gap) (hd : (u.face f).doors = (s.face f).doors)
    (hr : (u.face f).release.state = (s.face f).release.state) : u.provable f = s.provable f := by
  simp only [provable, configured_of_tbs ht, hg, hd, hr]

theorem provable_of_blocks {s u : State} (h : u.blocks = s.blocks) (f : Face) : u.provable f = s.provable f := by
  obtain ⟨-, doors, -, -, -, release⟩ := face_records_of h f
  rw [blocks_get] at doors release
  exact provable_of (congrArg Blocks.tbs h) (congrArg Blocks.gap h) doors (congrArg Release.state release)

/-- A Proof Unit that has begun afresh: no condition, no count, no telegram waiting, and its losses kept (R164). -/
structure Renewed (losses : Counter) (periodicAt : Millis) (f : Face) (s : State) : Prop where
  losses : (s.face f).proof.losses = losses
  pending : (s.face f).proof.pending = none
  periodicAt : (s.face f).proof.periodicAt = periodicAt
  active : (s.face f).proof.active = noConditions
  withhold : (s.face f).proof.withhold = noConditions
  holdClosed : (s.face f).proof.holdClosed = noConditions
  stalledCount : (s.face f).proof.stalledCount = 0
  heldCount : (s.face f).proof.heldCount = 0
  loopClosed : (s.face f).proof.loopClosed = (s.face f).proof.held

/-- Such a Proof Unit once it has decided (R156). -/
structure Decided (losses : Counter) (periodicAt : Millis) (f : Face) (s : State) : Prop extends
    Renewed losses periodicAt f s where
  held : (s.face f).proof.held = s.provable f

section

variable {l : Counter} {t : Millis} {f : Face} {s u : State}

theorem Renewed.of_proof (h : Renewed l t f s) (hp : (u.face f).proof = (s.face f).proof) : Renewed l t f u := by
  obtain ⟨losses, pending, periodicAt, active, withhold, holdClosed, stalledCount, heldCount, loopClosed⟩ := h
  constructor <;> rw [hp] <;> assumption

theorem Renewed.apart (h : Renewed l t f s) (k : Apart f s u) : Renewed l t f u := by
  have muted : (u.face f).muted.proof = (s.face f).muted.proof := congrArg FaceState.proof k.face
  obtain ⟨losses, pending, periodicAt, active, withhold, holdClosed, stalledCount, heldCount, loopClosed⟩ := h
  exact ⟨(congrArg ProofRecord.losses muted).trans losses, (congrArg ProofRecord.pending muted).trans pending,
    (congrArg ProofRecord.periodicAt muted).trans periodicAt, (congrArg ProofRecord.active muted).trans active,
    (congrArg ProofRecord.withhold muted).trans withhold, (congrArg ProofRecord.holdClosed muted).trans holdClosed,
    (congrArg ProofRecord.stalledCount muted).trans stalledCount, (congrArg ProofRecord.heldCount muted).trans heldCount,
    (congrArg ProofRecord.loopClosed muted).trans (loopClosed.trans (congrArg ProofRecord.held muted).symm)⟩

theorem Decided.of_proof (h : Decided l t f s) (hp : (u.face f).proof = (s.face f).proof) (hv : u.provable f = s.provable f) :
    Decided l t f u := ⟨h.toRenewed.of_proof hp, by rw [hp, hv, h.held]⟩

theorem Decided.apart (h : Decided l t f s) (k : Apart f s u) (hg : u.gap.zones = s.gap.zones) : Decided l t f u := by
  refine ⟨h.toRenewed.apart k, ?_⟩
  have held : (u.face f).proof.held = (s.face f).proof.held := congrArg (fun x => x.proof.held) k.face
  have doors : (u.face f).doors = (s.face f).doors := congrArg FaceBlocks.doors k.blocks
  have release : (u.face f).release = (s.face f).release := congrArg FaceBlocks.release k.blocks
  rw [held, h.held, provable, provable, k.configured, doors, release, hg]

theorem decide_proof (s : State) (f : Face) : ((s.decide f).face f).proof = s.decidedProof f := by
  unfold decide
  dsimp only
  split <;> simp

/-- A decision that does not end proof counts no loss (R153). -/
theorem Renewed.decide (h : Renewed l t f s) (sound : (s.face f).proof.held = true → s.provable f = true) :
    Decided l t f (s.decide f) := by
  have proof := decide_proof s f
  have decided : s.decidedProof f =
      { (s.face f).proof with blockers := s.proofBlockers f, held := s.provable f, loopClosed := s.provable f } := by
    have kept : ((s.face f).proof.held && !s.provable f) = false := by
      cases hh : (s.face f).proof.held
      · rfl
      · rw [sound hh]; rfl
    simp only [decidedProof, proofBlockers_isEmpty h.withhold, kept]
    rfl
  rw [decided] at proof
  refine ⟨⟨?_, ?_, ?_, ?_, ?_, ?_, ?_, ?_, ?_⟩, ?_⟩ <;> rw [proof]
  · exact h.losses
  · exact h.pending
  · exact h.periodicAt
  · exact h.active
  · exact h.withhold
  · exact h.holdClosed
  · exact h.stalledCount
  · exact h.heldCount
  · exact (provable_of_blocks (decide_blocks s f) f).symm

theorem Decided.decide (h : Decided l t f s) : Decided l t f (s.decide f) :=
  h.toRenewed.decide fun held => h.held ▸ held

/-- With no door STALLED or HELD a hand-on is a decision alone (R157). -/
theorem Renewed.doorsHandOn (h : Renewed l t f s) (sound : (s.face f).proof.held = true → s.provable f = true)
    (quiet : ∀ d ∈ (s.face f).doors, d.state ≠ .stalled ∧ d.state ≠ .held) : Decided l t f (s.doorsHandOn f) := by
  have stalled : (s.face f).doors.countP (fun d => d.state = .stalled) = 0 := by
    rw [List.countP_eq_zero]; exact fun d hd => by simp [(quiet d hd).1]
  have held : (s.face f).doors.countP (fun d => d.state = .held) = 0 := by
    rw [List.countP_eq_zero]; exact fun d hd => by simp [(quiet d hd).2]
  unfold State.doorsHandOn
  dsimp only
  rw [stalled, held]
  generalize hw : s.modProof f _ = w
  have renewed : Renewed l t f w := by
    constructor <;>
      simp [← hw, h.losses, h.pending, h.periodicAt, h.active, h.withhold, h.holdClosed, h.loopClosed]
  have provable : w.provable f = s.provable f := by rw [← hw]; exact provable_of_blocks (modProof_blocks s f _) f
  rw [setActive, if_pos (by rw [renewed.active]; rfl)]
  exact renewed.decide (by rw [provable]; simpa [← hw] using sound)

/-- A soft reset begins the Proof Unit afresh, NOT_HELD (R164). -/
theorem proofSoftReset_renewed (s : State) (f : Face) :
    Renewed (s.face f).proof.losses (s.ms + 200) f (s.proofSoftReset f) ∧ ((s.proofSoftReset f).face f).proof.held = false := by
  refine ⟨?_, by simp [proofSoftReset]⟩
  constructor <;> simp [proofSoftReset]

/-! ### The doors (R78) -/

/-- After its own reset a face's Proof Unit has decided (R78, R156). -/
theorem Renewed.faceSoftReset (h : Renewed l t f s) (held : (s.face f).proof.held = false) : Decided l t f (s.faceSoftReset f) := by
  unfold State.faceSoftReset
  dsimp only
  generalize hw : State.modDoors _ f _ = w
  have proof : (w.face f).proof = (s.face f).proof := by simp [← hw]
  refine (h.of_proof proof).doorsHandOn (by simp [proof, held]) fun d hd => ?_
  have doors : (w.face f).doors = (s.face f).doors.map Door.softReset := by simp [← hw]
  rw [doors] at hd
  obtain ⟨e, -, rfl⟩ := List.mem_map.1 hd
  exact e.softReset_quiet

theorem faceSoftReset_apart (s : State) (f : Face) : Apart f s (s.faceSoftReset f.partner) := by
  unfold State.faceSoftReset
  dsimp only
  generalize hw : State.modDoors _ f.partner _ = w
  have records : Apart f s w := by
    subst hw
    exact .of_face (by simp) rfl
  exact records.trans (doorsHandOn_apart w f)

/-! ### The lines leave the Proof Unit alone -/

theorem beginTurn_proof (s : State) (f g : Face) (kind : TurnKind) (drop : Nat) :
    ((s.beginTurn f kind drop).face g).proof = (s.face g).proof := by
  simp [beginTurn, modDropLink]

theorem lineSoftReset_proof (s : State) (f g : Face) : ((s.lineSoftReset f).face g).proof = (s.face g).proof := by
  unfold lineSoftReset
  dsimp only
  split
  · unfold nextTurn
    dsimp only
    split
    · split
      · rw [beginTurn_proof]; simp
      · simp
    · simp
  · simp

/-! ### A restore close asked for again (R75, R151) -/

/-- A zone not OCCUPIED stops no door (R68). -/
theorem doorContext_unoccupied (h : ∀ z ∈ s.gap.zones.get f, z.state = .unknown) (n : Nat) :
    (s.doorContext f n).occupied = false := by
  simp only [doorContext, List.any_eq_false]
  intro z hz
  simp [h z hz]

/-- A restoring face over the restore closes of a soft reset: proof is withheld, no zone knows an obstruction, and no door is STALLED or
HELD. -/
structure Restoring (losses : Counter) (periodicAt : Millis) (f : Face) (s : State) : Prop extends
    Decided losses periodicAt f s where
  release : (s.face f).release.state = .restoring
  zones : ∀ z ∈ s.gap.zones.get f, z.state = .unknown
  quiet : ∀ d ∈ (s.face f).doors, d.state ≠ .stalled ∧ d.state ≠ .held

theorem provable_restoring (h : (s.face f).release.state = .restoring) : s.provable f = false := by simp [provable, h]

theorem Restoring.applyDoor (h : Restoring l t f s) (n : Nat) :
    Restoring l t f (s.applyDoor f n fun ctx d => d.restoreClose ctx) := by
  have release : ((s.applyDoor f n fun ctx d => d.restoreClose ctx).face f).release.state = .restoring := by
    rw [applyDoor_release_quiet s f f n _ fun c d => d.restoreClose_reports c, h.release]
  cases hd : s.findDoor f n with
  | none => rw [applyDoor_absent _ _ _ _ hd]; exact h
  | some d =>
    have free := doorContext_unoccupied h.zones n
    have doors := applyDoor_doors s f n (fun ctx d => d.restoreClose ctx) d hd
    have still : ∀ x ∈ ((s.applyDoor f n fun ctx d => d.restoreClose ctx).face f).doors, x.state ≠ .stalled ∧ x.state ≠ .held := by
      rw [doors]
      intro x hx
      obtain ⟨e, he, rfl⟩ := List.mem_map.1 hx
      split
      · exact d.restoreClose_quiet free
      · exact h.quiet e he
    have step : s.applyDoor f n (fun ctx d => d.restoreClose ctx) =
        (s.putDoor f n (d.restoreClose (s.doorContext f n)).door).doorsHandOn f := by
      simp [State.applyDoor, hd, Door.restoreClose_free free, Door.plain, takeReports, raiseAll]
    have proof : ((s.putDoor f n (d.restoreClose (s.doorContext f n)).door).face f).proof = (s.face f).proof := by simp [putDoor]
    have notHeld : (s.face f).proof.held = false := by rw [h.held, provable_restoring h.release]
    refine ⟨?_, release, by simpa using h.zones, still⟩
    rw [step] at still ⊢
    exact (h.toRenewed.of_proof proof).doorsHandOn (by simp [proof, notHeld]) (by simpa using still)

theorem Restoring.restoreClose (h : Restoring l t f s) : Restoring l t f (s.restoreClose f) := by
  unfold State.restoreClose applyDoors
  generalize ((s.face f).doors.filter Door.restorable).map (fun d => d.number) = ns
  induction ns generalizing s with
  | nil => exact h
  | cons n rest ih => exact ih (h.applyDoor n)

/-- The Release Supervisor's reset leaves a Proof Unit that has decided as it is (R151). -/
theorem Decided.releaseSoftReset (h : Decided l t f s) (hz : ∀ z ∈ s.gap.zones.get f, z.state = .unknown)
    (hq : ∀ d ∈ (s.face f).doors, d.state ≠ .stalled ∧ d.state ≠ .held) (level : Level) :
    Decided l t f (s.releaseSoftReset f level) := by
  unfold State.releaseSoftReset
  dsimp only
  generalize hv : s.modRelease f _ = v
  have state : (v.face f).release.state = (s.face f).release.state := by simp [← hv]
  have taken : Decided l t f v := h.of_proof (by simp [← hv]) (provable_of (by simp [← hv]) (by simp [← hv]) (by simp [← hv]) state)
  split
  next hr =>
    exact (Restoring.restoreClose ⟨taken, hr, by simpa [← hv] using hz, by simpa [← hv] using hq⟩).toDecided
  · exact taken

theorem releaseSoftReset_apart (s : State) (f : Face) (level : Level) : Apart f s (s.releaseSoftReset f.partner level) := by
  unfold State.releaseSoftReset
  dsimp only
  split
  · exact (modRelease_apart s f _).trans (applyDoors_apart _ f _ _)
  · exact modRelease_apart s f _

end

end State

end Sys2Proof.Machine
end

section
/-! PROOFS. The Proof Unit after a soft reset's resets of every block (R164). -/

namespace Sys2Proof.Machine

theorem Apart.held {f : Face} {s u : State} (h : Apart f s u) : (u.face f).proof.held = (s.face f).proof.held :=
  congrArg (fun x => x.proof.held) h.face

theorem Apart.losses {f : Face} {s u : State} (h : Apart f s u) : (u.face f).proof.losses = (s.face f).proof.losses :=
  congrArg (fun x => x.proof.losses) h.face

namespace State

theorem proofSoftReset_apart (s : State) (f : Face) : Apart f s (s.proofSoftReset f.partner) := by
  unfold proofSoftReset
  dsimp only
  generalize hv : s.modProof f.partner _ = v
  exact (hv ▸ modProof_apart s f _ : Apart f s v).trans (modProof_apart v f _)

/-- Both Proof Units begun afresh, one after the other. -/
theorem proofsRestarted_renewed (s : State) (f : Face) :
    Renewed (s.face f).proof.losses (s.ms + 200) f ((s.proofSoftReset .A).proofSoftReset .B) ∧
      (((s.proofSoftReset .A).proofSoftReset .B).face f).proof.held = false := by
  cases f with
  | A =>
    obtain ⟨own, held⟩ := proofSoftReset_renewed s .A
    have apart := proofSoftReset_apart (s.proofSoftReset .A) .A
    exact ⟨own.apart apart, apart.held.trans held⟩
  | B =>
    obtain ⟨own, held⟩ := proofSoftReset_renewed (s.proofSoftReset .A) .B
    have apart : Apart .B s (s.proofSoftReset .A) := proofSoftReset_apart s .B
    rw [apart.losses, show (s.proofSoftReset .A).ms = s.ms from rfl] at own
    exact ⟨own, held⟩

theorem sharedRestarted_renewed (s : State) (f : Face) :
    Renewed (s.face f).proof.losses (s.ms + 200) f s.sharedRestarted ∧ (s.sharedRestarted.face f).proof.held = false := by
  unfold sharedRestarted
  generalize hv : s.lifSoftReset.raiseDevice .reset = v
  have apart : Apart f s v := hv ▸ (modLif_apart s f _).trans (raise_apart _ f _ _)
  have ms : v.ms = s.ms := by rw [← hv]; exact (raiseDevice_steadfast s.lifSoftReset .reset).ms
  obtain ⟨renewed, held⟩ := proofsRestarted_renewed v f
  rw [apart.losses, ms] at renewed
  exact ⟨renewed.of_proof rfl, held⟩

variable {l : Counter} {t : Millis} {s : State}

theorem Renewed.facesRestarted {f : Face} (h : Renewed l t f s) (held : (s.face f).proof.held = false) :
    Decided l t f s.facesRestarted := by
  have gap (f : Face) (u : State) : (u.faceSoftReset f).gap.zones = u.gap.zones :=
    congrArg (fun b : Blocks => b.gap.zones) (faceSoftReset_blocks u f)
  unfold State.facesRestarted
  cases f with
  | A => exact (h.faceSoftReset held).apart (faceSoftReset_apart _ .A) (gap .B _)
  | B =>
    have apart : Apart .B s (s.faceSoftReset .A) := faceSoftReset_apart s .B
    exact (h.apart apart).faceSoftReset (apart.held.trans held)

theorem Decided.linesRestarted {f : Face} (h : Decided l t f s) (fresh : ∀ g, LinksFresh (s.face g)) :
    Decided l t f s.linesRestarted := by
  have blocks := linesRestarted_blocks fresh
  obtain ⟨-, doors, -, -, -, release⟩ := face_records_of blocks f
  rw [Blocks.get_modFaces, blocks_get] at doors release
  obtain ⟨-, -, gap, tbs⟩ := shared_of_blocks blocks
  exact h.of_proof ((lineSoftReset_proof _ .B f).trans (lineSoftReset_proof s .A f))
    (provable_of tbs gap doors (congrArg Release.state release))

theorem Decided.decideBoth {f : Face} (h : Decided l t f s) : Decided l t f ((s.decide .A).decide .B) := by
  have gap (f : Face) (u : State) : (u.decide f).gap.zones = u.gap.zones := by simp
  cases f with
  | A => exact h.decide.apart (decide_apart _ .A) (gap .B _)
  | B => exact (h.apart (decide_apart s .B) (gap .A s)).decide

theorem facesBack_decided (s : State) (f : Face) : Decided (s.face f).proof.losses (s.ms + 200) f s.facesBack := by
  obtain ⟨renewed, held⟩ := sharedRestarted_renewed s f
  exact ((renewed.facesRestarted held).linesRestarted (facesRestarted_linksFresh _)).decideBoth

/-- The zones and the doors of a face before its release record is reset. -/
theorem facesBack_records (s : State) (f : Face) : (∀ z ∈ s.facesBack.gap.zones.get f, z.state = .unknown) ∧
    (s.facesBack.face f).doors = (s.face f).doors.map Door.softReset := by
  have blocks := facesBack_blocks s
  obtain ⟨-, -, gap, -⟩ := shared_of_blocks blocks
  obtain ⟨-, doors, -⟩ := face_records_of blocks f
  rw [Blocks.get_modFaces, blocks_get] at doors
  refine ⟨fun z hz => ?_, doors⟩
  rw [gap, GapMonitor.restarted, PerFace.get_map] at hz
  obtain ⟨y, -, rfl⟩ := List.mem_map.1 hz
  rfl

theorem doors_quiet_of {x : FaceState} {ds : List Door} (h : x.doors = ds.map Door.softReset) :
    ∀ d ∈ x.doors, d.state ≠ .stalled ∧ d.state ≠ .held := by
  intro d hd
  rw [h] at hd
  obtain ⟨e, -, rfl⟩ := List.mem_map.1 hd
  exact e.softReset_quiet

theorem releasesRestarted_decided {f : Face} (h : Decided l t f s) (hz : ∀ z ∈ s.gap.zones.get f, z.state = .unknown)
    (hq : ∀ d ∈ (s.face f).doors, d.state ≠ .stalled ∧ d.state ≠ .held) (evac : PerFace Level) :
    Decided l t f (s.releasesRestarted evac) := by
  have gap (f : Face) (u : State) (level : Level) : (u.releaseSoftReset f level).gap = u.gap :=
    congrArg Blocks.gap (releaseSoftReset_blocks u f level)
  unfold releasesRestarted
  cases f with
  | A => exact (h.releaseSoftReset hz hq evac.a).apart (releaseSoftReset_apart _ .A evac.b) (by rw [gap])
  | B =>
    have apart : Apart .B s (s.releaseSoftReset .A evac.a) := releaseSoftReset_apart s .B evac.a
    have doors : ((s.releaseSoftReset .A evac.a).face .B).doors = (s.face .B).doors := congrArg FaceBlocks.doors apart.blocks
    exact (h.apart apart (by rw [gap])).releaseSoftReset (by rw [gap]; exact hz) (by rw [doors]; exact hq) evac.b

theorem Decided.tbsSoftReset {f : Face} (h : Decided l t f s) : Decided l t f s.tbsSoftReset :=
  have tables : s.tbsSoftReset.configured f = s.configured f := rfl
  h.of_proof rfl (by rw [provable, tables]; rfl)

/-- The Proof Unit of each face after every block's reset (R164). -/
theorem restarted_decided (s : State) (evac : PerFace Level) (f : Face) :
    Decided (s.face f).proof.losses (s.ms + 200) f (s.restarted evac) := by
  obtain ⟨zones, doors⟩ := facesBack_records s f
  have releases := releasesRestarted_decided (facesBack_decided s f) zones (doors_quiet_of doors) evac
  rw [restarted_eq]
  exact releases.tbsSoftReset

end State

end Sys2Proof.Machine
end

section
/-! PROOFS. The doors and the door line after a soft reset (R75, R78, R101, R151). -/

namespace Sys2Proof.Machine

/-! ### The doors -/

/-- A door record after a soft reset: the restore close of a RESTORING face is asked for again (R78, R151). -/
def Door.restarted (st : ReleaseState) (d : Door) : Door :=
  if st = .restoring ∧ (d.latched = true ∨ d.evacOpened = true ∧ d.isolation ≠ .lockedOut) then
    { d.softReset with state := .closing, link := { d.softReset.link with slot := some ⟨.closeCmd, .routine, none, 4⟩ } }
  else d.softReset

theorem Door.restorable_softReset (d : Door) :
    d.softReset.restorable = true ↔ d.latched = true ∨ d.evacOpened = true ∧ d.isolation ≠ .lockedOut := by
  unfold restorable softReset
  cases d.latched
  · by_cases hi : d.isolation = .lockedOut <;> simp [hi]
  · simp

theorem Door.restoreClose_softReset {ctx : DoorContext} (h : ctx.occupied = false) (d : Door) :
    (d.softReset.restoreClose ctx).door =
      { d.softReset with state := .closing, link := { d.softReset.link with slot := some ⟨.closeCmd, .routine, none, 4⟩ } } := by
  have kept : d.softReset.state ≠ .lost := by
    unfold softReset
    dsimp only
    split
    · exact nofun
    · split <;> exact nofun
  rw [restoreClose_free h, if_neg kept]
  rfl

theorem Door.restoreClose_number (ctx : DoorContext) (d : Door) : (d.restoreClose ctx).door.number = d.number :=
  (d.restoreClose_keepsEnable ctx).number

namespace State

variable {s : State} {f : Face}

theorem releaseSoftReset_doors (hz : ∀ z ∈ s.gap.zones.get f, z.state = .unknown) {ds : List Door}
    (hd : (s.face f).doors = ds.map Door.softReset) (hn : (ds.map fun d => d.number).Nodup) (level : Level) :
    ((s.releaseSoftReset f level).face f).doors = ds.map (Door.restarted (s.face f).release.state) := by
  unfold releaseSoftReset
  dsimp only
  generalize hv : s.modRelease f _ = v
  have state : (v.face f).release.state = (s.face f).release.state := by simp [← hv]
  have doors : (v.face f).doors = ds.map Door.softReset := by simpa [← hv] using hd
  rw [state]
  split
  next hr =>
    have distinct : ((v.face f).doors.map fun d => d.number).Nodup := by
      rw [doors, List.map_map]
      exact hn
    have free := doorContext_unoccupied (s := v) (f := f) (by simpa [← hv] using hz)
    rw [restoreClose, applyDoors_doors v f Door.restorable _
      ⟨fun c d => d.restoreClose_number c, fun c d => by simp [Door.restoreClose_reports]⟩ distinct, doors, List.map_map]
    refine List.map_congr_left fun d _ => ?_
    simp only [Function.comp, Door.restarted, hr, true_and, Door.restorable_softReset, d.restoreClose_softReset (free _)]
  next hr =>
    rw [doors]
    refine List.map_congr_left fun d _ => ?_
    rw [Door.restarted, if_neg fun h => hr h.1]

theorem releasesRestarted_doors (hz : ∀ z ∈ s.gap.zones.get f, z.state = .unknown) {ds : List Door}
    (hd : (s.face f).doors = ds.map Door.softReset) (hn : (ds.map fun d => d.number).Nodup) (evac : PerFace Level) :
    ((s.releasesRestarted evac).face f).doors = ds.map (Door.restarted (s.face f).release.state) := by
  unfold releasesRestarted
  cases f with
  | A =>
    have apart : Apart .A _ _ := releaseSoftReset_apart (s.releaseSoftReset .A evac.a) .A evac.b
    exact (congrArg FaceBlocks.doors apart.blocks).trans (releaseSoftReset_doors hz hd hn evac.a)
  | B =>
    have apart : Apart .B s (s.releaseSoftReset .A evac.a) := releaseSoftReset_apart s .B evac.a
    have doors : ((s.releaseSoftReset .A evac.a).face .B).doors = (s.face .B).doors := congrArg FaceBlocks.doors apart.blocks
    have release : ((s.releaseSoftReset .A evac.a).face .B).release = (s.face .B).release := congrArg FaceBlocks.release apart.blocks
    have gap : (s.releaseSoftReset .A evac.a).gap = s.gap := congrArg Blocks.gap (releaseSoftReset_blocks s .A evac.a)
    rw [releaseSoftReset_doors (by rw [gap]; exact hz) (doors.trans hd) hn, release]

theorem tbsSoftReset_face (s : State) (f : Face) : s.tbsSoftReset.face f = s.face f := rfl

theorem restarted_doors (s : State) (evac : PerFace Level) (f : Face) (hn : DistinctDoors (s.face f)) :
    ((s.restarted evac).face f).doors = (s.face f).doors.map (Door.restarted (s.face f).release.state) := by
  obtain ⟨zones, doors⟩ := facesBack_records s f
  obtain ⟨-, -, -, -, -, release⟩ := face_records_of (facesBack_blocks s) f
  rw [Blocks.get_modFaces, blocks_get] at release
  rw [restarted_eq, tbsSoftReset_face, releasesRestarted_doors zones doors hn evac, release]
  rfl

end State

/-! ### The line -/

theorem leastDrop_eq_min? (l : List Nat) : leastDrop l = l.min? := by
  have fold (l : List Nat) (m : Nat) :
      l.foldl (fun m d => match m with | none => some d | some x => some (min x d)) (some m) = some (l.foldl min m) := by
    induction l generalizing m with
    | nil => rfl
    | cons x rest ih => exact ih _
  cases l with
  | nil => rfl
  | cons x rest => exact fold rest x

/-- The least drop address is the one that no door's is below (R84). -/
theorem leastDrop_drops {ds : List Door} {d : Door} (hd : d ∈ ds) (least : ∀ e ∈ ds, d.drop ≤ e.drop) :
    leastDrop (ds.map fun d => d.drop) = some d.drop := by
  rw [leastDrop_eq_min?, List.min?_eq_some_iff]
  exact ⟨List.mem_map_of_mem hd, by simpa using least⟩

/-- The line of a configured face after a soft reset polls the door of the smallest drop address (R84, R101). -/
theorem DoorLine.restarted_configured {ds : List Door} {d : Door} (hd : d ∈ ds) (least : ∀ e ∈ ds, d.drop ≤ e.drop) (now : Micros) :
    DoorLine.restarted true (ds.map Door.softReset) now =
      { running := true, turn := some (Turn.pollOf now d.drop), rotation := some d.drop, tunnel := none } := by
  have drops : (ds.map Door.softReset).map (fun d => d.drop) = ds.map fun d => d.drop := by rw [List.map_map]; rfl
  rw [DoorLine.restarted, drops, leastDrop_drops hd least]
  rfl

end Sys2Proof.Machine
end

section
/-! PROOFS. SOFT_RESET at the end of its step, where neither test moves a face (R24, R78, R101, R119, R151, R164, R180). -/

namespace Sys2Proof.Machine

theorem Head.restarted_eq (h : Head) : h.softReset =
    if h.serves.a = true ∨ h.serves.b = true then
      { h with state := .unknown, window := [], missingStreak := 0, goodStreak := 0, scan := .empty }
    else { h with scan := .empty } := by
  simp only [Head.softReset, Head.inUse, Bool.or_eq_true]

theorem Door.countsClosed_softReset (d : Door) :
    d.softReset.countsClosed = true ↔ d.isolation = .lockedOut ∧ d.latched = false := by
  unfold Door.countsClosed Door.softReset
  cases d.latched
  · by_cases hi : d.isolation = .lockedOut <;> simp [hi]
  · simp

namespace State

/-! ### The shared blocks -/

/-- An evacuation that begins on a VACANT berth leaves the Table Store (R139). -/
theorem testEvacuation_tbs {s : State} {f : Face} (h : (s.face f).berth.state = .vacant) : (s.testEvacuation f).tbs = s.tbs := by
  unfold testEvacuation
  split
  · obtain ⟨berth, -⟩ := evacuating_records s f
    rw [beginEvacuation_eq, if_neg (by simp [berth, h]), departureClose, applyDoors_tbs]
    exact congrArg Blocks.tbs (evacuating_blocks s f)
  · rfl

/-- Without an adoption the tests leave the Table Store (R177). -/
theorem tested_tbs {s : State} (idle : Idle s) (h : ∀ f, NoAdoption s f) : s.tested.tbs = s.tbs := by
  have vacant := (testEvacuation_standing (idle.vacant .A)).berth .B
  rw [tested, testAdoption_none (h .A), testAdoption_none (h .B), refreshAlerts_tbs,
    testEvacuation_tbs (by rw [vacant]; exact idle.vacant .B), testEvacuation_tbs (idle.vacant .A)]

/-! ### One face -/

theorem restarted_configured (s : State) (evac : PerFace Level) (f : Face) : (s.restarted evac).configured f = s.configured f := by
  obtain ⟨-, -, -, tbs⟩ := restarted_shared s evac
  simp only [configured, params?, tables?, tbs]
  rfl

theorem restarted_noAdoption {s : State} {f : Face} (h : NoAdoption s f) (evac : PerFace Level) : NoAdoption (s.restarted evac) f := by
  obtain ⟨-, -, -, tbs⟩ := restarted_shared s evac
  obtain ⟨-, -, -, -, release⟩ := restarted_records s evac f
  intro b hb
  rw [tbs] at hb ⊢
  rw [release]
  exact h b hb

theorem restarted_unmoved {s : State} {evac : PerFace Level} {f : Face} (adoption : NoAdoption s f)
    (quiet : evac.get f = .deasserted ∨ s.configured f = false ∨ (s.face f).release.state = .evacuating) :
    Unmoved (s.restarted evac) f := by
  obtain ⟨-, -, -, -, release⟩ := restarted_records s evac f
  refine ⟨restarted_noAdoption adoption evac, ?_⟩
  rw [restarted_configured, release]
  rcases quiet with h | h | h
  · exact .inr (.inr h)
  · exact .inl h
  · exact .inr (.inl h)

/-- After a soft reset face proof is met only where no zone is to be clear and every door is locked out (R154, R164). -/
theorem restarted_provable (s : State) (evac : PerFace Level) (f : Face) (hn : DistinctDoors (s.face f)) :
    (s.restarted evac).provable f = true ↔ s.configured f = true ∧ (s.face f).release.state = .normal ∧ s.gap.zones.get f = [] ∧
      ∀ d ∈ (s.face f).doors, d.isolation = .lockedOut ∧ d.latched = false := by
  obtain ⟨-, -, gap, -⟩ := restarted_shared s evac
  obtain ⟨-, -, -, -, release⟩ := restarted_records s evac f
  have zones : ((s.restarted evac).gap.zones.get f).all (fun z => z.state = .clear) = true ↔ s.gap.zones.get f = [] := by
    rw [gap, GapMonitor.restarted, PerFace.get_map]
    cases s.gap.zones.get f <;> simp
  have doors (normal : (s.face f).release.state = .normal) : ((s.restarted evac).face f).doors.all Door.countsClosed = true ↔
      ∀ d ∈ (s.face f).doors, d.isolation = .lockedOut ∧ d.latched = false := by
    have plain : Door.restarted .normal = Door.softReset := funext fun d => if_neg fun h => nomatch h.1
    rw [restarted_doors s evac f hn, normal, plain, List.all_map, List.all_eq_true]
    simp only [Function.comp, Door.countsClosed_softReset]
  simp only [provable, Bool.and_eq_true, decide_eq_true_eq, zones, restarted_configured, release]
  constructor
  · rintro ⟨⟨⟨conf, closed⟩, empty⟩, normal⟩
    exact ⟨conf, normal, empty, (doors normal).1 closed⟩
  · rintro ⟨conf, normal, empty, closed⟩
    exact ⟨⟨⟨conf, (doors normal).2 closed⟩, empty⟩, normal⟩

/-- The arbiter leaves a Proof Unit without a telegram as it is (R191). -/
theorem Decided.arbitrate {l : Counter} {t : Millis} {f : Face} {s : State} (h : Decided l t f s) : Decided l t f s.arbitrate := by
  have a := arbitrate_arbitrated s
  exact ⟨⟨(a.proof_losses f).trans h.losses, arbitrate_pending_none h.pending, (a.proof_periodicAt f).trans h.periodicAt,
    (a.proof_active f).trans h.active, (a.proof_withhold f).trans h.withhold, (a.proof_holdClosed f).trans h.holdClosed,
    (a.proof_stalledCount f).trans h.stalledCount, (a.proof_heldCount f).trans h.heldCount,
    (a.proof_loopClosed f).trans (h.loopClosed.trans (a.proof_held f).symm)⟩,
    (a.proof_held f).trans (h.held.trans (provable_of_blocks (arbitrate_blocks s) f).symm)⟩

end State

end Sys2Proof.Machine
end

section
/-! PROOFS. O4: SOFT_RESET returns every block (R24, R31, R78, R101, R104, R119, R122, R125, R151, R164, R180, R194). -/

namespace Sys2Proof.Machine

namespace State

/-- The end of a soft reset's step: the resets, the tests and the arbiter's turn. -/
def softResetEnd (s : State) (evac : PerFace Level) : State := ((s.restarted evac).tested).arbitrate

theorem softResetEnd_ms (s : State) (evac : PerFace Level) : (s.softResetEnd evac).ms = s.ms := by
  have link := (restarted_link s evac).steadfast (softReset_standing s evac).toSteadfast
  exact congrArg (· / 1000) link.now

theorem softResetEnd_gap (s : State) (evac : PerFace Level) :
    (s.softResetEnd evac).gap.heads = s.gap.heads.map Head.softReset ∧
      (s.softResetEnd evac).gap.zones = s.gap.zones.map fun zs => zs.map fun z => { z with state := .unknown, metric := none } := by
  obtain ⟨-, -, gap, -⟩ := restarted_shared s evac
  have standing := (softReset_standing s evac).gap
  rw [gap] at standing
  rw [softResetEnd, standing]
  exact ⟨rfl, rfl⟩

theorem softResetEnd_tbs {s : State} (h : ∀ f, NoAdoption s f) (evac : PerFace Level) : (s.softResetEnd evac).tbs =
    { s.tbs with validation := none, copy := s.tbs.copy.map fun c => { c with beganAt := (s.softResetEnd evac).ms } } := by
  obtain ⟨-, -, -, tbs⟩ := restarted_shared s evac
  have tested := tested_tbs (restarted_idle s evac) fun f => restarted_noAdoption (h f) evac
  rw [softResetEnd_ms, softResetEnd, (arbitrate_arbitrated _).tbs, tested, tbs]

variable {s : State} {evac : PerFace Level} {f : Face}

/-- The arbiter's turn after the tests moves no block of a face that neither test moves. -/
theorem softResetEnd_blocks (h : Unmoved (s.restarted evac) f) :
    ((s.softResetEnd evac).face f).blocks = ((s.restarted evac).face f).blocks := by
  have apart := tested_apart (restarted_idle s evac) h
  rw [softResetEnd, face_blocks_of (arbitrate_blocks _) f, blocks_get, apart.blocks]

theorem softResetEnd_records (hn : DistinctDoors (s.face f)) (h : Unmoved (s.restarted evac) f) :
    ((s.softResetEnd evac).face f).doors = (s.face f).doors.map (Door.restarted (s.face f).release.state) ∧
      ((s.softResetEnd evac).face f).deferral = (s.face f).deferral.restarted ∧
      ((s.softResetEnd evac).face f).line = .restarted (s.configured f) ((s.face f).doors.map Door.softReset) s.now ∧
      ((s.softResetEnd evac).face f).release = { (s.face f).release with input := evac.get f } := by
  have blocks := softResetEnd_blocks h
  obtain ⟨-, deferral, -, line, release⟩ := restarted_records s evac f
  exact ⟨(congrArg FaceBlocks.doors blocks).trans (restarted_doors s evac f hn), (congrArg FaceBlocks.deferral blocks).trans deferral,
    (congrArg FaceBlocks.line blocks).trans line, (congrArg FaceBlocks.release blocks).trans release⟩

theorem softResetEnd_proof (hn : DistinctDoors (s.face f)) (h : Unmoved (s.restarted evac) f) :
    Renewed (s.face f).proof.losses ((s.softResetEnd evac).ms + 200) f (s.softResetEnd evac) ∧
      (((s.softResetEnd evac).face f).proof.held = true ↔ s.configured f = true ∧ (s.face f).release.state = .normal ∧
        s.gap.zones.get f = [] ∧ ∀ d ∈ (s.face f).doors, d.isolation = .lockedOut ∧ d.latched = false) := by
  have idle := restarted_idle s evac
  have apart := tested_apart idle h
  have zones : (s.restarted evac).tested.gap.zones = (s.restarted evac).gap.zones := by rw [(tested_standing idle).gap]
  have start := restarted_decided s evac f
  have decided := (start.apart apart zones).arbitrate
  have held : ((s.softResetEnd evac).face f).proof.held = ((s.restarted evac).face f).proof.held :=
    ((arbitrate_arbitrated _).proof_held f).trans apart.held
  rw [softResetEnd_ms, held, start.held]
  exact ⟨decided.toRenewed, restarted_provable s evac f hn⟩

end State

theorem DoorLine.restarted_unconfigured (ds : List Door) (now : Micros) :
    DoorLine.restarted false ds now = { running := false, turn := none, rotation := none, tunnel := none } := rfl

namespace State

@[simp] theorem handed_losses (s : State) (t : Micros) (rest : List Request) (f : Face) :
    ((s.handed t rest).face f).proof.losses = (s.face f).proof.losses := by simp [handed]

@[simp] theorem handed_now (s : State) (t : Micros) (rest : List Request) : (s.handed t rest).now = max s.now t := by
  simp [handed]

theorem handed_noAdoption {s : State} {f : Face} (h : NoAdoption s f) (t : Micros) (rest : List Request) :
    NoAdoption (s.handed t rest) f := by
  intro b
  simpa [handed] using h b

/-- The second part of O4 for one face. -/
theorem softReset_face {s : State} {f : Face} (hn : DistinctDoors (s.face f)) (t : Micros) (rest : List Request) {evac : PerFace Level}
    (adoption : NoAdoption s f)
    (quiet : evac.get f = .deasserted ∨ s.configured f = false ∨ (s.face f).release.state = .evacuating) :
    let x := s.face f
    let u := (s.handed t rest).softResetEnd evac
    let y := u.face f
    y.doors = x.doors.map (Door.restarted x.release.state) ∧ y.deferral = x.deferral.restarted ∧
      y.line = .restarted (s.configured f) (x.doors.map Door.softReset) (max s.now t) ∧
      y.release = { x.release with input := evac.get f } ∧ Renewed x.proof.losses (u.ms + 200) f u ∧
      (y.proof.held = true ↔ s.configured f = true ∧ x.release.state = .normal ∧ s.gap.zones.get f = [] ∧
        ∀ d ∈ x.doors, d.isolation = .lockedOut ∧ d.latched = false) := by
  have gap : (s.handed t rest).gap = s.gap := by simp [handed]
  have distinct : DistinctDoors ((s.handed t rest).face f) := hn.of_doors (handed_doors s t rest f)
  have unmoved : Unmoved ((s.handed t rest).restarted evac) f :=
    restarted_unmoved (handed_noAdoption adoption t rest) (by simpa using quiet)
  obtain ⟨doors, deferral, line, release⟩ := softResetEnd_records distinct unmoved
  obtain ⟨renewed, held⟩ := softResetEnd_proof distinct unmoved
  simp only [handed_doors, handed_deferral, handed_release, handed_configured, handed_losses, handed_now, gap] at *
  exact ⟨doors, deferral, line, release, renewed, held⟩

end State

/-- Settles O4: a soft reset gives what `softReset_always` and, where neither an adoption nor an evacuation moves the face,
`softReset_face` say. -/
theorem softResetReturnsEveryBlock : Obligations.SoftResetReturnsEveryBlock := by
  unfold Obligations.SoftResetReturnsEveryBlock
  refine ⟨softReset_always, fun s t evac r rest ordered takes hb => ?_⟩
  refine ⟨(s.handed t rest).softResetEnd evac, exec_softReset takes hb t evac, ?_⟩
  have gap : (s.handed t rest).gap = s.gap := by simp [State.handed]
  have tbs : (s.handed t rest).tbs = s.tbs := by simp [State.handed]
  obtain ⟨heads, zones⟩ := State.softResetEnd_gap (s.handed t rest) evac
  refine ⟨?_, ?_, fun adoption => ?_, fun f adoption quiet => ?_⟩
  · rw [heads, gap]
    exact List.map_congr_left fun h _ => h.restarted_eq
  · rw [zones, gap]
  · rw [State.softResetEnd_tbs (fun f => State.handed_noAdoption (adoption f) t rest), tbs]
  · obtain ⟨doors, deferral, line, release, proof, held⟩ := State.softReset_face (.of_ordered ordered f) t rest adoption quiet
    refine ⟨doors, deferral, fun hc => ?_, fun hc d hd least => ?_, release, proof.losses, proof.pending, proof.periodicAt, proof.active,
      proof.withhold, proof.holdClosed, proof.stalledCount, proof.heldCount, proof.loopClosed, held⟩
    · rw [line, hc, DoorLine.restarted_unconfigured]
    · rw [line, hc, DoorLine.restarted_configured hd least]
      rfl

end Sys2Proof.Machine
end

section
/-! PROOFS. O17: the train doors placed along the face, and a platform door's best among them (R34 to R38). -/

namespace Sys2Proof.Machine

/-! ### One unit's doors (R35, R36) -/

/-- Door `k + 1` of a unit, placed by the unit's number and lead distance. -/
def trainDoor (stop : Nat) (dir : Direction) (unitNo lead : Nat) (o : Orientation) (p : Profile) (k : Nat) (d : ProfileDoor) : PlacedDoor :=
  { unitNo := unitNo, door := k + 1, centre := centreAt stop dir ((lead : Int) + withinUnit o p d), halfWidth := d.halfWidth }

theorem mem_placeUnit {stop : Nat} {dir : Direction} {n lead : Nat} {o : Orientation} {p : Profile} {x : PlacedDoor} :
    x ∈ placeUnit stop dir n lead o p ↔ ∃ k d, p.doors[k]? = some d ∧ x = trainDoor stop dir n lead o p k d := by
  simp only [placeUnit, List.mem_map, Prod.exists, List.mk_mem_zipIdx_iff_le_and_getElem?_sub]
  constructor
  · rintro ⟨d, m, ⟨one_le, hd⟩, rfl⟩
    refine ⟨m - 1, d, hd, ?_⟩
    simp only [trainDoor, Nat.sub_add_cancel one_le]
  · rintro ⟨k, d, hd, rfl⟩
    exact ⟨d, k + 1, ⟨Nat.le_add_left 1 k, hd⟩, rfl⟩

theorem placeUnit_doors (stop : Nat) (dir : Direction) (n lead : Nat) (o : Orientation) (p : Profile) :
    (placeUnit stop dir n lead o p).map (fun x => x.door) = List.range' 1 p.doors.length := by
  rw [placeUnit, List.map_map]
  exact List.zipIdx_map_snd 1 p.doors

theorem placeUnit_unitNo {stop : Nat} {dir : Direction} {n lead : Nat} {o : Orientation} {p : Profile} {x : PlacedDoor}
    (h : x ∈ placeUnit stop dir n lead o p) : x.unitNo = n := by
  obtain ⟨k, d, -, rfl⟩ := mem_placeUnit.1 h
  rfl

/-! ### The train's doors (R34) -/

/-- The lead distance of the unit at an index: length and coupling allowance of each unit ahead of it. -/
def leadDistance (units : List (Orientation × Profile)) (i : Nat) : Nat := ((units.take i).map fun q => q.2.length + q.2.coupling).sum

@[simp] theorem leadDistance_zero (units : List (Orientation × Profile)) : leadDistance units 0 = 0 := rfl

@[simp] theorem leadDistance_cons_succ (u : Orientation × Profile) (rest : List (Orientation × Profile)) (i : Nat) :
    leadDistance (u :: rest) (i + 1) = u.2.length + u.2.coupling + leadDistance rest i := by
  simp [leadDistance]

theorem mem_placeUnits {stop : Nat} {dir : Direction} {units : List (Orientation × Profile)} {n lead : Nat} {x : PlacedDoor} :
    x ∈ placeUnits stop dir n lead units ↔ ∃ i k o p d, units[i]? = some (o, p) ∧ p.doors[k]? = some d ∧
      x = trainDoor stop dir (n + i) (lead + leadDistance units i) o p k d := by
  induction units generalizing n lead with
  | nil => simp [placeUnits]
  | cons u rest ih =>
    obtain ⟨o, p⟩ := u
    have shift (i k : Nat) (o' : Orientation) (p' : Profile) (d : ProfileDoor) :
        trainDoor stop dir (n + 1 + i) (lead + p.length + p.coupling + leadDistance rest i) o' p' k d =
          trainDoor stop dir (n + (i + 1)) (lead + leadDistance ((o, p) :: rest) (i + 1)) o' p' k d := by
      rw [leadDistance_cons_succ, Nat.add_assoc n, Nat.add_comm 1, Nat.add_assoc lead, Nat.add_assoc lead]
    rw [placeUnits, List.mem_append, mem_placeUnit, ih]
    constructor
    · rintro (⟨k, d, hd, rfl⟩ | ⟨i, k, o', p', d, hu, hd, rfl⟩)
      · exact ⟨0, k, o, p, d, rfl, hd, rfl⟩
      · exact ⟨i + 1, k, o', p', d, hu, hd, shift i k o' p' d⟩
    · rintro ⟨_ | i, k, o', p', d, hu, hd, rfl⟩
      · obtain ⟨rfl, rfl⟩ : o = o' ∧ p = p' := by simpa using hu
        exact .inl ⟨k, d, hd, rfl⟩
      · exact .inr ⟨i, k, o', p', d, hu, hd, (shift i k o' p' d).symm⟩

/-- The order of train doors by their names (R38). -/
def PlacedDoor.Before (x y : PlacedDoor) : Prop := x.unitNo < y.unitNo ∨ x.unitNo = y.unitNo ∧ x.door < y.door

theorem placeUnit_ordered (stop : Nat) (dir : Direction) (n lead : Nat) (o : Orientation) (p : Profile) :
    (placeUnit stop dir n lead o p).Pairwise PlacedDoor.Before := by
  have doors : (placeUnit stop dir n lead o p).Pairwise fun x y => x.door < y.door := by
    rw [← List.pairwise_map, placeUnit_doors]
    exact List.pairwise_lt_range'
  exact doors.imp_of_mem fun hx hy less => .inr ⟨(placeUnit_unitNo hx).trans (placeUnit_unitNo hy).symm, less⟩

theorem placeUnits_unitNo {stop : Nat} {dir : Direction} {units : List (Orientation × Profile)} {n lead : Nat} {x : PlacedDoor}
    (h : x ∈ placeUnits stop dir n lead units) : n ≤ x.unitNo := by
  obtain ⟨i, k, o, p, d, -, -, rfl⟩ := mem_placeUnits.1 h
  exact Nat.le_add_right n i

theorem placeUnits_ordered (stop : Nat) (dir : Direction) (units : List (Orientation × Profile)) (n lead : Nat) :
    (placeUnits stop dir n lead units).Pairwise PlacedDoor.Before := by
  induction units generalizing n lead with
  | nil => exact .nil
  | cons u rest ih =>
    refine List.pairwise_append.2 ⟨placeUnit_ordered .., ih .., fun x hx y hy => .inl ?_⟩
    rw [placeUnit_unitNo hx]
    exact placeUnits_unitNo hy

/-! ### Overlap and the best train door (R37, R38) -/

theorem overlap_eq (e : DoorEntry) (x : PlacedDoor) : (overlap e x : Int) =
    max 0 (min ((e.centre : Int) + e.halfWidth) (x.centre + x.halfWidth) - max ((e.centre : Int) - e.halfWidth) (x.centre - x.halfWidth)) := by
  rw [overlap, Int.ofNat_toNat, max_comm]

theorem bestDoor_eq_none {e : DoorEntry} {placed : List PlacedDoor} : bestDoor e placed = none ↔ placed = [] := by
  cases placed with
  | nil => simp [bestDoor]
  | cons t rest =>
    rw [bestDoor]
    split
    · simp
    · split <;> simp

/-- The best train door stands between those of less overlap and those of no more. -/
theorem bestDoor_splits {e : DoorEntry} {placed : List PlacedDoor} {b : PlacedDoor} (h : bestDoor e placed = some b) :
    ∃ l r, placed = l ++ b :: r ∧ (∀ x ∈ l, overlap e x < overlap e b) ∧ ∀ x ∈ r, overlap e x ≤ overlap e b := by
  induction placed generalizing b with
  | nil => nomatch h
  | cons t rest ih =>
    rw [bestDoor] at h
    split at h
    case h_1 none =>
      obtain rfl := bestDoor_eq_none.1 none
      obtain rfl := Option.some.inj h
      exact ⟨[], [], rfl, by simp, by simp⟩
    case h_2 c best =>
      obtain ⟨l, r, rfl, less, atMost⟩ := ih best
      split at h
      case isTrue first =>
        obtain rfl := Option.some.inj h
        exact ⟨t :: l, r, rfl, List.forall_mem_cons.2 ⟨first, less⟩, atMost⟩
      case isFalse notLess =>
        obtain rfl := Option.some.inj h
        have most : overlap e c ≤ overlap e t := not_lt.1 notLess
        refine ⟨[], l ++ c :: r, rfl, by simp, List.forall_mem_append.2 ⟨fun x hx => ?_, List.forall_mem_cons.2 ⟨most, fun x hx => ?_⟩⟩⟩
        · exact (less x hx).le.trans most
        · exact (atMost x hx).trans most

/-- Settles O17: placement by `mem_placeUnits` and `placeUnits_ordered`, the best door by `bestDoor_splits`. -/
theorem trainDoorsArePlacedAndMatched : Obligations.TrainDoorsArePlacedAndMatched := by
  unfold Obligations.TrainDoorsArePlacedAndMatched
  refine ⟨fun stop dir units x => ?_, overlap_eq, fun stop dir units => placeUnits_ordered stop dir units 1 0,
    fun e placed => ⟨bestDoor_eq_none, fun b => bestDoor_splits⟩⟩
  rw [mem_placeUnits]
  constructor
  · rintro ⟨i, k, o, p, d, hu, hd, rfl⟩
    refine ⟨i, k, o, p, d, hu, hd, Nat.add_comm 1 i, rfl, rfl, ?_⟩
    rw [trainDoor, Nat.zero_add]
    rfl
  · rintro ⟨i, k, o, p, d, hu, hd, unitNo, door, halfWidth, centre⟩
    refine ⟨i, k, o, p, d, hu, hd, ?_⟩
    obtain ⟨n, m, c, w⟩ := x
    obtain rfl : n = i + 1 := unitNo
    obtain rfl : m = k + 1 := door
    obtain rfl : w = d.halfWidth := halfWidth
    rw [trainDoor, Nat.zero_add, Nat.add_comm 1 i, PlacedDoor.mk.injEq]
    exact ⟨rfl, rfl, centre, rfl⟩

end Sys2Proof.Machine
end

section
/-! PROOFS. O18: the enable set, its pairing and the findings of a computation (R33, R39 to R42). -/

namespace Sys2Proof.Machine

/-! ### The clear width (R39, R40) -/

/-- Whether a train door overlaps the platform door by its minimum clear width. -/
def clears (placed : List PlacedDoor) (e : DoorEntry) : Bool := placed.any fun x => decide (e.minClear ≤ overlap e x)

/-- The best train door decides whether any clears. -/
theorem clears_iff {e : DoorEntry} {placed : List PlacedDoor} {b : PlacedDoor} (h : bestDoor e placed = some b) :
    clears placed e = true ↔ e.minClear ≤ overlap e b := by
  obtain ⟨l, r, rfl, less, atMost⟩ := bestDoor_splits h
  simp only [clears, List.any_eq_true, decide_eq_true_eq]
  constructor
  · rintro ⟨x, hx, clear⟩
    rcases List.mem_append.1 hx with before | after
    · exact clear.trans (less x before).le
    · rcases List.mem_cons.1 after with rfl | after
      · exact clear
      · exact clear.trans (atMost x after)
  · exact fun clear => ⟨b, by simp, clear⟩

theorem pairDoor_eq_some {placed : List PlacedDoor} {n : Nat} {e : DoorEntry} {q : Pairing} :
    pairDoor placed n e = some q ↔
      ∃ b, bestDoor e placed = some b ∧ e.minClear ≤ overlap e b ∧ q = ⟨n, b.unitNo, b.door, overlap e b⟩ := by
  rw [pairDoor]
  split
  case h_1 none => simp [none]
  case h_2 t best => simp [best, eq_comm (a := q)]

/-- The platform door of an entry is there exactly where a train door clears it. -/
theorem pairDoor_door (placed : List PlacedDoor) (n : Nat) (e : DoorEntry) :
    (pairDoor placed n e).map (fun q => q.door) = if clears placed e then some n else none := by
  cases best : bestDoor e placed with
  | none =>
    obtain rfl := bestDoor_eq_none.1 best
    rfl
  | some b =>
    simp only [pairDoor, best, clears_iff best]
    split <;> rfl

/-! ### The pairing of a platform's doors (R40) -/

/-- The pairing entries of the platform doors that have one. -/
def pairings (placed : List PlacedDoor) (doors : List (Nat × DoorEntry)) : List Pairing :=
  doors.filterMap fun p => pairDoor placed p.1 p.2

theorem mem_pairings {placed : List PlacedDoor} {doors : List (Nat × DoorEntry)} {q : Pairing} :
    q ∈ pairings placed doors ↔ ∃ e b, (q.door, e) ∈ doors ∧ bestDoor e placed = some b ∧ e.minClear ≤ overlap e b ∧
      q = ⟨q.door, b.unitNo, b.door, overlap e b⟩ := by
  simp only [pairings, List.mem_filterMap, Prod.exists, pairDoor_eq_some]
  constructor
  · rintro ⟨n, e, he, b, best, clear, rfl⟩
    exact ⟨e, b, he, best, clear, rfl⟩
  · rintro ⟨e, b, he, best, clear, hq⟩
    exact ⟨q.door, e, he, b, best, clear, hq⟩

/-- The pairing names exactly the doors with their clear width, in the platform's order. -/
theorem pairings_doors (placed : List PlacedDoor) (doors : List (Nat × DoorEntry)) :
    (pairings placed doors).map (fun q => q.door) = (doors.filter fun p => clears placed p.2).map (fun p => p.1) := by
  rw [pairings, List.map_filterMap, ← List.filterMap_eq_map, ← List.filterMap_eq_filter, List.filterMap_filterMap]
  refine congrArg (List.filterMap · doors) (funext fun p => ?_)
  rw [pairDoor_door]
  by_cases clear : clears placed p.2 <;> simp [Option.guard, clear]

theorem unpaired_iff {i : AlignInput} {pairing : List Pairing} {x : PlacedDoor} :
    unpaired i pairing x = true ↔ (i.extentLow : Int) ≤ x.centre ∧ x.centre ≤ i.extentHigh ∧
      ∀ q ∈ pairing, ¬(q.unitNo = x.unitNo ∧ q.trainDoor = x.door) := by
  simp [unpaired, and_assoc]

/-! ### The computation's two outcomes (R33) -/

theorem allProfiles_none {units : List (Orientation × Option Profile)} {o : Orientation} (h : (o, none) ∈ units) :
    allProfiles units = none := by
  induction units with
  | nil => nomatch h
  | cons u rest ih =>
    obtain ⟨o', _ | q⟩ := u
    · rfl
    · have inRest : (o, none) ∈ rest := by simpa using h
      simp only [allProfiles, ih inRest]

theorem allProfiles_map (units : List (Orientation × Profile)) : allProfiles (units.map fun u => (u.1, some u.2)) = some units := by
  induction units with
  | nil => rfl
  | cons u rest ih => simp only [List.map_cons, allProfiles, ih]

theorem align_unprofiled {i : AlignInput} (h : allProfiles i.units = none) : align i = ⟨[], [], true, false, false⟩ := by
  simp only [align, h]

theorem align_profiled {i : AlignInput} {units : List (Orientation × Profile)} (h : allProfiles i.units = some units) :
    let placed := placeUnits i.stop i.direction 1 0 units
    let pairing := pairings placed i.doors
    align i = ⟨pairing.map fun q => q.door, pairing, false, pairing.isEmpty,
      !pairing.isEmpty && placed.any fun x => unpaired i pairing x⟩ := by
  simp only [align, h, pairings]

/-- Settles O18: `align` in its two outcomes, and the pairing by `pairings_doors` and `mem_pairings`. -/
theorem enableSetNeedsTheClearWidth : Obligations.EnableSetNeedsTheClearWidth := by
  unfold Obligations.EnableSetNeedsTheClearWidth
  refine fun i => ⟨fun ⟨o, h⟩ => align_unprofiled (allProfiles_none h), fun units hu => ?_⟩
  have profiled : allProfiles i.units = some units := hu ▸ allProfiles_map units
  intro placed r
  have result : r = _ := align_profiled profiled
  rw [result]
  refine ⟨pairings_doors placed i.doors, rfl, fun q hq => ?_, rfl, ?_, ?_⟩
  · obtain ⟨e, b, he, best, clear, entry⟩ := mem_pairings.1 hq
    have overlaps : q.overlap = overlap e b := congrArg Pairing.overlap entry
    exact ⟨e, b, he, best, overlaps ▸ clear, overlaps, congrArg Pairing.unitNo entry, congrArg Pairing.trainDoor entry⟩
  · simp
  · simp only [Bool.and_eq_true, Bool.not_eq_true', List.isEmpty_eq_false_iff, List.any_eq_true, unpaired_iff, ne_eq,
      List.map_eq_nil_iff]
    rfl

end Sys2Proof.Machine
end

section
/-! PROOFS. Every step keeps the door records in strictly increasing number within 1 to 32 (R47, R169): no event of a door, a line or a
berth renumbers one; an adoption numbers them as its table's slots, and a power-on leaves none. -/

namespace Sys2Proof.Machine

/-- Door records in strictly increasing number within 1 to 32 (R47, R169). -/
def NumberedInOrder (ds : List Door) : Prop :=
  (ds.map fun d => d.number).Pairwise (· < ·) ∧ ∀ d ∈ ds, 1 ≤ d.number ∧ d.number ≤ 32

/-- What makes records ordered is their numbers alone. -/
theorem numberedInOrder_iff (ds : List Door) : NumberedInOrder ds ↔
    (ds.map fun d => d.number).Pairwise (· < ·) ∧ ∀ n ∈ ds.map fun d => d.number, 1 ≤ n ∧ n ≤ 32 := by
  simp [NumberedInOrder]

theorem NumberedInOrder.of_numbers {ds es : List Door} (h : NumberedInOrder ds)
    (e : es.map (fun d => d.number) = ds.map fun d => d.number) : NumberedInOrder es := by
  rw [numberedInOrder_iff, e]
  exact (numberedInOrder_iff ds).1 h

/-! ### The doors of a table -/

/-- The present entries of a list of slots, each with its number, where the first slot is number `k`. -/
def present {α : Type} (l : List (Option α)) (k : Nat) : List (Nat × α) :=
  (l.zipIdx k).filterMap fun p => p.1.map fun e => (p.2, e)

theorem mem_present {α : Type} {l : List (Option α)} {k : Nat} {p : Nat × α} (h : p ∈ present l k) :
    k ≤ p.1 ∧ p.1 < k + l.length := by
  obtain ⟨⟨o, n⟩, hm, ho⟩ := List.mem_filterMap.1 h
  obtain ⟨e, -, rfl⟩ := Option.map_eq_some_iff.1 ho
  exact ⟨List.le_snd_of_mem_zipIdx hm, List.snd_lt_add_of_mem_zipIdx hm⟩

theorem present_ordered {α : Type} (l : List (Option α)) (k : Nat) : ((present l k).map fun p => p.1).Pairwise (· < ·) := by
  induction l generalizing k with
  | nil => exact .nil
  | cons o rest ih =>
    cases o with
    | none => exact ih (k + 1)
    | some e =>
      refine List.pairwise_cons.2 ⟨fun n hn => ?_, ih (k + 1)⟩
      obtain ⟨p, hp, rfl⟩ := List.mem_map.1 hn
      exact (mem_present hp).1

theorem tableDoors_eq (t : Tables) (f : Face) : State.tableDoors t f = present (t.doors.get f).toList 1 := rfl

theorem rebuildDoors_numbers (old : List Door) (entries : List (Nat × DoorEntry)) :
    (rebuildDoors old entries).map (fun d => d.number) = entries.map fun p => p.1 := by
  simp only [rebuildDoors, List.map_map]
  refine List.map_congr_left fun p _ => ?_
  simp only [Function.comp]
  split <;> rfl

/-- The doors that an adoption rebuilds are numbered as the table's slots are (R79, R169). -/
theorem rebuildDoors_ordered (s : State) (f : Face) (old : List Door) : NumberedInOrder (rebuildDoors old (s.faceEntries f)) := by
  rw [numberedInOrder_iff, rebuildDoors_numbers]
  unfold State.faceEntries
  split
  next t _ _ _ =>
    rw [tableDoors_eq]
    refine ⟨present_ordered _ 1, fun n hn => ?_⟩
    obtain ⟨p, hp, rfl⟩ := List.mem_map.1 hn
    have := mem_present hp
    simp at this
    omega
  · simp

/-! ### What an operation keeps -/

theorem doorsOrdered_iff (s : State) : doorsOrdered s ↔ ∀ f, NumberedInOrder (s.face f).doors := Iff.rfl

/-- An operation keeps the doors of both faces ordered. -/
def OrderKept (s u : State) : Prop := doorsOrdered s → doorsOrdered u

namespace OrderKept

theorem refl (s : State) : OrderKept s s := id

theorem trans {s u v : State} (h : OrderKept s u) (k : OrderKept u v) : OrderKept s v := k ∘ h

theorem ite {s a b : State} {c : Prop} {_ : Decidable c} (h : OrderKept s a) (k : OrderKept s b) : OrderKept s (if c then a else b) := by
  split
  · exact h
  · exact k

theorem opt {s a : State} {c : Prop} {_ : Decidable c} (h : OrderKept s a) : OrderKept s (if c then a else s) := .ite h (.refl s)

/-- An operation that keeps each door's number. -/
theorem of_numbers {s u : State}
    (h : ∀ f, (u.face f).doors.map (fun d => d.number) = (s.face f).doors.map fun d => d.number) : OrderKept s u :=
  fun hs f => NumberedInOrder.of_numbers (hs f) (h f)

/-- An operation that leaves the door records. -/
theorem of_doors {s u : State} (h : ∀ f, (u.face f).doors = (s.face f).doors) : OrderKept s u := .of_numbers fun f => by rw [h]

end OrderKept

theorem Reported.orderKept {s u : State} (h : Reported s u) : OrderKept s u := .of_doors h.doors

theorem Arbitrated.orderKept {s u : State} (h : Arbitrated s u) : OrderKept s u := .of_doors h.doors

namespace State

/-! ### The parts of an operation -/

theorem modBerth_orderKept (s : State) (f : Face) (g : Berth → Berth) : OrderKept s (s.modBerth f g) := .of_doors (by simp)

/-- One face's door records replaced by ordered ones. -/
theorem modDoors_orderKept (s : State) (f : Face) (g : List Door → List Door)
    (h : NumberedInOrder (s.face f).doors → NumberedInOrder (g (s.face f).doors)) : OrderKept s (s.modDoors f g) := fun hs e => by
  change NumberedInOrder _
  obtain rfl | rfl := Face.eq_or_partner f e
  · simpa using h (hs _)
  · simpa using (doorsOrdered_iff s).1 hs _

/-- Each door record of a face changed, but for its number. -/
theorem modDoors_map_orderKept (s : State) (f : Face) (g : Door → Door) (h : ∀ d, (g d).number = d.number) :
    OrderKept s (s.modDoors f fun ds => ds.map g) :=
  modDoors_orderKept s f _ fun hs => hs.of_numbers (by simp [Function.comp_def, h])

theorem modLif_orderKept (s : State) (g : LinkInterface → LinkInterface) : OrderKept s (s.modLif g) := .of_doors fun _ => rfl

theorem modTbs_orderKept (s : State) (g : TableStore → TableStore) : OrderKept s (s.modTbs g) := .of_doors fun _ => rfl

theorem modGap_orderKept (s : State) (g : GapMonitor → GapMonitor) : OrderKept s (s.modGap g) := .of_doors fun _ => rfl

theorem modAln_orderKept (s : State) (g : Engine → Engine) : OrderKept s (s.modAln g) := .of_doors fun _ => rfl

theorem modDeferral_orderKept (s : State) (f : Face) (g : Deferral → Deferral) : OrderKept s (s.modDeferral f g) := .of_doors (by simp)

theorem modReports_orderKept (s : State) (f : Face) (g : List ObstructionReport → List ObstructionReport) :
    OrderKept s (s.modReports f g) := .of_doors (by simp)

theorem modLine_orderKept (s : State) (f : Face) (g : DoorLine → DoorLine) : OrderKept s (s.modLine f g) := .of_doors (by simp)

theorem modRelease_orderKept (s : State) (f : Face) (g : Release → Release) : OrderKept s (s.modRelease f g) := .of_doors (by simp)

theorem modProof_orderKept (s : State) (f : Face) (g : ProofRecord → ProofRecord) : OrderKept s (s.modProof f g) := .of_doors (by simp)

theorem raiseFace_orderKept (s : State) (f : Face) (k : EventKind) : OrderKept s (s.raiseFace f k) := (raiseFace_reported s f k).orderKept

theorem raiseDevice_orderKept (s : State) (k : EventKind) : OrderKept s (s.raiseDevice k) := (raiseDevice_reported s k).orderKept

theorem setRelease_orderKept (s : State) (f : Face) (st : ReleaseState) : OrderKept s (s.setRelease f st) := .of_doors (by simp)

theorem answer_orderKept (s : State) (q : Request) (r : Result) (d : List Byte) : OrderKept s (s.answer q r d) := modLif_orderKept s _

theorem refuse_orderKept (s : State) (q : Request) (r : Reason) : OrderKept s (s.refuse q r) := modLif_orderKept s _

/-- What is done and then answered. -/
theorem done_orderKept {s u : State} (h : OrderKept s u) (q : Request) : OrderKept s (u.done q) := h.trans (answer_orderKept u q _ _)

/-! ### The Door Sequencer -/

/-- One event of one door, whose rule keeps the door's number. -/
theorem applyDoor_orderKept (s : State) (f : Face) (n : Nat) (g : DoorContext → Door → DoorOutcome)
    (h : ∀ c d, (g c d).door.number = d.number) : OrderKept s (s.applyDoor f n g) := .of_numbers (applyDoor_numbers s f n g h)

theorem applyDoors_orderKept (s : State) (f : Face) (p : Door → Bool) (g : DoorContext → Door → DoorOutcome)
    (h : ∀ c d, (g c d).door.number = d.number) : OrderKept s (s.applyDoors f p g) := by
  unfold applyDoors
  generalize ((s.face f).doors.filter p).map (fun d => d.number) = ns
  induction ns generalizing s with
  | nil => exact .refl s
  | cons n rest ih => exact (applyDoor_orderKept s f n g h).trans (ih _)

theorem closeFaceNow_orderKept (s : State) (f : Face) : OrderKept s (s.closeFaceNow f) :=
  applyDoors_orderKept s f _ _ fun c d => (d.startClose_keepsEnable c _).number

theorem movementClose_orderKept (s : State) (f : Face) : OrderKept s (s.movementClose f) :=
  applyDoors_orderKept s f _ _ fun c d => (d.startClose_keepsEnable c _).number

theorem departureClose_orderKept (s : State) (f : Face) : OrderKept s (s.departureClose f) :=
  applyDoors_orderKept s f _ _ fun c d => (d.departureClose_keepsEnable c).number

theorem restoreClose_orderKept (s : State) (f : Face) : OrderKept s (s.restoreClose f) :=
  applyDoors_orderKept s f _ _ fun c d => (d.restoreClose_keepsEnable c).number

theorem followEnable_orderKept (s : State) (f : Face) : OrderKept s (s.followEnable f) := modDoors_map_orderKept s f _ fun _ => rfl

theorem dropOpens_orderKept (s : State) (f : Face) : OrderKept s (s.dropOpens f) :=
  modDoors_map_orderKept s f _ fun d => (dropOpen_keepsEnable d).number

theorem endDeferral_orderKept (s : State) (f : Face) (c : EndCause) : OrderKept s (s.endDeferral f c) :=
  (modDeferral_orderKept s f _).trans (raiseFace_orderKept _ f _)

theorem endWithClose_orderKept (s : State) (f : Face) (c : EndCause) : OrderKept s (s.endWithClose f c) :=
  (endDeferral_orderKept s f c).trans (closeFaceNow_orderKept _ f)

theorem cancelDeferral_orderKept (s : State) (f : Face) : OrderKept s (s.cancelDeferral f) := .opt (endDeferral_orderKept s f _)

theorem partnerDwellLapse_orderKept (s : State) (f : Face) : OrderKept s (s.partnerDwellLapse f) := .opt (endWithClose_orderKept s f _)

theorem partnerExits_orderKept (s : State) (f : Face) : OrderKept s (s.partnerExits f) :=
  (modDeferral_orderKept s f _).trans (.opt (endWithClose_orderKept _ f _))

theorem enterDwelling_orderKept (s : State) (f : Face) : OrderKept s (s.enterDwelling f) :=
  .opt ((modBerth_orderKept s f _).trans ((modDeferral_orderKept _ _ _).trans (partnerDwellLapse_orderKept _ _)))

theorem evacuationOpening_orderKept (s : State) (f : Face) : OrderKept s (s.evacuationOpening f) :=
  ((cancelDeferral_orderKept s f).trans (applyDoors_orderKept _ f _ _ fun c d => d.evacuationOpen_number c)).trans
    (enterDwelling_orderKept _ f)

theorem beginEvacuation_orderKept (s : State) (f : Face) : OrderKept s (s.beginEvacuation f) :=
  ((setRelease_orderKept s f _).trans (raiseFace_orderKept _ f _)).trans
    (.ite (evacuationOpening_orderKept _ f) (departureClose_orderKept _ f))

theorem testEvacuation_orderKept (s : State) (f : Face) : OrderKept s (s.testEvacuation f) := .opt (beginEvacuation_orderKept s f)

/-! ### The Door Line Controller -/

/-- A unit's link record is no door's number. -/
theorem modDropLink_orderKept (s : State) (f : Face) (drop : Nat) (g : UnitLink → UnitLink) : OrderKept s (s.modDropLink f drop g) :=
  modDoors_map_orderKept s f _ fun d => by split <;> rfl

theorem nextTurn_orderKept (s : State) (f : Face) : OrderKept s (s.nextTurn f) := by
  refine (modLine_orderKept s f fun l => { l with turn := none }).trans (.ite ?_ (modLine_orderKept _ f _))
  split
  · exact (modDropLink_orderKept _ f _ _).trans (modLine_orderKept _ f _)
  · exact .refl _

theorem startLine_orderKept (s : State) (f : Face) : OrderKept s (s.startLine f) :=
  (modLine_orderKept s f _).trans (.ite (.refl _) (nextTurn_orderKept _ f))

theorem endTunnel_orderKept (s : State) (f : Face) (r : Result) (d : List Byte) : OrderKept s (s.endTunnel f r d) := by
  unfold endTunnel
  split
  · exact .refl s
  · exact (modLine_orderKept s f _).trans (modLif_orderKept _ _)

theorem followLine_orderKept (s : State) (f : Face) (was : Bool) : OrderKept s (s.followLine f was) := by
  unfold followLine
  refine OrderKept.trans (modLine_orderKept s f _) (.ite (.ite ?_ (startLine_orderKept _ f)) ?_)
  · split
    · exact .ite (.refl _) (endTunnel_orderKept _ f _ _)
    · exact .refl _
  · exact (endTunnel_orderKept _ f _ _).trans (.ite (.refl _) (modLine_orderKept _ f _))

theorem accountSend_orderKept (s : State) (f : Face) (d : Door) : OrderKept s (s.accountSend f d) :=
  (modDropLink_orderKept s f d.drop _).trans (.opt (applyDoor_orderKept _ f _ _ fun _ d => d.exhausted_keepsEnable.number))

theorem badFrame_orderKept (s : State) (f : Face) (t : Turn) : OrderKept s (s.badFrame f t) := by
  unfold badFrame
  generalize hu : (if t.kind = .tunnel ∧ ¬t.orphan then
      s.modLine f fun l => { l with tunnel := l.tunnel.map fun x => { x with sent := false } } else s) = u
  have unsent : OrderKept s u := hu ▸ .opt (modLine_orderKept s f _)
  dsimp only
  split
  · exact unsent
  · exact (unsent.trans (modDropLink_orderKept _ f _ _)).trans
      (.ite (applyDoor_orderKept _ f _ _ fun _ d => d.loseContact_keepsEnable.number)
        (.ite (accountSend_orderKept _ f _) (.refl _)))

/-! ### Adoption, release, the end of a turn -/

theorem handOnAdoption_orderKept (s : State) (f : Face) (was : Bool) : OrderKept s (s.handOnAdoption f was) :=
  have rebuilt := (modDoors_orderKept s f (fun ds => rebuildDoors ds (s.faceEntries f)) fun _ =>
    rebuildDoors_ordered s f _).trans (doorsHandOn_reported _ f).orderKept
  (((rebuilt.trans (followLine_orderKept _ f was)).trans (modGap_orderKept _ _)).trans
    ((formSets_reported _ f).trans (decide_reported _ f)).orderKept).trans (testEvacuation_orderKept _ f)

theorem testAdoption_orderKept (s : State) (f : Face) : OrderKept s (s.testAdoption f) := by
  have adopted (b : BankId) : OrderKept s (s.adopt f b) :=
    (((modTbs_orderKept s fun t => { t with active := t.active.set f (some b) }).trans
      (handOnAdoption_orderKept _ f (s.configured f))).trans (raiseFace_orderKept _ f .bankAdopted)).trans
      (.opt (modTbs_orderKept _ _))
  unfold testAdoption
  split
  · exact .refl s
  · exact .opt (adopted _)

theorem becomeNormal_orderKept (s : State) (f : Face) : OrderKept s (s.becomeNormal f) :=
  ((setRelease_orderKept s f _).trans (raiseFace_orderKept _ f _)).trans (testAdoption_orderKept _ f)

theorem applyDoorRestore_orderKept (s : State) (f : Face) (n : Nat) (g : DoorContext → Door → DoorOutcome)
    (h : ∀ c d, (g c d).door.number = d.number) : OrderKept s (s.applyDoorRestore f n g) := by
  unfold applyDoorRestore
  split
  · exact .refl s
  · have applied := applyDoor_orderKept s f n g h
    exact .ite (applied.trans (.opt (becomeNormal_orderKept _ f))) applied

theorem goodFrame_orderKept (s : State) (f : Face) (t : Turn) (st : Status) (r : Option (List Byte)) :
    OrderKept s (s.goodFrame f t st r) := by
  unfold goodFrame
  split
  · exact .refl s
  · exact (((modDropLink_orderKept s f t.drop _).trans (.opt (accountSend_orderKept _ f _))).trans
      (applyDoorRestore_orderKept _ f _ _ fun c d => (d.takeStatus_keepsEnable c st _).number)).trans
      (.opt (endTunnel_orderKept _ f _ _))

theorem takeAnswer_orderKept (s : State) (f : Face) (bytes : List Byte) (ok : Bool) : OrderKept s (s.takeAnswer f bytes ok) := by
  rcases takeAnswer_cases s f bytes ok with h | ⟨x, -, -, ⟨-, h⟩ | ⟨st, r, -, h⟩⟩ <;> rw [h]
  · exact .refl s
  · exact (badFrame_orderKept s f x).trans (nextTurn_orderKept _ f)
  · exact (goodFrame_orderKept s f x st r).trans (nextTurn_orderKept _ f)

theorem windowExpiry_orderKept (s : State) (f : Face) : OrderKept s (s.windowExpiry f) := by
  rcases windowExpiry_cases s f with h | ⟨x, -, -, h⟩ <;> rw [h]
  · exact .refl s
  · exact (badFrame_orderKept s f x).trans (nextTurn_orderKept _ f)

/-! ### The Berth Tracker and the Alignment Engine -/

theorem becomeVacant_orderKept (s : State) (f : Face) : OrderKept s (s.becomeVacant f) :=
  ((((modBerth_orderKept s f _).trans ((setCondition_reported _ f .positionStale false).trans
    (setCondition_reported _ f .noProfile false)).orderKept).trans (followEnable_orderKept _ f)).trans
    (dropOpens_orderKept _ f)).trans (testAdoption_orderKept _ f)

theorem requestAlignment_orderKept (s : State) (f : Face) (n : BitVec 8) : OrderKept s (s.requestAlignment f n) := by
  unfold requestAlignment
  split <;> exact modAln_orderKept s _

theorem withdrawAlignment_orderKept (s : State) (f : Face) : OrderKept s (s.withdrawAlignment f) := .opt (modAln_orderKept s _)

theorem acceptAlignment_orderKept (s : State) (f : Face) (r : AlignResult) : OrderKept s (s.acceptAlignment f r) := by
  rw [acceptAlignment_eq]
  have taken : OrderKept s (s.aligned f r) :=
    (((modBerth_orderKept s f _).trans (raiseFindings_reported _ f r).orderKept).trans (followEnable_orderKept _ f)).trans
      (dropOpens_orderKept _ f)
  exact taken.trans (.opt (evacuationOpening_orderKept _ f))

theorem completeAlignment_orderKept (s : State) : OrderKept s s.completeAlignment := by
  unfold completeAlignment
  split
  · exact .refl s
  next i _ =>
    have delivered : OrderKept s (s.deliverAlignment i) := .opt (acceptAlignment_orderKept s _ _)
    dsimp only
    split
    · exact delivered.trans (modAln_orderKept _ _)
    · exact (delivered.trans (modAln_orderKept _ _)).trans (modAln_orderKept _ _)

theorem refuseTelegram_orderKept (s : State) (f : Face) (k : TelegramKind) (r : Reason) :
    OrderKept s (s.refuseTelegram f k r) := modBerth_orderKept s f _

theorem startSupervision_orderKept (s : State) (f : Face) : OrderKept s (s.startSupervision f) := by
  unfold startSupervision
  split
  · exact .refl s
  · exact modBerth_orderKept s f _

theorem takeArrival_orderKept (s : State) (f : Face) (body : List Byte) : OrderKept s (s.takeArrival f body) := by
  have refused (r : Reason) := refuseTelegram_orderKept s f .arrival r
  unfold takeArrival
  split
  · split
    · exact refused _
    split
    · exact refused _
    · exact (modBerth_orderKept s f _).trans (startSupervision_orderKept _ f)
  · exact refused _

theorem becomeDeparting_orderKept (s : State) (f : Face) : OrderKept s (s.becomeDeparting f) :=
  ((((((modBerth_orderKept s f _).trans (startSupervision_orderKept _ f)).trans
    (setCondition_reported _ f .positionStale false).orderKept).trans (followEnable_orderKept _ f)).trans
    (cancelDeferral_orderKept _ f)).trans (.opt (partnerExits_orderKept _ _))).trans (.opt (withdrawAlignment_orderKept _ f))

theorem takeDeparture_orderKept (s : State) (f : Face) (body : List Byte) : OrderKept s (s.takeDeparture f body) := by
  have accepted : OrderKept s (s.acceptDeparture f) :=
    (((becomeDeparting_orderKept s f).trans (.opt (raiseFace_orderKept _ f _))).trans (departureClose_orderKept _ f)).trans
      (dropOpens_orderKept _ f)
  have refused (r : Reason) := refuseTelegram_orderKept s f .departure r
  exact .ite (.ite (refused _) (.ite (refused _) accepted)) (refused _)

theorem takeCleared_orderKept (s : State) (f : Face) (body : List Byte) : OrderKept s (s.takeCleared f body) := by
  have refused (r : Reason) := refuseTelegram_orderKept s f .cleared r
  exact .ite (.ite (refused _) (.ite (refused _) (becomeVacant_orderKept s f))) (refused _)

theorem returnToApproaching_orderKept (s : State) (f : Face) (x : Sample) : OrderKept s (s.returnToApproaching f x) :=
  ((((modBerth_orderKept s f _).trans (setCondition_reported _ f .noProfile false).orderKept).trans
    (followEnable_orderKept _ f)).trans (dropOpens_orderKept _ f)).trans (.opt (withdrawAlignment_orderKept _ f))

theorem testSample_orderKept (s : State) (f : Face) (p : FaceParams) (x : Sample) : OrderKept s (s.testSample f p x) := by
  unfold testSample
  dsimp only
  split
  · exact .opt ((modBerth_orderKept s f _).trans (requestAlignment_orderKept _ f _))
  · exact .opt (returnToApproaching_orderKept s f x)
  · exact .opt (returnToApproaching_orderKept s f x)
  · exact .opt (((becomeDeparting_orderKept s f).trans
      (.ite (.refl _) ((raiseFace_orderKept _ f _).trans (movementClose_orderKept _ f)))).trans (dropOpens_orderKept _ f))
  · exact .refl s
  · exact .refl s

theorem takePosition_orderKept (s : State) (f : Face) (body : List Byte) : OrderKept s (s.takePosition f body) := by
  have refused (r : Reason) := refuseTelegram_orderKept s f .position r
  unfold takePosition
  split
  · exact refused _
  refine .ite (refused _) ?_
  split
  · exact refused _
  · exact .ite (modBerth_orderKept s f _) (((modBerth_orderKept s f _).trans (testSample_orderKept _ f _ _)).trans
      ((startSupervision_orderKept _ f).trans (setCondition_reported _ f _ _).orderKept))

theorem supervisionLapse_orderKept (s : State) (f : Face) : OrderKept s (s.supervisionLapse f) := by
  unfold supervisionLapse
  refine .opt ((modBerth_orderKept s f fun b => { b with supervision := none }).trans ?_)
  dsimp only
  split
  · exact becomeVacant_orderKept _ f
  · exact .refl _
  all_goals exact (activate_reported _ f _ _).orderKept

/-! ### The Link Interface, the Gap Monitor, the Table Store -/

theorem degrade_orderKept (s : State) : OrderKept s s.degrade := by
  rcases degrade_blocks s with h | h
  · exact (modLif_orderKept s _).trans h.orderKept
  · rw [h]; exact .refl s

theorem intactFrame_orderKept (s : State) : OrderKept s s.intactFrame :=
  (modLif_orderKept s _).trans (.opt ((modLif_orderKept _ _).trans (recover_reported _).orderKept))

theorem joinIntake_orderKept (s : State) (r : Request) : OrderKept s (s.joinIntake r) :=
  .ite (modLif_orderKept s _) ((modLif_orderKept s _).trans (raiseDevice_orderKept _ _))

theorem frameEnd_orderKept (s : State) : OrderKept s s.frameEnd := by
  unfold frameEnd
  split
  · exact .refl s
  · exact modLif_orderKept s _

theorem handOnZones_orderKept (s : State) (f : Face) (r : List Head) (h : Bool) (zs : List Zone) :
    OrderKept s (s.handOnZones f r h zs) :=
  have heads (u : State) (l : List Head) : OrderKept u (u.followHeads f l) :=
    .ite (activate_reported u f _ _).orderKept (setCondition_reported u f _ _).orderKept
  ((((decide_reported s f).orderKept.trans (heads _ r)).trans (heads _ _)).trans
    (.opt (raiseFace_orderKept _ f _))).trans (modReports_orderKept _ f _)

theorem cycleEnd_orderKept (s : State) : OrderKept s s.cycleEnd := by
  have rebuilt : OrderKept s s.rebuildGap := .opt (modGap_orderKept s _)
  exact .opt (((((rebuilt.trans (modGap_orderKept _ _)).trans (modGap_orderKept _ _)).trans
    (handOnZones_orderKept _ .A _ _ _)).trans (handOnZones_orderKept _ .B _ _ _)).trans (modGap_orderKept _ _))

theorem takeScan_orderKept (s : State) (bytes : List Byte) (ok : Bool) : OrderKept s (s.takeScan bytes ok) := by
  unfold takeScan
  split
  · exact .refl s
  · exact modGap_orderKept s _

theorem takeObstruction_orderKept (s : State) (f : Face) (n : Nat) : OrderKept s (s.takeObstruction f n) :=
  .opt ((modReports_orderKept s f _).trans (applyDoor_orderKept _ f n _ fun c d => by
    split
    · exact (d.obstruct_keepsEnable c).number
    · rfl))

theorem endValidation_orderKept (s : State) : OrderKept s s.endValidation := by
  unfold endValidation
  split
  · exact .refl s
  dsimp only
  split
  · exact (modTbs_orderKept s _).trans (modLif_orderKept _ _)
  split
  · exact (modTbs_orderKept s _).trans (modLif_orderKept _ _)
  · exact ((((modTbs_orderKept s _).trans (modTbs_orderKept _ _)).trans (modLif_orderKept _ _)).trans
      (testAdoption_orderKept _ .A)).trans (testAdoption_orderKept _ .B)

theorem endCopy_orderKept (s : State) : OrderKept s s.endCopy := by
  unfold endCopy
  split
  · exact .refl s
  · exact (modTbs_orderKept s _).trans (raiseDevice_orderKept _ _)

theorem snapshotDone_orderKept (s : State) : OrderKept s s.snapshotDone := by
  unfold snapshotDone
  split
  · exact .refl s
  · exact (modLif_orderKept s _).trans (modLif_orderKept _ _)

/-- A counter clear leaves the doors' numbers. -/
theorem clearDone_orderKept (s : State) : OrderKept s s.clearDone := by
  have cleared (x : Clearing) : OrderKept s (s.cleared x) :=
    .of_numbers fun f => by simp [zeroFace, zeroDoor, Function.comp_def]
  cases h : s.lif.clearing with
  | none => rw [clearDone, h]; exact .refl s
  | some x => rw [clearDone_of_clearing h]; exact (cleared x).trans (raiseDevice_orderKept _ _)

/-! ### SOFT_RESET -/

theorem faceSoftReset_orderKept (s : State) (f : Face) : OrderKept s (s.faceSoftReset f) :=
  (((modBerth_orderKept s f _).trans (modDeferral_orderKept _ f _)).trans (modReports_orderKept _ f _)).trans
    ((modDoors_map_orderKept _ f Door.softReset fun _ => rfl).trans (doorsHandOn_reported _ f).orderKept)

theorem lineSoftReset_orderKept (s : State) (f : Face) : OrderKept s (s.lineSoftReset f) :=
  (modLine_orderKept s f _).trans (.opt (nextTurn_orderKept _ f))

theorem releaseSoftReset_orderKept (s : State) (f : Face) (level : Level) : OrderKept s (s.releaseSoftReset f level) :=
  (modRelease_orderKept s f _).trans (.opt (restoreClose_orderKept _ f))

/-- The reset's blocks in their order (notes/assumptions/25.md). -/
theorem softReset_orderKept (s : State) (evac : PerFace Level) : OrderKept s (s.softReset evac) := by
  have link : OrderKept s (s.lifSoftReset.raiseDevice .reset) := (modLif_orderKept s _).trans (raiseDevice_orderKept _ .reset)
  have proof (u : State) : OrderKept u ((u.proofSoftReset .A).proofSoftReset .B) :=
    ((modProof_orderKept u .A _).trans (modProof_orderKept _ .A _)).trans
      ((modProof_orderKept _ .B _).trans (modProof_orderKept _ .B _))
  have gap (u : State) : OrderKept u u.alnSoftReset.gapSoftReset :=
    (modAln_orderKept u _).trans ((modGap_orderKept _ _).trans (modGap_orderKept _ _))
  have faces (u : State) : OrderKept u ((u.faceSoftReset .A).faceSoftReset .B) :=
    (faceSoftReset_orderKept u .A).trans (faceSoftReset_orderKept _ .B)
  have lines (u : State) : OrderKept u ((u.lineSoftReset .A).lineSoftReset .B) :=
    (lineSoftReset_orderKept u .A).trans (lineSoftReset_orderKept _ .B)
  have decided (u : State) : OrderKept u ((u.decide .A).decide .B) := ((decide_reported u .A).trans (decide_reported _ .B)).orderKept
  have releases (u : State) : OrderKept u ((u.releaseSoftReset .A evac.a).releaseSoftReset .B evac.b) :=
    (releaseSoftReset_orderKept u .A _).trans (releaseSoftReset_orderKept _ .B _)
  have tables (u : State) : OrderKept u ((u.tbsSoftReset.testAdoption .A).testAdoption .B) :=
    ((modTbs_orderKept u _).trans (testAdoption_orderKept _ .A)).trans (testAdoption_orderKept _ .B)
  have evacuations (u : State) : OrderKept u ((u.testEvacuation .A).testEvacuation .B).refreshAlerts :=
    ((testEvacuation_orderKept u .A).trans (testEvacuation_orderKept _ .B)).trans (refreshAlerts_reported _).orderKept
  exact ((((((((link.trans (proof _)).trans (gap _)).trans (faces _)).trans (lines _)).trans (decided _)).trans (releases _)).trans
    (tables _)).trans (evacuations _))

/-! ### The requests -/

theorem withFace_orderKept (s : State) (r : Request) (k : Face → State) (hk : ∀ f, OrderKept s (k f)) :
    OrderKept s (s.withFace r k) := by
  unfold withFace
  split
  · exact refuse_orderKept s r _
  · exact hk _

theorem withConfigured_orderKept (s : State) (r : Request) (k : Face → State) (hk : ∀ f, OrderKept s (k f)) :
    OrderKept s (s.withConfigured r k) := withFace_orderKept s r _ fun f => .ite (hk f) (refuse_orderKept s r _)

theorem withNoFields_orderKept (s : State) (r : Request) (k : State) (hk : OrderKept s k) :
    OrderKept s (s.withNoFields r k) := .ite hk (refuse_orderKept s r _)

theorem withDoor_orderKept (s : State) (r : Request) (k : Face → Door → State) (hk : ∀ f d, OrderKept s (k f d)) :
    OrderKept s (s.withDoor r k) :=
  withConfigured_orderKept s r _ fun f => by
    split
    · exact refuse_orderKept s r _
    · exact hk f _

theorem takeOpenFace_orderKept (r : Request) (s : State) : OrderKept s (takeOpenFace r s) :=
  withConfigured_orderKept s r _ fun f => withNoFields_orderKept s r _ <| by
    split
    · exact refuse_orderKept s r _
    · exact done_orderKept (((cancelDeferral_orderKept s f).trans
        (applyDoors_orderKept _ f _ _ fun c d => Door.place_number d c .openCmd .routine)).trans (enterDwelling_orderKept _ f)) r

theorem takeCloseFace_orderKept (r : Request) (s : State) : OrderKept s (takeCloseFace r s) :=
  withConfigured_orderKept s r _ fun f => withNoFields_orderKept s r _ <| by
    refine .ite (refuse_orderKept s r _) (.ite (answer_orderKept s r _ _) ?_)
    split
    next i h _ =>
      have emptied : OrderKept s { s with holds := s.holds.setIfInBounds i none } := .of_doors fun _ => rfl
      exact ((emptied.trans (modDeferral_orderKept _ f _)).trans (partnerDwellLapse_orderKept _ f)).trans (answer_orderKept _ r _ _)
    · exact done_orderKept (closeFaceNow_orderKept s f) r

theorem takeReopenDoor_orderKept (r : Request) (s : State) : OrderKept s (takeReopenDoor r s) :=
  withDoor_orderKept s r _ fun f d => by
    split
    · exact refuse_orderKept s r _
    · exact done_orderKept (applyDoor_orderKept s f _ _ fun c d => Door.place_number d c .openCmd .routine) r

theorem takeCloseDoor_orderKept (r : Request) (s : State) : OrderKept s (takeCloseDoor r s) :=
  withDoor_orderKept s r _ fun f _ => .ite (refuse_orderKept s r _)
    (.ite (done_orderKept (applyDoor_orderKept s f _ _ fun c d => (d.startClose_keepsEnable c _).number) r) (refuse_orderKept s r _))

theorem takeIsolateDoor_orderKept (r : Request) (s : State) : OrderKept s (takeIsolateDoor r s) :=
  withDoor_orderKept s r _ fun f _ =>
    done_orderKept (applyDoorRestore_orderKept s f _ _ fun _ d => d.isolate_keepsEnable.number) r

theorem takeReturnDoor_orderKept (r : Request) (s : State) : OrderKept s (takeReturnDoor r s) :=
  withDoor_orderKept s r _ fun f _ =>
    .ite (done_orderKept (applyDoorRestore_orderKept s f _ _ fun _ d => d.returnToService_keepsEnable.number) r)
      (refuse_orderKept s r _)

theorem takeHoldAdd_orderKept (r : Request) (s : State) : OrderKept s (takeHoldAdd r s) :=
  withConfigured_orderKept s r _ fun f => by
    split
    · exact refuse_orderKept s r _
    split
    · exact refuse_orderKept s r _
    · exact .of_doors fun _ => rfl

theorem takeHoldCancel_orderKept (r : Request) (s : State) : OrderKept s (takeHoldCancel r s) :=
  withFace_orderKept s r _ fun f => by
    split
    · exact refuse_orderKept s r _
    · exact .ite (.of_doors fun _ => rfl) (refuse_orderKept s r _)

theorem takeRestore_orderKept (r : Request) (s : State) : OrderKept s (takeRestore r s) :=
  withFace_orderKept s r _ fun f => by
    have refused (x : Reason) := refuse_orderKept s r x
    have accepted (q : Byte) : OrderKept s (s.acceptRestore f q) := (modRelease_orderKept s f _).trans
      (.ite (becomeNormal_orderKept _ f) ((setRelease_orderKept _ f _).trans (restoreClose_orderKept _ f)))
    split
    · exact refused _
    · exact .ite (refused _) (.ite (refused _) (.ite
        (((modRelease_orderKept s f _).trans (raiseFace_orderKept _ f _)).trans (answer_orderKept _ r _ _))
        (.ite (refused _) (.ite (refused _) (done_orderKept (accepted _) r)))))

theorem takeEvacuate_orderKept (r : Request) (s : State) : OrderKept s (takeEvacuate r s) :=
  withFace_orderKept s r _ fun f => withNoFields_orderKept s r _ <| .ite
    (done_orderKept ((modRelease_orderKept s f _).trans (.ite (.refl _) (beginEvacuation_orderKept _ f))) r) (refuse_orderKept s r _)

theorem takeTunnel_orderKept (r : Request) (s : State) : OrderKept s (takeTunnel r s) :=
  withConfigured_orderKept s r _ fun f => by
    split
    · exact refuse_orderKept s r _
    split
    · exact refuse_orderKept s r _
    · exact .ite (refuse_orderKept s r _) (.ite (refuse_orderKept s r _) (modLine_orderKept s f _))

theorem takeWriteEntry_orderKept (r : Request) (s : State) : OrderKept s (takeWriteEntry r s) := by
  have refused (x : Reason) := refuse_orderKept s r x
  unfold takeWriteEntry
  split
  · split
    · exact refused _
    split
    · split
      · exact refused _
      · exact (modTbs_orderKept s _).trans (answer_orderKept _ r _ _)
    · exact refused _
  · exact refused _

theorem takeReadEntry_orderKept (r : Request) (s : State) : OrderKept s (takeReadEntry r s) := by
  unfold takeReadEntry
  split
  · split
    · exact .ite (refuse_orderKept s r _) (answer_orderKept s r _ _)
    · exact refuse_orderKept s r _
  · exact refuse_orderKept s r _

theorem takeActivate_orderKept (r : Request) (s : State) : OrderKept s (takeActivate r s) := by
  unfold takeActivate
  split
  · exact refuse_orderKept s r _
  · exact .ite (refuse_orderKept s r _) (.ite (refuse_orderKept s r _) (modTbs_orderKept s _))

theorem drawFree_orderKept (s : State) : OrderKept s s.drawFree := .opt (.of_doors fun _ => rfl)

theorem takeReadStatus_orderKept (r : Request) (s : State) : OrderKept s (takeReadStatus r s) := by
  unfold takeReadStatus
  split
  · exact refuse_orderKept s r _
  · exact (drawFree_orderKept s).trans (answer_orderKept _ r _ _)

theorem takeReadDoor_orderKept (r : Request) (s : State) : OrderKept s (takeReadDoor r s) :=
  withDoor_orderKept s r _ fun _ _ => (drawFree_orderKept s).trans (answer_orderKept _ r _ _)

theorem takeSetDevice_orderKept (r : Request) (s : State) : OrderKept s (takeSetDevice r s) := by
  have installed (limit : Nat) (routes : Vector Route 23) : OrderKept s (s.installDevice limit routes) :=
    ((modLif_orderKept s _).trans (modLif_orderKept _ _)).trans
      ((OrderKept.opt (degrade_orderKept _)).trans (refreshAlerts_reported _).orderKept)
  unfold takeSetDevice
  split
  · exact refuse_orderKept s r _
  · exact done_orderKept (installed _ _) r

theorem takeReadEvents_orderKept (r : Request) (s : State) : OrderKept s (takeReadEvents r s) := by
  unfold takeReadEvents
  split
  · exact refuse_orderKept s r _
  · exact ((modLif_orderKept s _).trans (refreshAlerts_reported _).orderKept).trans (answer_orderKept _ r _ _)

theorem takeReadCounters_orderKept (r : Request) (s : State) : OrderKept s (takeReadCounters r s) := by
  unfold takeReadCounters
  split
  · exact refuse_orderKept s r _
  refine .ite (refuse_orderKept s r _) ?_
  split
  · exact refuse_orderKept s r _
  · exact answer_orderKept s r _ _

/-- SNAPSHOT_COUNTERS and CLEAR_COUNTERS note the request or refuse it. -/
theorem takeNoted_orderKept (r : Request) (s : State) (c : Prop) [Decidable c] (x : Reason) (g : LinkInterface → LinkInterface) :
    OrderKept s (s.withNoFields r (if c then s.refuse r x else s.modLif g)) :=
  withNoFields_orderKept s r _ (.ite (refuse_orderKept s r _) (modLif_orderKept s _))

/-! ### The timers -/

theorem tunnelLapse_orderKept (s : State) (f : Face) : OrderKept s (s.tunnelLapse f) := by
  unfold tunnelLapse
  split
  · exact .refl s
  · exact .opt (endTunnel_orderKept s f _ _)

theorem doorTimeout_orderKept (s : State) (f : Face) (n : Nat) (k : TimerKind) : OrderKept s (s.doorTimeout f n k) :=
  .opt (applyDoor_orderKept s f n _ fun _ d => (d.timeout_keepsEnable k).number)

theorem dwellLapse_orderKept (s : State) (f : Face) (n : Nat) : OrderKept s (s.dwellLapse f n) :=
  .opt (applyDoor_orderKept s f n _ fun c d => (d.dwellOver_keepsEnable c).number)

/-! ### A step -/

theorem advance_orderKept (s : State) (t : Micros) : OrderKept s (s.advance t) := .of_doors fun _ => rfl

theorem event_orderKept (s : State) (t : Micros) (k : State → State) (hk : ∀ u, OrderKept u (k u)) : OrderKept s (s.event t k) :=
  .ite ((((advance_orderKept s t).trans (arbitrate_arbitrated _).orderKept).trans (hk _)).trans
    (arbitrate_arbitrated _).orderKept) (advance_orderKept s t)

/-- An intact frame counted, and then delivered. -/
theorem delivery_orderKept (s : State) (t : Micros) (k : State → State) (hk : ∀ u, OrderKept u (k u)) :
    OrderKept s (s.event t fun u => k u.intactFrame) := event_orderKept s t _ fun u => (intactFrame_orderKept u).trans (hk _)

theorem request_orderKept (s : State) (t : Micros) (k : Option RequestKind) (h : Request → State → State)
    (hk : ∀ r u, OrderKept u (h r u)) : OrderKept s (s.event t fun s => s.takeRequest k h) :=
  event_orderKept s t _ fun u => by
    unfold takeRequest
    split
    · exact .refl u
    · exact .opt ((modLif_orderKept u _).trans (hk _ _))

theorem silence_orderKept (s : State) : OrderKept s s.silence := .of_doors fun f => by cases f <;> rfl

/-- A face at power-on has no door. -/
theorem freshBlocks_orderKept (s : State) (cause : ResetCause) (evac : PerFace Level) : OrderKept s (s.freshBlocks cause evac) :=
  fun _ f => by
    rw [freshBlocks_face]
    simp [FaceState.initial]

theorem releasePin_orderKept (s : State) (evac : PerFace Level) : OrderKept s (s.releasePin evac) :=
  .ite ((freshBlocks_orderKept s .pin evac).trans (.of_doors fun _ => rfl)) (.of_doors fun _ => rfl)

end State

open State in
/-- A command keeps the doors ordered. -/
theorem exec_orderKept (c : Instr) (s u : State) (h : exec c s = .next u) : OrderKept s u := by
  have next {v : State} (k : OrderKept s v) (h : (.next v : Host.Outcome State Fault Refusal) = .next u) : OrderKept s u := by cases h; exact k
  have pin {v w : State} {t : Micros} (h : OrderKept (s.advance t) v) (e : ∀ f, (w.face f).doors = (v.face f).doors) : OrderKept s w :=
    ((advance_orderKept s t).trans h).trans (.of_doors e)
  cases c
  case powerOn t evac => exact next (v := (s.advance t).powerUp evac) (pin (freshBlocks_orderKept _ .powerOn evac) fun _ => rfl) h
  case resetPinAssert t => exact next (v := (s.advance t).assertPin) (pin (silence_orderKept _) fun _ => rfl) h
  case resetPinRelease t evac => exact next ((advance_orderKept s t).trans (releasePin_orderKept _ evac)) h
  case powerLoss t => exact next (v := (s.advance t).powerDown) (pin (silence_orderKept _) fun _ => rfl) h
  case evacInputChange t f l =>
    exact next (event_orderKept s t _ fun u => (modRelease_orderKept u f _).trans (testEvacuation_orderKept _ f)) h
  case inboundFrameDamaged t => exact next (event_orderKept s t _ fun u => (modLif_orderKept u _).trans (.opt (degrade_orderKept _))) h
  case trainFrameDiscarded t => exact next (delivery_orderKept s t _ fun u => modLif_orderKept u _) h
  case arrival t f b => exact next (delivery_orderKept s t _ fun u => takeArrival_orderKept u f b) h
  case position t f b => exact next (delivery_orderKept s t _ fun u => takePosition_orderKept u f b) h
  case departure t f b => exact next (delivery_orderKept s t _ fun u => takeDeparture_orderKept u f b) h
  case cleared t f b => exact next (delivery_orderKept s t _ fun u => takeCleared_orderKept u f b) h
  case requestFrameReceived t r => exact next (delivery_orderKept s t _ fun u => joinIntake_orderKept u r) h
  case transmitFrameEnd t => exact next (event_orderKept s t _ frameEnd_orderKept) h
  case uplinkSilenceExpiry t => exact next (event_orderKept s t _ fun u => .opt ((modLif_orderKept u _).trans (degrade_orderKept _))) h
  case requestUndefinedKind t => exact next (request_orderKept s t _ _ fun r u => refuse_orderKept u r _) h
  case openFace t => exact next (request_orderKept s t _ _ takeOpenFace_orderKept) h
  case closeFace t => exact next (request_orderKept s t _ _ takeCloseFace_orderKept) h
  case reopenDoor t => exact next (request_orderKept s t _ _ takeReopenDoor_orderKept) h
  case closeDoor t => exact next (request_orderKept s t _ _ takeCloseDoor_orderKept) h
  case isolateDoor t => exact next (request_orderKept s t _ _ takeIsolateDoor_orderKept) h
  case returnDoor t => exact next (request_orderKept s t _ _ takeReturnDoor_orderKept) h
  case holdAdd t => exact next (request_orderKept s t _ _ takeHoldAdd_orderKept) h
  case holdCancel t => exact next (request_orderKept s t _ _ takeHoldCancel_orderKept) h
  case restore t => exact next (request_orderKept s t _ _ takeRestore_orderKept) h
  case evacuate t => exact next (request_orderKept s t _ _ takeEvacuate_orderKept) h
  case tunnel t => exact next (request_orderKept s t _ _ takeTunnel_orderKept) h
  case writeEntry t => exact next (request_orderKept s t _ _ takeWriteEntry_orderKept) h
  case readEntry t => exact next (request_orderKept s t _ _ takeReadEntry_orderKept) h
  case activate t => exact next (request_orderKept s t _ _ takeActivate_orderKept) h
  case readStatus t => exact next (request_orderKept s t _ _ takeReadStatus_orderKept) h
  case readDoor t => exact next (request_orderKept s t _ _ takeReadDoor_orderKept) h
  case setDevice t => exact next (request_orderKept s t _ _ takeSetDevice_orderKept) h
  case readEvents t => exact next (request_orderKept s t _ _ takeReadEvents_orderKept) h
  case snapshotCounters t => exact next (request_orderKept s t _ _ fun r u => takeNoted_orderKept r u _ _ _) h
  case readCounters t => exact next (request_orderKept s t _ _ takeReadCounters_orderKept) h
  case clearCounters t => exact next (request_orderKept s t _ _ fun r u => takeNoted_orderKept r u _ _ _) h
  case softReset t evac => exact next (request_orderKept s t _ _ fun r u => withNoFields_orderKept u r _ (softReset_orderKept u evac)) h
  case supervisionExpiry t f => exact next (event_orderKept s t _ fun u => supervisionLapse_orderKept u f) h
  case alignmentComplete t => exact next (event_orderKept s t _ completeAlignment_orderKept) h
  case openTimeoutExpiry t f n => exact next (event_orderKept s t _ fun u => doorTimeout_orderKept u f n _) h
  case closeTimeoutExpiry t f n => exact next (event_orderKept s t _ fun u => doorTimeout_orderKept u f n _) h
  case recycleDwellExpiry t f n => exact next (event_orderKept s t _ fun u => dwellLapse_orderKept u f n) h
  case obstructionReport t f n => exact next (event_orderKept s t _ fun u => takeObstruction_orderKept u f n) h
  case holdMaximumExpiry t f => exact next (event_orderKept s t _ fun u => .opt (endWithClose_orderKept u f _)) h
  case partnerDwellExpiry t f => exact next (event_orderKept s t _ fun u => partnerDwellLapse_orderKept u f) h
  case turnAnswer t f b p => exact next (event_orderKept s t _ fun u => takeAnswer_orderKept u f b p) h
  case answerWindowExpiry t f => exact next (event_orderKept s t _ fun u => windowExpiry_orderKept u f) h
  case lateFrameDiscarded t f => exact next (event_orderKept s t _ .refl) h
  case tunnelTimeout t f => exact next (event_orderKept s t _ fun u => tunnelLapse_orderKept u f) h
  case scanFrameArrival t b p => exact next (event_orderKept s t _ fun u => takeScan_orderKept u b p) h
  case sensorCycleEnd t => exact next (event_orderKept s t _ cycleEnd_orderKept) h
  case periodicProofExpiry t f => exact next (event_orderKept s t _ fun u => .opt (modProof_orderKept u f _)) h
  case validationComplete t => exact next (event_orderKept s t _ endValidation_orderKept) h
  case copyComplete t => exact next (event_orderKept s t _ endCopy_orderKept) h
  case snapshotReady t => exact next (event_orderKept s t _ snapshotDone_orderKept) h
  case counterClearComplete t => exact next (event_orderKept s t _ clearDone_orderKept) h

/-- Settles O59: each command keeps the doors ordered, operation by operation; an adoption and a reset alone renumber them. -/
theorem everyStepKeepsDoorsOrdered : Obligations.EveryStepKeepsDoorsOrdered := by
  intro s u hs h
  unfold step at h
  split at h
  · cases h; exact hs
  next c rest _ =>
    have taken : OrderKept s { s with pending := rest } := .of_doors fun _ => rfl
    exact taken.trans (exec_orderKept c _ u h) hs

end Sys2Proof.Machine
end

section
/-! PROOFS. O35: the return decision of a LOST door (R61, R68, R72, R76). -/

namespace Sys2Proof.Machine

/-- ISOLATED is the settled state of a status with the local-isolation flag, and of no other (R63). -/
theorem Status.settled_isolated_iff (st : Status) : st.settled = .isolated ↔ st.localIsolation = true := by
  unfold settled
  split
  next h => simp [h]
  next h =>
    simp only [h]
    split
    · simp
    · split <;> simp

/-- The outcome of a decision about a returned door, its DOOR_RETURNED before what the decision raises (R72). -/
def DoorOutcome.returned (o : DoorOutcome) : DoorOutcome := ⟨o.door, .doorReturned :: o.events, o.reports⟩

namespace Door

/-- A door that enters CLOSING where no RECYCLE-policy zone of it is OCCUPIED (R68). -/
theorem enterClosing_clear {ctx : DoorContext} (h : ctx.occupied = false) (d : Door) : d.enterClosing ctx = plain (d.goTo .closing) := by
  simp [enterClosing, h]

/-- A door that enters CLOSING while a RECYCLE-policy zone of it is OCCUPIED is obstructed at once (R68). -/
theorem enterClosing_occupied {ctx : DoorContext} (h : ctx.occupied = true) (d : Door) :
    d.enterClosing ctx = (d.goTo .closing).obstruct ctx := by simp [enterClosing, h]

/-- A door without a latch that enters CLOSED clears its evac-opened mark alone (R76). -/
theorem enterClosed_unlatched {d : Door} (h : d.latched = false) :
    d.enterClosed = ⟨{ d.goTo .closed with evacOpened := false }, [], if d.evacOpened then [.evacCleared] else []⟩ := by
  have kept : ({ d.goTo .closed with latched := false, evacOpened := false } : Door) = { d.goTo .closed with evacOpened := false } := by
    simp [goTo, h]
  rw [enterClosed, kept, h]
  rfl

/-- A door with an empty slot, its slot emptied. -/
theorem setSlot_none {d : Door} (h : d.slotCommand = none) : d.setSlot none = d := by
  have empty : d.link.slot = none := by simpa [slotCommand] using h
  simp [setSlot, ← empty]

/-- The decision about a door that bears a latch, or has just taken one (R72). -/
def returnLatched (d : Door) (ctx : DoorContext) (st : Status) : DoorOutcome :=
  if d.slotCommand = some .closeCmd then
    if st.position = .closedLocked then (d.setSlot none).enterClosed else d.enterClosing ctx
  else plain ((d.setSlot none).goTo .released)

/-- A door whose local isolation has ended (R61). -/
def localEnded (d : Door) : Door := { d with isolation := if d.isolation = .localSwitch then .none else d.isolation }

/-- The decision about a door without a latch whose settled state is neither ISOLATED nor STALLED: the command that waited decides
(R72). -/
def returnByCommand (d : Door) (ctx : DoorContext) (st : Status) : DoorOutcome :=
  match d.slotCommand with
  | none => d.takeSettled st
  | some .openCmd => if st.settled = .opened then plain ((d.setSlot none).goTo .opened) else plain (d.goTo .opening)
  | some .closeCmd => if st.settled = .closed then (d.setSlot none).enterClosed else d.enterClosing ctx
  | some .haltCmd => { door := d.goTo .held, events := [.doorHeld], reports := [] }

theorem returnByCommand_none {d : Door} {ctx : DoorContext} {st : Status} (h : d.slotCommand = none) :
    d.localEnded.returnByCommand ctx st = d.localEnded.takeSettled st := by
  rw [returnByCommand, show d.localEnded.slotCommand = _ from h]

theorem returnByCommand_open {d : Door} {ctx : DoorContext} {st : Status} (h : d.slotCommand = some .openCmd) :
    d.localEnded.returnByCommand ctx st =
      if st.settled = .opened then plain ((d.localEnded.setSlot none).goTo .opened) else plain (d.localEnded.goTo .opening) := by
  rw [returnByCommand, show d.localEnded.slotCommand = _ from h]

theorem returnByCommand_close {d : Door} {ctx : DoorContext} {st : Status} (h : d.slotCommand = some .closeCmd) :
    d.localEnded.returnByCommand ctx st =
      if st.settled = .closed then (d.localEnded.setSlot none).enterClosed else d.localEnded.enterClosing ctx := by
  rw [returnByCommand, show d.localEnded.slotCommand = _ from h]

theorem returnByCommand_halt {d : Door} {ctx : DoorContext} {st : Status} (h : d.slotCommand = some .haltCmd) :
    d.localEnded.returnByCommand ctx st = ⟨d.localEnded.goTo .held, [.doorHeld], []⟩ := by
  rw [returnByCommand, show d.localEnded.slotCommand = _ from h]

theorem localEnded_of_flag {st : Status} (h : st.localIsolation = false) (d : Door) :
    (if d.isolation = .localSwitch ∧ ¬st.localIsolation then { d with isolation := .none } else d) = d.localEnded := by
  unfold localEnded
  split <;> simp_all

/-- A manual release is the first thing that a returned door's status brings (R72). -/
theorem returnDecision_actuated {d : Door} {st : Status} (ctx : DoorContext) (ha : st.releaseActuated = true)
    (hl : d.latched = false) :
    d.returnDecision ctx st = ⟨(d.latch.door.setSlot none).goTo .released, [.doorReturned], [.latchSet]⟩ := by
  unfold returnDecision
  dsimp only
  rw [if_pos ⟨ha, by simp [hl]⟩]
  rfl

theorem returnDecision_latched {d : Door} (ctx : DoorContext) (st : Status) (h : d.latched = true) :
    d.returnDecision ctx st = (d.returnLatched ctx st).returned := by
  simp [returnDecision, h, DoorOutcome.andThen, returnLatched, DoorOutcome.returned]

/-- A door without a latch whose settled state is ISOLATED or STALLED takes that state. -/
theorem returnDecision_isolated {d : Door} {st : Status} (ctx : DoorContext) (ha : st.releaseActuated = false)
    (hl : d.latched = false) (h : st.settled = .isolated) : d.returnDecision ctx st = (d.takeSettled st).returned := by
  simp [returnDecision, ha, hl, h, (Status.settled_isolated_iff st).1 h, DoorOutcome.andThen, DoorOutcome.returned]

/-- A door without a latch whose status carries no local isolation takes a STALLED state, and else follows the command that waited. -/
theorem returnDecision_unlatched {d : Door} {st : Status} (ctx : DoorContext) (ha : st.releaseActuated = false)
    (hl : d.latched = false) (h : st.settled ≠ .isolated) :
    d.returnDecision ctx st =
      (if st.settled = .stalled then d.localEnded.takeSettled st else d.localEnded.returnByCommand ctx st).returned := by
  have flag : st.localIsolation = false := by simpa [Status.settled_isolated_iff] using h
  have kept : ¬(st.releaseActuated = true ∧ ¬d.latched = true) := fun a => by simp [ha] at a
  have free : ¬d.latched = true := by simp [hl]
  unfold returnDecision DoorOutcome.andThen
  dsimp only
  rw [if_neg kept, if_neg free, localEnded_of_flag flag]
  simp only [h, false_or]
  rfl

end Door

/-- A returned door that enters CLOSING, as R68 tests it. -/
theorem Door.enterClosing_returned (d : Door) (ctx : DoorContext) :
    let x := d.goTo .closing
    (ctx.occupied = false → (d.enterClosing ctx).returned = ⟨x, [.doorReturned], []⟩) ∧
      (ctx.occupied = true →
        (d.enterClosing ctx).returned = ⟨(x.obstruct ctx).door, .doorReturned :: (x.obstruct ctx).events, []⟩) := by
  refine ⟨fun h => ?_, fun h => ?_⟩
  · rw [enterClosing_clear h]; rfl
  · rw [enterClosing_occupied h, DoorOutcome.returned, obstruct_reports]

/-- Settles O35: a latch, the settled state and the command that waited, in the order of R72. -/
theorem returnDecisionFollowsItsTable : Obligations.ReturnDecisionFollowsItsTable := by
  intro d ctx st o emptied back evac closes
  refine ⟨fun ha hl => ?_, fun hl => ?_, fun hl ha => ?_⟩
  · exact Door.returnDecision_actuated ctx ha hl
  · have decided : o = (d.returnLatched ctx st).returned := Door.returnDecision_latched ctx st hl
    simp only [closes, decided, Door.returnLatched]
    refine ⟨fun hc hp => ?_, fun hc hp => ?_, fun hc => ?_⟩
    · rw [if_pos hc, if_pos hp]
      simp [Door.enterClosed, DoorOutcome.returned, Door.setSlot, Door.goTo, hl, evac, emptied]
    · rw [if_pos hc, if_neg hp]
      exact Door.enterClosing_returned d ctx
    · rw [if_neg hc]; rfl
  · refine ⟨fun h => ?_, fun h => ?_, fun h => ?_⟩
    · rw [show o = _ from Door.returnDecision_isolated ctx ha hl h, Door.takeSettled, h]; rfl
    · rw [show o = _ from Door.returnDecision_unlatched ctx ha hl (by simp [h]), if_pos h, Door.takeSettled, h]; rfl
    · have decided : o = (d.localEnded.returnByCommand ctx st).returned := by
        rw [show o = _ from Door.returnDecision_unlatched ctx ha hl (by rcases h with h | h | h <;> simp [h]),
          if_neg (by rcases h with h | h | h <;> simp [h])]
      refine ⟨fun hs hc => ?_, fun hs hc => ?_, fun hc hs => ?_, fun hc hs => ?_, fun hc hs => ?_, fun hc => ?_⟩
      · have entered : d.localEnded.returnByCommand ctx st = (d.localEnded.setSlot none).enterClosed := by
          rcases hc with hc | hc
          · rw [Door.returnByCommand_none hc, Door.setSlot_none (d := d.localEnded) hc, Door.takeSettled, hs]
          · rw [Door.returnByCommand_close hc, if_pos hs]
        rw [decided, entered, Door.enterClosed_unlatched (by exact hl)]
        rfl
      · rw [decided, Door.returnByCommand_none hc, Door.takeSettled]
        rcases h with h | h | h
        · exact absurd h hs
        · rw [h]; rfl
        · rw [h]; rfl
      · rw [decided, Door.returnByCommand_open hc, if_pos hs]; rfl
      · rw [decided, Door.returnByCommand_open hc, if_neg hs]; rfl
      · simp only [closes]
        rw [decided, Door.returnByCommand_close hc, if_neg hs]
        exact Door.enterClosing_returned d.localEnded ctx
      · rw [decided, Door.returnByCommand_halt hc]; rfl

end Sys2Proof.Machine
end

section
/-! PROOFS. O33: a good status taken in its steps, and its position mapped by the door's state (R51, R60 to R64, R67 to R69, R76). -/

namespace Sys2Proof.Machine

/-- A rule that follows a record left as it was. -/
theorem DoorOutcome.plain_andThen (d : Door) (g : Door → DoorOutcome) : (Door.plain d).andThen g = g d := by
  simp [andThen, Door.plain]

/-- A rule that makes nothing of what an outcome leaves. -/
theorem DoorOutcome.andThen_plain {o : DoorOutcome} {g : Door → DoorOutcome} (h : g o.door = Door.plain o.door) : o.andThen g = o := by
  simp [andThen, h, Door.plain]

theorem Status.settled_eq (st : Status) : st.settled =
    if st.localIsolation = true then .isolated
    else if st.driveFault = true ∨ st.position = .stoppedMid then .stalled
    else if st.position = .closedLocked then .closed
    else if st.position = .opened then .opened
    else .unknown := by
  unfold settled
  split
  · rfl
  by_cases hf : st.driveFault = true
  · simp [hf]
  · cases hp : st.position <;> simp [hf]

theorem Status.settled_cases (st : Status) :
    st.settled = .isolated ∨ st.settled = .stalled ∨ st.settled = .closed ∨ st.settled = .opened ∨ st.settled = .unknown := by
  rw [settled_eq]
  split
  · exact .inl rfl
  split
  · exact .inr (.inl rfl)
  split
  · exact .inr (.inr (.inl rfl))
  split
  · exact .inr (.inr (.inr (.inl rfl)))
  · exact .inr (.inr (.inr (.inr rfl)))

namespace Door

/-- What the mapping of a position makes of a door, row by row of R64's table. -/
inductive Mapped (d : Door) (ctx : DoorContext) (st : Status) : DoorOutcome → Prop
  | locks (hs : d.state = .unknown ∨ d.state = .closing ∨ d.state = .held ∨ d.state = .stalled) (hp : st.position = .closedLocked) :
    Mapped d ctx st d.enterClosed
  | isOpen (hs : d.state = .unknown) (hp : st.position = .opened) : Mapped d ctx st (plain (d.goTo .opened))
  | stops (hs : d.state = .unknown) (hp : st.position = .stoppedMid) : Mapped d ctx st (d.setSlot none).stall
  | leaves (hs : d.state = .closed) (hp : st.position ≠ .closedLocked) : Mapped d ctx st d.stall
  | opens (hs : d.state = .opening) (hp : st.position = .opened) :
    Mapped d ctx st (plain { d.goTo .opened with openCycles := ctx.bump d.openCycles })
  | dwells (hs : d.state = .recycling) (hp : st.position = .opened) (ht : d.timer.map (fun t => t.kind) ≠ some .recycleDwell) :
    Mapped d ctx st (plain { d with timer := some ⟨.recycleDwell, ctx.ms + ctx.recycleDwell⟩ })
  | keeps (hu : d.state = .unknown → st.position ≠ .closedLocked ∧ st.position ≠ .opened ∧ st.position ≠ .stoppedMid)
    (hc : d.state = .closed → st.position = .closedLocked)
    (hl : d.state = .closing ∨ d.state = .held ∨ d.state = .stalled → st.position ≠ .closedLocked)
    (ho : d.state = .opening → st.position ≠ .opened)
    (hr : d.state = .recycling → st.position = .opened → d.timer.map (fun t => t.kind) = some .recycleDwell) :
    Mapped d ctx st (plain d)

theorem mapPosition_mapped (d : Door) (ctx : DoorContext) (st : Status) : d.Mapped ctx st (d.mapPosition ctx st) := by
  unfold mapPosition
  split
  case h_1 hs hp => exact .locks (by simp [hs]) hp
  case h_2 hs hp => exact .isOpen hs hp
  case h_3 hs hp => exact .stops hs hp
  case h_4 hs hp => exact .keeps (by simp [hs]) (by simp [hp]) (by simp [hs]) (by simp [hs]) (by simp [hs])
  case h_5 hs hp => exact .leaves hs hp
  case h_6 hs hp => exact .opens hs hp
  case h_7 hs hp => exact .locks (by simp [hs]) hp
  case h_8 hs hp => exact .locks (by simp [hs]) hp
  case h_9 hs hp => exact .locks (by simp [hs]) hp
  case h_10 hs hp =>
    split
    next ht => exact .keeps (by simp [hs]) (by simp [hs]) (by simp [hs]) (by simp [hs]) fun _ _ => ht
    next ht => exact .dwells hs hp ht
  case h_11 =>
    exact .keeps (by simp_all) (by simp_all) (by rintro (hs | hs | hs) <;> simp_all) (by simp_all) (by simp_all)

theorem mapPosition_state (d : Door) (ctx : DoorContext) (st : Status) : (d.mapPosition ctx st).door.state =
    (match d.state, st.position with
      | .unknown, .closedLocked => .closed
      | .unknown, .opened => .opened
      | .unknown, .stoppedMid => .stalled
      | .closed, p => if p = .closedLocked then .closed else .stalled
      | .opening, .opened => .opened
      | .closing, .closedLocked => .closed
      | .held, .closedLocked => .closed
      | .stalled, .closedLocked => .closed
      | x, _ => x) := by
  generalize d.mapPosition ctx st = o, d.mapPosition_mapped ctx st = m at *
  cases m with
  | locks hs hp => rcases hs with hs | hs | hs | hs <;> rw [hs, hp] <;> rfl
  | isOpen hs hp => rw [hs, hp]; rfl
  | stops hs hp => rw [hs, hp]; rfl
  | leaves hs hp => rw [hs]; simp [hp]; rfl
  | opens hs hp => rw [hs, hp]; rfl
  | dwells hs hp => rw [hs, hp]; rfl
  | keeps hu hc hl ho hr =>
    split <;> simp_all [plain]

/-- The mapping of a position changes neither the enable nor the recycle count, the isolation or the last status (R64). -/
theorem mapPosition_keeps (d : Door) (ctx : DoorContext) (st : Status) :
    let e := (d.mapPosition ctx st).door
    e.enabled = d.enabled ∧ e.recycleCount = d.recycleCount ∧ e.isolation = d.isolation ∧ e.lastStatus = d.lastStatus := by
  generalize d.mapPosition ctx st = o, d.mapPosition_mapped ctx st = m at *
  cases m <;> exact ⟨rfl, rfl, rfl, rfl⟩

/-- A position that does not change the state changes nothing, but for the recycle dwell that an OPEN door in RECYCLING starts. -/
theorem mapPosition_same {d : Door} {ctx : DoorContext} {st : Status} (h : (d.mapPosition ctx st).door.state = d.state)
    (hr : ¬(d.state = .recycling ∧ st.position = .opened)) : d.mapPosition ctx st = plain d := by
  generalize d.mapPosition ctx st = o, d.mapPosition_mapped ctx st = m at *
  cases m with
  | locks hs hp => rcases hs with hs | hs | hs | hs <;> rw [hs] at h <;> nomatch h
  | isOpen hs hp => rw [hs] at h; nomatch h
  | stops hs hp => rw [hs] at h; nomatch h
  | leaves hs hp => rw [hs] at h; nomatch h
  | opens hs hp => rw [hs] at h; nomatch h
  | dwells hs hp => exact absurd ⟨hs, hp⟩ hr
  | keeps => rfl

/-- Every entry to STALLED raises DOOR_STALLED (R62, R64). -/
theorem mapPosition_stalls {d : Door} {ctx : DoorContext} {st : Status} (h : (d.mapPosition ctx st).door.state = .stalled)
    (hs : d.state ≠ .stalled) : .doorStalled ∈ (d.mapPosition ctx st).events := by
  generalize d.mapPosition ctx st = o, d.mapPosition_mapped ctx st = m at *
  cases m with
  | stops | leaves => exact List.mem_cons_self
  | locks | isOpen | opens => nomatch h
  | dwells | keeps => exact absurd h hs

/-- Every entry to CLOSED clears both marks and reports each that was set (R76). -/
theorem mapPosition_closes {d : Door} {ctx : DoorContext} {st : Status} (h : (d.mapPosition ctx st).door.state = .closed)
    (hs : d.state ≠ .closed) : d.mapPosition ctx st = d.enterClosed := by
  generalize d.mapPosition ctx st = o, d.mapPosition_mapped ctx st = m at *
  cases m with
  | locks => rfl
  | isOpen | stops | leaves | opens => nomatch h
  | dwells | keeps => exact absurd h hs

theorem mapPosition_openCycles (d : Door) (ctx : DoorContext) (st : Status) : (d.mapPosition ctx st).door.openCycles =
    if d.state = .opening ∧ st.position = .opened then ctx.bump d.openCycles else d.openCycles := by
  generalize d.mapPosition ctx st = o, d.mapPosition_mapped ctx st = m at *
  cases m with
  | locks hs hp => rw [if_neg fun h => by simp [hp] at h]; rfl
  | isOpen hs hp => rw [if_neg fun h => by simp [hs] at h]; rfl
  | stops hs hp => rw [if_neg fun h => by simp [hs] at h]; rfl
  | leaves hs hp => rw [if_neg fun h => by simp [hs] at h]; rfl
  | opens hs hp => rw [if_pos ⟨hs, hp⟩]; rfl
  | dwells hs hp => rw [if_neg fun h => by simp [hs] at h]; rfl
  | keeps hu hc hl ho hr => rw [if_neg fun h => ho h.1 h.2]; rfl

/-- The recycle dwell of an OPEN door in RECYCLING starts once (R64, R67). -/
theorem mapPosition_dwell {d : Door} {ctx : DoorContext} {st : Status} (hs : d.state = .recycling) (hp : st.position = .opened) :
    (d.mapPosition ctx st).door.timer =
      if d.timer.map (fun x => x.kind) = some .recycleDwell then d.timer else some ⟨.recycleDwell, ctx.ms + ctx.recycleDwell⟩ := by
  simp only [mapPosition, hs, hp]
  split <;> rfl

/-! ### A good status in its steps -/

/-- An acknowledgement starts the timeout of an OPEN or a CLOSE that its status does not report as ended (R49, R51). -/
theorem takeAck_eq (d : Door) (ctx : DoorContext) (cmd : DoorCommand) (pos : Position) :
    d.takeAck ctx cmd pos = { d with
      timer :=
        if cmd = .openCmd ∧ (d.state = .opening ∨ d.state = .recycling) ∧ pos ≠ .opened then
          some ⟨.openTimeout, ctx.ms + ctx.openTimeout⟩
        else if cmd = .closeCmd ∧ d.state = .closing ∧ pos ≠ .closedLocked then
          some ⟨.closeTimeout, ctx.ms + ctx.closeTimeout⟩
        else d.timer } := by
  unfold takeAck
  split
  next hs =>
    split
    next hp => rw [if_neg (by simp [hp]), if_neg (by simp)]
    next hp => rw [if_pos ⟨rfl, .inl hs, hp⟩]
  next hs =>
    split
    next hp => rw [if_neg (by simp [hp]), if_neg (by simp)]
    next hp => rw [if_pos ⟨rfl, .inr hs, hp⟩]
  next hs =>
    split
    next hp => rw [if_neg (by simp), if_neg (by simp [hp])]
    next hp => rw [if_neg (by simp), if_pos ⟨rfl, hs, hp⟩]
  next opening recycling closing =>
    rw [if_neg fun ⟨hc, hs, _⟩ => hs.elim (opening hc) (recycling hc), if_neg fun ⟨hc, hs, _⟩ => closing hc hs]

/-- The acknowledgement that a status carries, if it carries one (R51, R90). -/
theorem acknowledge_eq_acked (d : Door) (ctx : DoorContext) (st : Status) : d.acknowledge ctx st = d.acked ctx st := by
  cases hs : d.link.slot with
  | none => simp only [acknowledge, acked, hs]
  | some c =>
    simp only [acknowledge, acked, hs]
    split
    · rw [takeAck_eq]; rfl
    · rfl

/-- An acknowledgement concerns the slot and the timer alone. -/
theorem acked_keeps (d : Door) (ctx : DoorContext) (st : Status) :
    (d.acked ctx st).state = d.state ∧ (d.acked ctx st).isolation = d.isolation ∧ (d.acked ctx st).latched = d.latched ∧
      (d.acked ctx st).evacOpened = d.evacOpened := by
  unfold acked
  split
  · exact ⟨rfl, rfl, rfl, rfl⟩
  · split <;> exact ⟨rfl, rfl, rfl, rfl⟩

/-- A door in the settled state of a status without local isolation has nothing more to take from it (R62 to R64). -/
theorem mapStatus_settled {d : Door} {st : Status} (ctx : DoorContext) (hl : st.localIsolation = false) (h : d.state = st.settled) :
    d.mapStatus ctx st = plain d := by
  rw [Status.settled_eq, if_neg (by simp [hl])] at h
  unfold mapStatus
  split
  next hf => rw [if_pos (by rw [h, if_pos (.inl hf)])]
  next hf =>
    have mapped : d.mapPosition ctx st = plain d := by
      cases hp : st.position <;> simp [hf, hp] at h <;> simp [mapPosition, h, hp]
    have calm : d.state ≠ .closing := by
      cases hp : st.position <;> simp [hf, hp] at h <;> simp [h]
    rw [mapped, DoorOutcome.plain_andThen, if_neg (by simp [calm])]

/-- A good status of a door that is not LOST, up to its first parting of ways (R60 steps 1 to 3). -/
theorem takeStatus_lost {d : Door} (ctx : DoorContext) (st : Status) (returned : Bool) (h : d.state = .lost) :
    let q := ({ d with lastStatus := some st } : Door).returnDecision ctx st
    d.takeStatus ctx st returned = ⟨q.door.acked ctx st, q.events, q.reports⟩ := by
  unfold takeStatus
  dsimp only
  rw [if_pos h]
  simp [DoorOutcome.andThen, acknowledge_eq_acked, plain]

/-- The steps of a good status once it has been noted and its acknowledgement taken (R60 steps 4 to 9). -/
def takeNoted (x : Door) (ctx : DoorContext) (st : Status) : DoorOutcome :=
  if x.isolation = .lockedOut ∨ x.state = .released then plain x
  else if st.releaseActuated ∧ ¬x.latched then x.latch
  else (x.localRule st).andThen fun e => if e.isolation = .localSwitch then plain e else e.mapStatus ctx st

/-- A good status of a door that is not LOST: noted, acknowledged, and taken in its steps (R60). -/
theorem takeStatus_present {d : Door} (ctx : DoorContext) (st : Status) (returned : Bool) (h : d.state ≠ .lost) :
    let o := (({ d with lastStatus := some st } : Door).acked ctx st).takeNoted ctx st
    d.takeStatus ctx st returned = ⟨o.door, (if returned then [.doorReturned] else []) ++ o.events, o.reports⟩ := by
  unfold takeStatus takeNoted
  dsimp only
  rw [if_neg h, acknowledge_eq_acked]
  generalize ({ d with lastStatus := some st } : Door).acked ctx st = x
  split
  · simp [plain]
  split
  · rfl
  · simp only [DoorOutcome.andThen, List.append_assoc, List.nil_append]
    rfl

theorem takeNoted_ends {x : Door} {ctx : DoorContext} {st : Status} (h : x.isolation = .lockedOut ∨ x.state = .released) :
    x.takeNoted ctx st = plain x := if_pos h

theorem takeNoted_latches {x : Door} {ctx : DoorContext} {st : Status} (h : ¬(x.isolation = .lockedOut ∨ x.state = .released))
    (ha : st.releaseActuated = true) (hl : x.latched = false) : x.takeNoted ctx st = x.latch := by
  rw [takeNoted, if_neg h, if_pos ⟨ha, by simp [hl]⟩]

theorem takeNoted_local {x : Door} {ctx : DoorContext} {st : Status} (h : ¬(x.isolation = .lockedOut ∨ x.state = .released))
    (ha : st.releaseActuated = false ∨ x.latched = true) :
    x.takeNoted ctx st =
      (x.localRule st).andThen fun e => if e.isolation = .localSwitch then plain e else e.mapStatus ctx st := by
  rw [takeNoted, if_neg h, if_neg fun ⟨hr, hl⟩ => ha.elim (by simp [hr]) (by simp [hl])]

/-- A door under local isolation takes no more of a status (R61). -/
theorem localRule_isolates {x : Door} {st : Status} (hi : x.isolation = .none) (hl : x.latched = false)
    (hf : st.localIsolation = true) :
    x.localRule st = plain { (x.setSlot none).goTo .isolated with isolation := .localSwitch, recycleCount := 0 } := by
  rw [localRule, if_pos hf, if_pos ⟨hi, by simp [hl]⟩]

theorem localRule_stays {x : Door} {st : Status} (hi : x.isolation = .localSwitch) (hf : st.localIsolation = true) :
    x.localRule st = plain x := by rw [localRule, if_pos hf, if_neg (by simp [hi])]

theorem localRule_returns {x : Door} {st : Status} (hi : x.isolation = .localSwitch) (hf : st.localIsolation = false) :
    x.localRule st = ({ x with isolation := .none } : Door).takeSettled st := by
  rw [localRule, if_neg (by simp [hf]), if_pos hi]

theorem localRule_passes {x : Door} {st : Status} (hi : x.isolation = .none) (hf : st.localIsolation = false ∨ x.latched = true) :
    x.localRule st = plain x := by
  rw [localRule]
  split
  next h => rw [if_neg fun ⟨_, hl⟩ => hf.elim (by simp [h]) (by simp [hl])]
  · rw [if_neg (by simp [hi])]

/-- A status without local isolation gives a door its settled state and leaves its isolation (R63). -/
theorem takeSettled_door {x : Door} {st : Status} (hf : st.localIsolation = false) :
    (x.takeSettled st).door.state = st.settled ∧ (x.takeSettled st).door.isolation = x.isolation := by
  have present : st.settled ≠ .isolated := by simp [Status.settled_isolated_iff, hf]
  unfold takeSettled
  split
  next h => exact absurd h present
  next h => exact ⟨h.symm, rfl⟩
  next h => exact ⟨h.symm, rfl⟩
  next h => exact ⟨h.symm, rfl⟩
  next h1 h2 h3 h4 =>
    rcases st.settled_cases with h | h | h | h | h
    · exact (h1 h).elim
    · exact (h2 h).elim
    · exact (h3 h).elim
    · exact (h4 h).elim
    · exact ⟨h.symm, rfl⟩

/-- A door whose local isolation a status ends takes its settled state, and nothing more (R61). -/
theorem takeNoted_returns {x : Door} {ctx : DoorContext} {st : Status} (h : ¬(x.isolation = .lockedOut ∨ x.state = .released))
    (ha : st.releaseActuated = false ∨ x.latched = true) (hi : x.isolation = .localSwitch) (hf : st.localIsolation = false) :
    x.takeNoted ctx st = ({ x with isolation := .none } : Door).takeSettled st := by
  rw [takeNoted_local h ha, localRule_returns hi hf]
  obtain ⟨state, isolation⟩ := takeSettled_door (x := { x with isolation := .none }) hf
  exact DoorOutcome.andThen_plain ((if_neg (by simp [isolation])).trans (mapStatus_settled ctx hf state))

/-- A door without isolation that a status does not isolate is mapped by its drive fault or its position (R60 steps 7 to 9). -/
theorem takeNoted_maps {x : Door} {ctx : DoorContext} {st : Status} (h : ¬(x.isolation = .lockedOut ∨ x.state = .released))
    (ha : st.releaseActuated = false ∨ x.latched = true) (hi : x.isolation = .none)
    (hf : st.localIsolation = false ∨ x.latched = true) : x.takeNoted ctx st = x.mapStatus ctx st := by
  rw [takeNoted_local h ha, localRule_passes hi hf, DoorOutcome.plain_andThen, if_neg (by simp [hi])]

theorem mapStatus_position {x : Door} {ctx : DoorContext} {st : Status} (hf : st.driveFault = false) :
    x.mapStatus ctx st = (x.mapPosition ctx st).andThen fun e => if e.state = .closing ∧ st.obstruction then e.obstruct ctx else plain e := by
  rw [mapStatus, if_neg (by simp [hf])]

end Door

/-- Settles O33: the settled state, the mapping row by row, and a good status in its steps. -/
theorem statusIsMappedByTheDoorState : Obligations.StatusIsMappedByTheDoorState := by
  refine ⟨Status.settled_eq, fun d ctx st => ?_, fun d ctx st returned => ?_⟩
  · intro o
    obtain ⟨enabled, count, isolation, status⟩ := d.mapPosition_keeps ctx st
    refine ⟨d.mapPosition_state ctx st, Door.mapPosition_stalls, fun h hs => ?_, d.mapPosition_openCycles ctx st,
      Door.mapPosition_dwell, Door.mapPosition_same, enabled, count, isolation, status⟩
    rw [show o = d.enterClosed from Door.mapPosition_closes h hs]
    exact ⟨rfl, rfl, fun hl => by simp [Door.enterClosed, hl], fun he => by simp [Door.enterClosed, he]⟩
  · intro o first x emptied ends
    refine ⟨Door.takeStatus_lost ctx st returned, fun present => ?_⟩
    have taken : o = ⟨(x.takeNoted ctx st).door, first ++ (x.takeNoted ctx st).events, (x.takeNoted ctx st).reports⟩ :=
      Door.takeStatus_present ctx st returned present
    obtain ⟨state, isolation, latched, evac⟩ : x.state = d.state ∧ x.isolation = d.isolation ∧ x.latched = d.latched ∧
        x.evacOpened = d.evacOpened := Door.acked_keeps _ ctx st
    refine ⟨fun h => ?_, fun h ha hl => ?_, fun h ha => ⟨fun hi hl hf => ?_, fun hi hf => ?_, fun hi hf => ?_, fun hi hf => ?_⟩⟩
    · rw [taken, Door.takeNoted_ends (by rwa [state, isolation])]
      simp [Door.plain]
    · rw [taken, Door.takeNoted_latches (by rwa [state, isolation]) ha (by rwa [latched])]
      simp only [Door.latch, isolation, List.append_nil]
      rfl
    · have stopped : (x.takeNoted ctx st) = _ := Door.takeNoted_local (by rwa [state, isolation]) (by rwa [latched])
      rw [Door.localRule_isolates (by rwa [isolation]) (by rwa [latched]) hf, DoorOutcome.plain_andThen, if_pos rfl] at stopped
      rw [taken, stopped]
      simp only [Door.plain, List.append_nil]
      rfl
    · have stopped : (x.takeNoted ctx st) = _ := Door.takeNoted_local (by rwa [state, isolation]) (by rwa [latched])
      rw [Door.localRule_stays (by rwa [isolation]) hf, DoorOutcome.plain_andThen, if_pos (by rwa [isolation])] at stopped
      rw [taken, stopped]
      simp only [Door.plain, List.append_nil]
    · intro back
      have returns := Door.takeNoted_returns (ctx := ctx) (x := x) (by rwa [state, isolation]) (by rwa [latched]) (by rwa [isolation]) hf
      rw [taken, returns, Door.takeSettled]
      refine ⟨fun hs => ?_, fun hs => ?_, fun hs => ?_⟩
      · simp only [back, hs]
        rfl
      · simp only [back, hs, Door.enterClosed, latched, evac, List.append_nil]
        rfl
      · rcases hs with hs | hs <;> simp only [back, hs, Door.plain, List.append_nil] <;> rfl
    · have maps := Door.takeNoted_maps (ctx := ctx) (x := x) (by rwa [state, isolation]) (by rwa [latched]) (by rwa [isolation])
        (by rwa [latched])
      rw [taken, maps]
      refine ⟨fun hd hs => ?_, fun hd hs => ?_, fun hd => ?_⟩
      · rw [Door.mapStatus, if_pos hd, if_pos (by rwa [state])]
        simp only [Door.plain, List.append_nil]
      · rw [Door.mapStatus, if_pos hd, if_neg (by rwa [state])]
        rfl
      · intro m h
        rw [Door.mapStatus_position hd]
        refine ⟨fun hm => ?_, fun hm => ?_⟩
        · simp only [DoorOutcome.andThen, List.append_assoc]
          rw [if_pos hm]
        · rw [DoorOutcome.andThen_plain (if_neg hm)]

end Sys2Proof.Machine
end

section
/-! PROOFS. One event of one door as a change of `blocks`, and the requests that name a door (R53): rules that the door requests, the door
timers and the obstruction reports share. -/

namespace Sys2Proof.Machine

namespace State

/-! ### One event of one door -/

/-- The blocks after one event of one door: its record becomes the outcome's, and the release record takes the outcome's reports. -/
theorem applyDoor_blocks {s : State} {f : Face} {n : Nat} {d : Door} (hd : s.findDoor f n = some d)
    (g : DoorContext → Door → DoorOutcome) :
    (s.applyDoor f n g).blocks = s.blocks.modFace f fun b =>
      { b with
        doors := b.doors.map fun x => if x.number = n then (g (s.doorContext f n) d).door else x
        release := (inOrder (g (s.doorContext f n) d).reports).foldl (fun r x => releaseAfter r n x) b.release } := by
  rw [Sequenced.blocks_eq (applyDoor_sequenced s f n g) (applyDoor_doors s f n g d hd) (applyDoor_doors_ne s (Face.partner_ne f) n g)
    (applyDoor_release_ne s (Face.partner_ne f) n g), applyDoor_release s f n g d hd]
  exact Blocks.modFace_congr (by simp [FaceState.blocks])

/-- One event of one door that reports nothing. -/
theorem applyDoor_blocks_silent {s : State} {f : Face} {n : Nat} {d : Door} (hd : s.findDoor f n = some d)
    (g : DoorContext → Door → DoorOutcome) (hr : (g (s.doorContext f n) d).reports = []) :
    (s.applyDoor f n g).blocks = s.blocks.modFace f fun b =>
      { b with doors := b.doors.map fun x => if x.number = n then (g (s.doorContext f n) d).door else x } := by
  rw [applyDoor_blocks hd, hr]
  rfl

theorem mem_raiseAll (s : State) (f : Face) (l : List EventKind) : ∀ k ∈ l, k ∈ (s.raiseAll f l).lif.flags.get (.face f) := by
  unfold raiseAll
  induction l generalizing s with
  | nil => nofun
  | cons x rest ih =>
    intro k hk
    rcases List.mem_cons.1 hk with rfl | hk
    · exact (raiseAll_calm (s.raiseFace f k) f rest).flags _ _ (raise_flag s (.face f) k)
    · exact ih _ k hk

/-- The events of a door's outcome are raised for its face. -/
theorem applyDoor_events {s : State} {f : Face} {n : Nat} {d : Door} (hd : s.findDoor f n = some d)
    (g : DoorContext → Door → DoorOutcome) :
    ∀ k ∈ (g (s.doorContext f n) d).events, k ∈ (s.applyDoor f n g).lif.flags.get (.face f) := by
  intro k hk
  simp only [applyDoor, hd]
  exact (takeReports_calm _ f n _).flags _ _ (mem_raiseAll _ f _ k hk)

/-! ### Requests -/

@[simp] theorem handed_findDoor (s : State) (t : Micros) (rest : List Request) (f : Face) (n : Nat) :
    (s.handed t rest).findDoor f n = s.findDoor f n := by simp [findDoor]

@[simp] theorem handed_lif_replies (s : State) (t : Micros) (rest : List Request) : (s.handed t rest).lif.replies = s.lif.replies := by
  simp [handed]

@[simp] theorem handed_lif_intake (s : State) (t : Micros) (rest : List Request) : (s.handed t rest).lif.intake = rest := rfl

theorem withFace_of {s : State} {r : Request} {f : Face} (hf : r.face? = some f) (k : Face → State) : s.withFace r k = k f := by
  simp only [withFace, hf]

theorem withConfigured_of {s : State} {r : Request} {f : Face} (hf : r.face? = some f) (hc : s.configured f = true)
    (k : Face → State) : s.withConfigured r k = k f := by rw [withConfigured, withFace_of hf, if_pos hc]

theorem withNoFields_of {s : State} {r : Request} (hb : r.body = []) (k : State) : s.withNoFields r k = k := if_pos hb

theorem withDoor_of {s : State} {r : Request} {f : Face} {n : Byte} {d : Door} (hf : r.face? = some f) (hc : s.configured f = true)
    (hb : r.body = [n]) (hd : s.findDoor f n.toNat = some d) (k : Face → Door → State) : s.withDoor r k = k f d := by
  rw [withDoor, withConfigured_of hf hc, hb]
  simp only [parseByte, Option.bind_some, hd]

/-! ### The refusals that OPEN_FACE and REOPEN_DOOR share (R54, R56) -/

theorem openRefusal_evacuating {s : State} {f : Face} (h : (s.face f).release.state = .evacuating) :
    s.openRefusal f = some .evacuating := by simp only [openRefusal, h]

theorem openRefusal_restoring {s : State} {f : Face} (h : (s.face f).release.state = .restoring) :
    s.openRefusal f = some .badState := by simp only [openRefusal, h]

theorem openRefusal_held {s : State} {f : Face} (h : (s.face f).release.state = .normal ∨ (s.face f).release.state = .released)
    (hh : (s.face f).proof.holdClosed.nonempty = true) : s.openRefusal f = some .holdClosedActive := by
  rcases h with h | h <;> simp only [openRefusal, h] <;> exact if_pos hh

theorem openRefusal_none {s : State} {f : Face} (h : (s.face f).release.state = .normal ∨ (s.face f).release.state = .released)
    (hh : (s.face f).proof.holdClosed.nonempty = false) : s.openRefusal f = none := by
  rcases h with h | h <;> simp [openRefusal, h, hh]

end State

/-- What a request carried out and answered DONE comes to. -/
theorem done_of_takes {c : Instr} {s v : State} {t : Micros} {r : Request} {rest : List Request} {k : Option RequestKind}
    {g : Request → State → State} (hc : exec c s = .next (s.event t fun s => s.takeRequest k g)) (h : Takes s r rest k)
    (hg : g r (s.handed t rest) = v.done r) (q : Quiet (s.handed t rest) v) :
    ∃ u, exec c s = .next u ∧ Answered s u r rest .done [] ∧ u.blocks = v.blocks ∧
      ∀ c k, k ∈ v.lif.flags.get c → k ∈ u.lif.flags.get c :=
  ⟨_, (exec_of_takes hc h).trans (by rw [hg]), State.answered_done q, by simp, State.done_calm v r⟩

end Sys2Proof.Machine
end

section
/-! PROOFS. O24: REOPEN_DOOR and CLOSE_DOOR, and what an open or a close makes of a door (R50, R54 to R57, R68, R69, R83, R193). -/

namespace Sys2Proof.Machine

namespace State

/-- The rules that an accepted REOPEN_DOOR has passed (R56). -/
theorem reopenRefusal_none {s : State} {f : Face} {d : Door} (hb : (s.face f).berth.state = .dwelling) (he : d.enabled = true)
    (hr : (s.face f).release.state = .normal ∨ (s.face f).release.state = .released)
    (hh : (s.face f).proof.holdClosed.nonempty = false) (hs : d.state = .closing ∨ d.state = .held ∨ d.state = .stalled)
    (hl : d.latched = false) : s.reopenRefusal f d = none := by
  simp [reopenRefusal, hb, he, openRefusal_none hr hh, hs, hl]

end State

namespace Door

/-- A command placed: the slot's command displaced is counted, and the new one has four sends left and no number (R50, R83). -/
theorem place_eq (d : Door) (ctx : DoorContext) (cmd : DoorCommand) (u : Urgency) : d.place ctx cmd u = { d with
    superseded := if d.link.slot = none then d.superseded else if ctx.clearing = true then d.superseded else d.superseded + 1
    link := { d.link with slot := some ⟨cmd, u, none, 4⟩ } } := by
  unfold place
  cases h : d.link.slot <;> simp [setSlot, DoorContext.bump]

/-- A close leaves the recycle count at 0 (R55). -/
theorem startClose_eq (d : Door) (ctx : DoorContext) (u : Urgency) :
    d.startClose ctx u = ({ d.place ctx .closeCmd u with recycleCount := 0 } : Door).enterClosing ctx := by
  unfold startClose place
  split <;> rfl

end Door

/-- Settles O24: the two requests by one event of their door, and the open and the close by the command that they place. -/
theorem reopenAndCloseDoorActOnOneDoor : Obligations.ReopenAndCloseDoorActOnOneDoor := by
  refine ⟨fun s t r rest f n d hf hc hb hd => ?_, fun d ctx cmd urgency => ?_⟩
  · have found : (s.handed t rest).findDoor f n.toNat = some d := by simpa using hd
    have number : d.number = n.toNat := (State.findDoor_some hd).2
    refine ⟨fun takes hberth he hr hh hs hl => ?_, fun takes hr hs => ?_⟩
    · have allowed : (s.handed t rest).reopenRefusal f d = none :=
        State.reopenRefusal_none (by simpa using hberth) he (by simpa using hr) (by simpa using hh) hs hl
      have carried : (s.handed t rest).takeReopenDoor r = _ := State.withDoor_of hf (by simpa using hc) hb found _
      simp only [allowed] at carried
      obtain ⟨u, hu, answered, blocks, -⟩ := done_of_takes (c := .reopenDoor t) rfl takes carried (State.applyDoor_calm _ f _ _).toQuiet
      refine ⟨u, hu, answered, ?_⟩
      rw [blocks, number, State.applyDoor_blocks_silent found _ rfl]
      simp [Door.plain]
    · have carried : (s.handed t rest).takeCloseDoor r = _ := State.withDoor_of hf (by simpa using hc) hb found _
      rw [if_neg (by simpa using hr), if_pos hs] at carried
      obtain ⟨u, hu, answered, blocks, -⟩ := done_of_takes (c := .closeDoor t) rfl takes carried (State.applyDoor_calm _ f _ _).toQuiet
      refine ⟨u, hu, answered, ?_⟩
      rw [blocks, number, State.applyDoor_blocks_silent found _ (Door.startClose_reports _ _ _)]
      simp
  · intro counted placed
    have place (x : Door) (c : DoorCommand) (u : Urgency) : x.place ctx c u = placed x c u := Door.place_eq x ctx c u
    refine ⟨place d cmd urgency, by rw [Door.startOpen, place]; rfl, ?_⟩
    intro closing o
    have entered : ({ d.place ctx .closeCmd urgency with recycleCount := 0 } : Door).goTo .closing = closing := by rw [place]; rfl
    refine ⟨fun hz => ?_, fun hz => ⟨fun ⟨he, hm, hv⟩ => ?_, fun no => ?_⟩⟩
    · rw [show o = _ from Door.startClose_eq d ctx urgency, Door.enterClosing_clear hz, entered]
      rfl
    · rw [show o = _ from Door.startClose_eq d ctx urgency, Door.enterClosing_occupied hz, entered, Door.obstruct,
        if_pos ⟨he, hm, by simp [hv]⟩, place]
      rfl
    · rw [show o = _ from Door.startClose_eq d ctx urgency, Door.enterClosing_occupied hz, entered, Door.obstruct,
        if_neg fun ⟨he, hm, hv⟩ => no ⟨he, hm, by simpa using hv⟩, place]
      rfl

end Sys2Proof.Machine
end

section
/-! PROOFS. O36: the door timers (R49, R66, R67). -/

namespace Sys2Proof.Machine

theorem exec_openTimeoutExpiry {s : State} (h : s.running = true) (t : Micros) (f : Face) (n : Nat) :
    exec (.openTimeoutExpiry t f n) s = .next ((s.opened t).doorTimeout f n .openTimeout).arbitrate := by
  rw [← State.event_running h t fun s => s.doorTimeout f n .openTimeout]; rfl

theorem exec_closeTimeoutExpiry {s : State} (h : s.running = true) (t : Micros) (f : Face) (n : Nat) :
    exec (.closeTimeoutExpiry t f n) s = .next ((s.opened t).doorTimeout f n .closeTimeout).arbitrate := by
  rw [← State.event_running h t fun s => s.doorTimeout f n .closeTimeout]; rfl

theorem exec_recycleDwellExpiry {s : State} (h : s.running = true) (t : Micros) (f : Face) (n : Nat) :
    exec (.recycleDwellExpiry t f n) s = .next ((s.opened t).dwellLapse f n).arbitrate := by
  rw [← State.event_running h t fun s => s.dwellLapse f n]; rfl

namespace Door

/-- A timeout that is due stalls a door in the movement that it limits (R66). -/
theorem timeout_stalls {d : Door} {k : TimerKind}
    (h : k = .openTimeout ∧ (d.state = .opening ∨ d.state = .recycling) ∨ k = .closeTimeout ∧ d.state = .closing) :
    d.timeout k = ⟨{ d with state := .stalled, timer := none, link := { d.link with slot := none } }, [.doorStalled], []⟩ := by
  unfold timeout
  rcases h with ⟨rfl, hs | hs⟩ | ⟨rfl, hs⟩ <;> simp only [hs] <;> rfl

/-- A recycle dwell that is over gives the door its CLOSE with the recycle count kept (R67, R68). -/
theorem dwellOver_closes {d : Door} (ctx : DoorContext) (hs : d.state = .recycling) :
    let closing : Door := { d.place ctx .closeCmd .routine with state := .closing, timer := none }
    (d.dwellOver ctx).door = (if ctx.occupied then (closing.obstruct ctx).door else closing) ∧ (d.dwellOver ctx).reports = [] := by
  have entered : ({ d with timer := none } : Door).place ctx .closeCmd .routine =
      ({ d.place ctx .closeCmd .routine with timer := none } : Door) := by rw [place_eq, place_eq]
  intro closing
  unfold dwellOver
  dsimp only
  rw [if_pos hs, entered]
  refine ⟨?_, enterClosing_reports _ ctx⟩
  by_cases hz : ctx.occupied = true
  · rw [enterClosing_occupied hz, if_pos hz]; rfl
  · rw [enterClosing_clear (by simpa using hz), if_neg hz]; rfl

end Door

namespace State

theorem doorTimerDue_of {s : State} {f : Face} {n : Nat} {d : Door} {x : DoorTimer} (hd : s.findDoor f n = some d)
    (ht : d.timer = some x) (he : x.expiry ≤ s.ms) : s.doorTimerDue f n x.kind = true := by
  simp [doorTimerDue, hd, ht, he]

theorem raiseAll_active (s : State) (f g : Face) (l : List EventKind) :
    ((s.raiseAll f l).face g).proof.active = (s.face g).proof.active := by
  unfold raiseAll
  induction l generalizing s with
  | nil => rfl
  | cons k rest ih => exact (ih _).trans (raise_active s _ k g)

/-- DOOR_STALLED is active once the doors have been handed on with a stalled one among them (R156, R157). -/
theorem doorsHandOn_doorStalled {s : State} {f : Face} {d : Door} (hd : d ∈ (s.face f).doors) (hs : d.state = .stalled) :
    ((s.doorsHandOn f).face f).proof.active.doorStalled = true := by
  have counted : 0 < (s.face f).doors.countP fun d => d.state = .stalled := List.countP_pos_iff.2 ⟨d, hd, by simpa using hs⟩
  simp only [doorsHandOn, setActive_active, counted, decide_true]

/-- An event that leaves its door STALLED, and reports nothing, makes DOOR_STALLED active. -/
theorem applyDoor_doorStalled {s : State} {f : Face} {n : Nat} {d : Door} (hd : s.findDoor f n = some d)
    (g : DoorContext → Door → DoorOutcome) (hr : (g (s.doorContext f n) d).reports = [])
    (hs : (g (s.doorContext f n) d).door.state = .stalled) : ((s.applyDoor f n g).face f).proof.active.doorStalled = true := by
  simp only [applyDoor, hd, hr, List.filter_nil, takeReports, List.foldl_nil, raiseAll_active]
  obtain ⟨mem, number⟩ := findDoor_some hd
  have put : (g (s.doorContext f n) d).door ∈ ((s.putDoor f n (g (s.doorContext f n) d).door).face f).doors := by
    rw [putDoor_doors]
    exact List.mem_map.2 ⟨d, mem, if_pos number⟩
  exact doorsHandOn_doorStalled put hs

/-- A due timeout stalls its door, with its event and its condition (R66). -/
theorem doorTimeout_stalls {s : State} {t : Micros} {f : Face} {n : Nat} {d : Door} {x : DoorTimer} (hd : s.findDoor f n = some d)
    (ht : d.timer = some x) (he : x.expiry ≤ (s.advance t).ms)
    (hk : x.kind = .openTimeout ∧ (d.state = .opening ∨ d.state = .recycling) ∨ x.kind = .closeTimeout ∧ d.state = .closing) :
    let u := ((s.opened t).doorTimeout f n x.kind).arbitrate
    let stalled : Door := { d with state := .stalled, timer := none, link := { d.link with slot := none } }
    EventKind.doorStalled ∈ u.lif.flags.get (.face f) ∧ (u.face f).proof.active.doorStalled = true ∧
      u.lif.intake = s.lif.intake ∧ u.lif.replies = s.lif.replies ∧
      u.blocks = s.blocks.modFace f fun b => { b with doors := b.doors.map fun y => if y.number = n then stalled else y } := by
  intro u stalled
  have found : (s.opened t).findDoor f n = some d := by simpa using hd
  have due : (s.opened t).doorTimerDue f n x.kind = true := doorTimerDue_of found ht (by simpa [opened_ms, advance_ms] using he)
  have outcome : d.timeout x.kind = ⟨stalled, [.doorStalled], []⟩ := Door.timeout_stalls hk
  have applied : (s.opened t).doorTimeout f n x.kind = (s.opened t).applyDoor f n fun _ d => d.timeout x.kind := if_pos due
  have quiet : Quiet (s.advance t) u := by
    have timed := applied ▸ (applyDoor_calm (s.opened t) f n fun _ d => d.timeout x.kind).toQuiet
    exact ((opened_calm s t).toQuiet.trans timed).trans (arbitrate_calm _).toQuiet
  refine ⟨?_, ?_, quiet.intake, quiet.replies, ?_⟩
  · refine (arbitrate_calm _).flags _ _ ?_
    rw [applied]
    exact applyDoor_events found _ _ (by rw [outcome]; exact List.mem_cons_self)
  · rw [arbitrate_proof_active, applied]
    exact applyDoor_doorStalled found _ (by rw [outcome]) (by rw [outcome])
  · rw [arbitrate_blocks, applied, applyDoor_blocks_silent found _ (by rw [outcome]), outcome, opened_blocks]

end State

/-- Settles O36: the two timeouts by `doorTimeout_stalls`, the dwell by `dwellOver_closes`. -/
theorem doorTimersStallOrClose : Obligations.DoorTimersStallOrClose := by
  intro s t f n d x running hd ht he stalled
  refine ⟨fun hk hs => ?_, fun hk hs => ?_, fun hk hs => ?_⟩
  · have stalls := State.doorTimeout_stalls hd ht he (.inl ⟨hk, hs⟩)
    rw [hk] at stalls
    exact ⟨_, exec_openTimeoutExpiry running t f n, stalls⟩
  · have stalls := State.doorTimeout_stalls hd ht he (.inr ⟨hk, hs⟩)
    rw [hk] at stalls
    exact ⟨_, exec_closeTimeoutExpiry running t f n, stalls⟩
  · intro ctx closing
    have found : (s.opened t).findDoor f n = some d := by simpa using hd
    have due : (s.opened t).doorTimerDue f n .recycleDwell = true :=
      hk ▸ State.doorTimerDue_of found ht (by simpa [State.opened_ms, State.advance_ms] using he)
    have context : (s.opened t).doorContext f n = ctx := State.arbitrate_doorContext _ f n
    obtain ⟨door, reports⟩ := Door.dwellOver_closes ctx hs
    have applied : (s.opened t).dwellLapse f n = (s.opened t).applyDoor f n fun ctx d => d.dwellOver ctx := if_pos due
    have quiet := ((State.opened_calm s t).trans (State.applyDoor_calm (s.opened t) f n fun ctx d => d.dwellOver ctx)).trans
      (State.arbitrate_calm _)
    refine ⟨_, exec_recycleDwellExpiry running t f n, ?_⟩
    rw [applied]
    refine ⟨quiet.intake, quiet.replies, ?_⟩
    rw [State.arbitrate_blocks, State.applyDoor_blocks_silent found _ (by rw [context]; exact reports), context, door,
      State.opened_blocks]

end Sys2Proof.Machine
end

section
/-! PROOFS. O34: an obstruction recycles a door or holds it, and an obstruction report is taken once (R68, R69, R115). -/

namespace Sys2Proof.Machine

namespace Door

/-- A door that may recycle is opened URGENT, with its recycle count one up (R69). -/
theorem obstruct_recycles {d : Door} {ctx : DoorContext}
    (h : d.enabled = true ∧ d.recycleCount < ctx.maxRecycles ∧ ctx.evacuating = false) :
    d.obstruct ctx = plain { d.place ctx .openCmd .urgent with
      state := .recycling, timer := none, recycleCount := d.recycleCount + 1, recycles := ctx.bump d.recycles
      obstructions := ctx.bump d.obstructions } := by
  obtain ⟨enabled, count, calm⟩ := h
  simp only [obstruct, place_eq]
  rw [if_pos ⟨enabled, count, by simp [calm]⟩]
  rfl

/-- Any other door is halted URGENT and HELD, and DOOR_HELD is raised (R69). -/
theorem obstruct_holds {d : Door} {ctx : DoorContext}
    (h : ¬(d.enabled = true ∧ d.recycleCount < ctx.maxRecycles ∧ ctx.evacuating = false)) :
    d.obstruct ctx = ⟨{ d.place ctx .haltCmd .urgent with
      state := .held, timer := none, obstructions := ctx.bump d.obstructions }, [.doorHeld], []⟩ := by
  simp only [obstruct, place_eq]
  rw [if_neg fun ⟨enabled, count, calm⟩ => h ⟨enabled, count, by simpa using calm⟩]
  rfl

end Door

theorem exec_obstructionReport {s : State} (h : s.running = true) (t : Micros) (f : Face) (n : Nat) :
    exec (.obstructionReport t f n) s = .next ((s.opened t).takeObstruction f n).arbitrate := by
  rw [← State.event_running h t fun s => s.takeObstruction f n]; rfl

/-- Settles O34: the one test of R69 in its two outcomes, and the report taken from its place. -/
theorem obstructionRecyclesOrHolds : Obligations.ObstructionRecyclesOrHolds := by
  refine ⟨fun d ctx => ?_, fun s t f n d pre post x running reports hx hpre hd => ?_⟩
  · intro may o
    refine ⟨?_, fun h => ?_, fun h => ?_, fun h => Door.enterClosing_occupied h d, fun h => Door.enterClosing_clear h d⟩
    · by_cases h : may
      · rw [show o = _ from Door.obstruct_recycles h, Door.place_eq]
        exact ⟨rfl, rfl, rfl, rfl, rfl, rfl⟩
      · rw [show o = _ from Door.obstruct_holds h, Door.place_eq]
        exact ⟨rfl, rfl, rfl, rfl, rfl, rfl⟩
    · rw [show o = _ from Door.obstruct_recycles h, Door.place_eq]
      exact ⟨rfl, rfl, rfl, rfl, rfl⟩
    · rw [show o = _ from Door.obstruct_holds h, Door.place_eq]
      exact ⟨rfl, rfl, rfl, rfl, rfl⟩
  · let taken := (s.opened t).modReports f fun l => l.eraseP fun r => r.door = n
    let rule : DoorContext → Door → DoorOutcome := fun ctx d => if d.state = .closing then d.obstruct ctx else Door.plain d
    have found : taken.findDoor f n = some d := by simpa [taken, State.findDoor] using hd
    have waits : ((s.opened t).face f).reports.any (fun r => r.door = n) = true := by simp [reports, hx]
    have applied : (s.opened t).takeObstruction f n = taken.applyDoor f n rule := if_pos waits
    have rest : (s.face f).reports.eraseP (fun r => r.door = n) = pre ++ post := by
      rw [reports, List.eraseP_append_right _ (by simpa using hpre), List.eraseP_cons_of_pos (by simpa using hx)]
    have calm : Calm (s.advance t) taken := (State.opened_calm s t).trans (.of_eq rfl rfl fun _ => by simp [taken])
    have context : taken.doorContext f n = (s.advance t).doorContext f n :=
      State.doorContext_eq f n calm.toQuiet (by simp [taken]) (by simp [taken]) (by simp [taken])
    have quiet := (calm.trans (State.applyDoor_calm taken f n rule)).trans (State.arbitrate_calm _)
    refine ⟨_, exec_obstructionReport running t f n, ?_⟩
    rw [applied]
    refine ⟨quiet.intake, quiet.replies, ?_⟩
    have silent (ctx : DoorContext) : (rule ctx d).reports = [] := by
      simp only [rule]
      split
      · exact Door.obstruct_reports d ctx
      · rfl
    rw [State.arbitrate_blocks, State.applyDoor_blocks_silent found _ (silent _), context, State.modReports_blocks, State.opened_blocks,
      Blocks.modFace_modFace]
    refine Blocks.modFace_congr ?_
    have door : (rule ((s.advance t).doorContext f n) d).door =
        if d.state = .closing then (d.obstruct ((s.advance t).doorContext f n)).door else d := apply_ite DoorOutcome.door _ _ _
    simp only [State.blocks_get, door]
    simp only [FaceState.blocks, rest]

end Sys2Proof.Machine
end

section
/-! PROOFS. O22: CLOSE_FACE without a deferral (R55, R126). -/

namespace Sys2Proof.Machine

theorem mem_indexed {α : Type} {l : List α} {p : Nat × α} : p ∈ indexed l ↔ l[p.1]? = some p.2 := by
  simp only [indexed, List.mem_map, Prod.exists]
  constructor
  · rintro ⟨a, i, h, rfl⟩
    exact List.mem_zipIdx_iff_getElem?.1 h
  · exact fun h => ⟨p.2, p.1, List.mem_zipIdx_iff_getElem?.2 h, rfl⟩

/-- No entry of a face is used where none of its entries matches unit 1 (R122, R126). -/
theorem matchingHold_none {holds : Vector (Option HoldEntry) 8} {f : Face} {x : Word32}
    (h : ∀ i : Fin 8, ∀ e, holds[i] = some e → e.face = f → x &&& e.mask ≠ e.key &&& e.mask) : matchingHold holds f x = none := by
  refine List.find?_eq_none.2 fun p hp => ?_
  obtain ⟨⟨i, o⟩, hm, he⟩ := List.mem_filterMap.1 hp
  obtain ⟨e, rfl, rfl⟩ := Option.map_eq_some_iff.1 he
  obtain ⟨hi, held⟩ := List.getElem?_eq_some_iff.1 (mem_indexed.1 hm)
  have bound : i < 8 := by simpa using hi
  have differs := h ⟨i, bound⟩ e (by simpa using held)
  simpa [HoldEntry.hits] using differs

theorem Door.closable_iff (d : Door) : d.closable = true ↔
    (d.state = .opening ∨ d.state = .opened ∨ d.state = .recycling) ∧ d.latched = false ∧ d.isolation = .none := by
  simp only [closable, Bool.and_eq_true, Bool.or_eq_true, Bool.not_eq_true', decide_eq_true_eq, and_assoc, or_assoc]

@[simp] theorem State.handed_holds (s : State) (t : Micros) (rest : List Request) : (s.handed t rest).holds = s.holds :=
  congrArg Blocks.holds (State.handed_blocks s t rest)

/-- Settles O22: the deferral's answer, and the closes of `closeFaceNow_blocks`. -/
theorem closeFaceClosesTheDoors : Obligations.CloseFaceClosesTheDoors := by
  intro s t r rest f ordered takes hf hb hc hr
  have carried : (s.handed t rest).takeCloseFace r = _ :=
    (State.withConfigured_of hf (by simpa using hc) _).trans (State.withNoFields_of hb _)
  rw [if_neg (by simpa using hr)] at carried
  refine ⟨fun used => ?_, fun unused free => ?_⟩
  · rw [if_pos (by simpa [Option.isSome_iff_ne_none] using used)] at carried
    exact answers_of_takes rfl takes carried
  · have noHold : (s.handed t rest).closeFaceHold f = none := by
      simp only [State.closeFaceHold, State.firstUnit, State.handed_berth, State.handed_holds]
      split
      next dwelling =>
        refine Option.bind_eq_none_iff.2 fun x hx => matchingHold_none (free dwelling x hx)
      · rfl
    rw [if_neg (by simp [unused]), noHold] at carried
    obtain ⟨u, hu, answered, blocks, -⟩ := done_of_takes (c := .closeFace t) rfl takes carried (State.applyDoors_calm _ f _ _).toQuiet
    have distinct := (State.DistinctDoors.of_ordered ordered f).of_doors (State.handed_doors s t rest f)
    refine ⟨u, hu, answered, ?_⟩
    rw [blocks, State.closeFaceNow_blocks _ f distinct, State.handed_blocks]
    simp only [Door.closable_iff, State.handed_doorContext]

end Sys2Proof.Machine
end

section
/-! PROOFS. O20: the tests of the door requests in their order, each a refusal that changes nothing else (R53 to R57, R59, R96, R123, R124,
R138, R142, R182). -/

namespace Sys2Proof.Machine

/-- A meaning that refuses its request gives the command's refusal. -/
theorem refuses_of_takes {c : Instr} {s : State} {r : Request} {rest : List Request} {k : Option RequestKind}
    {g : Request → State → State} {reason : Reason} (hc : exec c s = .next (s.event c.time fun s => s.takeRequest k g))
    (h : Takes s r rest k) (hg : g r (s.handed c.time rest) = (s.handed c.time rest).refuse r reason) : Refuses c s r rest reason :=
  answers_of_takes hc h hg

namespace State

theorem withFace_none {s : State} {r : Request} (hf : r.face? = none) (k : Face → State) : s.withFace r k = s.refuse r .badArgument := by
  simp only [withFace, hf]

theorem withConfigured_unconfigured {s : State} {r : Request} {f : Face} (hf : r.face? = some f) (hc : s.configured f = false)
    (k : Face → State) : s.withConfigured r k = s.refuse r .notConfigured := by
  rw [withConfigured, withFace_of hf, if_neg (by simp [hc])]

/-- A request that names no door of its face's table (R53). -/
theorem withDoor_absent {s : State} {r : Request} {f : Face} (hf : r.face? = some f) (hc : s.configured f = true)
    (h : ∀ b, r.body = [b] → ∀ d ∈ (s.face f).doors, d.number ≠ b.toNat) (k : Face → Door → State) :
    s.withDoor r k = s.refuse r .badArgument := by
  have missing : (parseByte r.body).bind (fun n => s.findDoor f n) = none := by
    unfold parseByte
    split
    next b hb => exact List.find?_eq_none.2 fun d hd => by simpa using h b hb d hd
    · rfl
  rw [withDoor, withConfigured_of hf hc]
  simp only [missing]

/-- The tests that REOPEN_DOOR makes of an enabled door at a DWELLING berth (R56). -/
theorem reopenRefusal_shared {s : State} {f : Face} {d : Door} {x : Reason} (hs : (s.face f).berth.state = .dwelling)
    (he : d.enabled = true) (h : s.openRefusal f = some x) : s.reopenRefusal f d = some x := by
  rw [reopenRefusal, if_neg (by simpa using hs), if_neg (by simp [he])]
  simp only [h]

theorem reopenRefusal_door {s : State} {f : Face} {d : Door} (hs : (s.face f).berth.state = .dwelling) (he : d.enabled = true)
    (h : s.openRefusal f = none) (hd : (d.state ≠ .closing ∧ d.state ≠ .held ∧ d.state ≠ .stalled) ∨ d.latched = true) :
    s.reopenRefusal f d = some .badState := by
  rw [reopenRefusal, if_neg (by simpa using hs), if_neg (by simp [he])]
  simp only [h]
  exact if_neg fun ⟨moves, free⟩ => hd.elim (fun ⟨h1, h2, h3⟩ => moves.elim h1 (·.elim h2 h3)) free

theorem takeOpenFace_refused {s : State} {r : Request} {f : Face} {x : Reason} (hf : r.face? = some f) (hc : s.configured f = true)
    (hb : r.body = []) (h : s.openFaceRefusal f = some x) : s.takeOpenFace r = s.refuse r x := by
  rw [takeOpenFace, withConfigured_of hf hc, withNoFields_of hb]
  simp only [h]

theorem takeReopenDoor_refused {s : State} {r : Request} {f : Face} {n : Byte} {d : Door} {x : Reason} (hf : r.face? = some f)
    (hc : s.configured f = true) (hb : r.body = [n]) (hd : s.findDoor f n.toNat = some d) (h : s.reopenRefusal f d = some x) :
    s.takeReopenDoor r = s.refuse r x := by
  rw [takeReopenDoor, withDoor_of hf hc hb hd]
  simp only [h]

end State

section

variable {c : Instr} {s : State} {r : Request} {rest : List Request} {k : Option RequestKind} {g : Request → State → State}

/-- A request that needs a configured face tests that first (R53). -/
theorem refuses_unconfigured {K : Request → State → Face → State} (hc : exec c s = .next (s.event c.time fun s => s.takeRequest k g))
    (hg : ∀ r s, g r s = s.withConfigured r (K r s)) (h : Takes s r rest k) :
    (r.face? = none → Refuses c s r rest .badArgument) ∧
      ∀ f, r.face? = some f → s.configured f = false → Refuses c s r rest .notConfigured :=
  ⟨fun hf => refuses_of_takes hc h ((hg _ _).trans (State.withFace_none hf _)),
    fun _ hf hu => refuses_of_takes hc h ((hg _ _).trans (State.withConfigured_unconfigured hf (by simpa using hu) _))⟩

/-- A request that needs a door tests that next (R53). -/
theorem refuses_doorless {K : Request → State → Face → Door → State} (hc : exec c s = .next (s.event c.time fun s => s.takeRequest k g))
    (hg : ∀ r s, g r s = s.withDoor r (K r s)) (h : Takes s r rest k) :
    ∀ f, r.face? = some f → s.configured f = true → (∀ b, r.body = [b] → ∀ d ∈ (s.face f).doors, d.number ≠ b.toNat) →
      Refuses c s r rest .badArgument :=
  fun _ hf hu hn => refuses_of_takes hc h ((hg _ _).trans (State.withDoor_absent hf (by simpa using hu) (by simpa using hn) _))

theorem refuses_faceless {K : Request → State → Face → State} (hc : exec c s = .next (s.event c.time fun s => s.takeRequest k g))
    (hg : ∀ r s, g r s = s.withFace r (K r s)) (h : Takes s r rest k) (hf : r.face? = none) : Refuses c s r rest .badArgument :=
  refuses_of_takes hc h ((hg _ _).trans (State.withFace_none hf _))

end

/-- Settles O20: the shared tests first, and then each request's own in their order. -/
theorem doorRequestsTestInOrder : Obligations.DoorRequestsTestInOrder := by
  refine ⟨fun s t r rest => ⟨?_, ?_⟩, fun s t r rest => ?_, fun s t r rest f hf hc => ?_⟩
  · simp only [List.forall_mem_cons]
    exact ⟨refuses_unconfigured rfl fun _ _ => rfl, refuses_unconfigured rfl fun _ _ => rfl, refuses_unconfigured rfl fun _ _ => rfl,
      refuses_unconfigured rfl fun _ _ => rfl, refuses_unconfigured rfl fun _ _ => rfl, refuses_unconfigured rfl fun _ _ => rfl,
      refuses_unconfigured rfl fun _ _ => rfl, refuses_unconfigured rfl fun _ _ => rfl, refuses_unconfigured rfl fun _ _ => rfl, nofun⟩
  · simp only [List.forall_mem_cons]
    exact ⟨refuses_doorless rfl fun _ _ => rfl, refuses_doorless rfl fun _ _ => rfl, refuses_doorless rfl fun _ _ => rfl,
      refuses_doorless rfl fun _ _ => rfl, refuses_doorless rfl fun _ _ => rfl, nofun⟩
  · simp only [List.forall_mem_cons]
    exact ⟨refuses_faceless rfl fun _ _ => rfl, refuses_faceless rfl fun _ _ => rfl, refuses_faceless rfl fun _ _ => rfl, nofun⟩
  · have hc' : (s.handed t rest).configured f = true := by simpa using hc
    refine ⟨fun takes hb => ?_, fun takes hb hr => ?_, fun n d hb hd => ⟨fun takes => ?_, fun takes => ?_, fun takes hi => ?_⟩⟩
    · intro b
      have refused {x : Reason} (h : (s.handed t rest).openFaceRefusal f = some x) : Refuses (.openFace t) s r rest x :=
        refuses_of_takes (c := .openFace t) rfl takes (State.takeOpenFace_refused hf hc' hb h)
      have shared (hs : b.state = .stopped ∨ b.state = .dwelling) (he : b.enable ≠ []) :
          (s.handed t rest).openFaceRefusal f = (s.handed t rest).openRefusal f := by
        rw [State.openFaceRefusal, State.handed_berth, if_neg fun ⟨h1, h2⟩ => hs.elim h1 h2, if_neg he]
      refine ⟨fun hs => refused ?_, fun hs => ⟨fun he => refused ?_, fun he => ⟨fun hr => refused ?_, fun hr => refused ?_,
        fun hr hh => refused ?_⟩⟩⟩
      · rw [State.openFaceRefusal, State.handed_berth, if_pos hs]
      · rw [State.openFaceRefusal, State.handed_berth, if_neg fun ⟨h1, h2⟩ => hs.elim h1 h2, if_pos he]
      · rw [shared hs he, State.openRefusal_evacuating (by simpa using hr)]
      · rw [shared hs he, State.openRefusal_restoring (by simpa using hr)]
      · rw [shared hs he, State.openRefusal_held (by simpa using hr) (by simpa using hh)]
    · refine refuses_of_takes (c := .closeFace t) rfl takes ((State.withConfigured_of hf hc' _).trans ((State.withNoFields_of hb _).trans ?_))
      exact if_pos (by simpa using hr)
    · have refused {x : Reason} (h : (s.handed t rest).reopenRefusal f d = some x) : Refuses (.reopenDoor t) s r rest x :=
        refuses_of_takes (c := .reopenDoor t) rfl takes (State.takeReopenDoor_refused hf hc' hb (by simpa using hd) h)
      refine ⟨fun hs => refused ?_, fun hs => ⟨fun he => refused ?_, fun he => ?_⟩⟩
      · rw [State.reopenRefusal, State.handed_berth, if_pos hs]
      · rw [State.reopenRefusal, State.handed_berth, if_neg (by simpa using hs), if_pos (by simp [he])]
      · have dwelling : ((s.handed t rest).face f).berth.state = .dwelling := by simpa using hs
        refine ⟨fun hr => refused ?_, fun hr => refused ?_, fun hr => ⟨fun hh => refused ?_, fun hh hd => refused ?_⟩⟩
        · exact State.reopenRefusal_shared dwelling he (State.openRefusal_evacuating (by simpa using hr))
        · exact State.reopenRefusal_shared dwelling he (State.openRefusal_restoring (by simpa using hr))
        · exact State.reopenRefusal_shared dwelling he (State.openRefusal_held (by simpa using hr) (by simpa using hh))
        · exact State.reopenRefusal_door dwelling he (State.openRefusal_none (by simpa using hr) (by simpa using hh)) hd
    · have found := State.withDoor_of (s := s.handed t rest) hf hc' hb (by simpa using hd)
      refine ⟨fun hr => refuses_of_takes (c := .closeDoor t) rfl takes ((found _).trans ?_),
        fun hr h1 h2 h3 => refuses_of_takes (c := .closeDoor t) rfl takes ((found _).trans ?_)⟩
      · exact if_pos (by simpa using hr)
      · exact (if_neg (by simpa using hr)).trans (if_neg fun h => h.elim h1 (·.elim h2 h3))
    · have found := State.withDoor_of (s := s.handed t rest) hf hc' hb (by simpa using hd)
      exact refuses_of_takes (c := .returnDoor t) rfl takes ((found _).trans (if_neg hi))

end Sys2Proof.Machine
end

section
/-! PROOFS. O31: an accepted RESTORE (R75, R142, R145, R177). -/

namespace Sys2Proof.Machine

namespace State

/-! ### The return to NORMAL (R133, R145, R146) -/

/-- A face in NORMAL again, RESTORED raised, before its test for adoption. -/
def normal (s : State) (f : Face) : State := (s.setRelease f .normal).raiseFace f .restored

theorem normal_blocks (s : State) (f : Face) :
    (s.normal f).blocks = s.blocks.modFace f fun b => { b with release := { b.release with state := .normal } } := by
  rw [normal, raiseFace_blocks, setRelease_blocks]

theorem normal_calm (s : State) (f : Face) : Calm s (s.normal f) := (setRelease_calm s f _).trans (raiseFace_calm _ f _)

theorem normal_flag (s : State) (f : Face) : .restored ∈ (s.normal f).lif.flags.get (.face f) := raise_flag _ (.face f) .restored

/-- Without a staged bank nothing is adopted (R177). -/
theorem testAdoption_unstaged {s : State} (f : Face) (h : s.tbs.staged = none) : s.testAdoption f = s :=
  testAdoption_none fun b hb => by simp [h] at hb

/-! ### RESTORE -/

/-- The record of an accepted RESTORE: the latch cleared, the quoted sequence kept with its time (R145). -/
def restoreNoted (s : State) (f : Face) (seq : Byte) : State :=
  s.modRelease f fun x => { x with latch := false, lastRestore := some (seq, s.ms) }

/-- Each test of RESTORE passed (R142). -/
theorem takeRestore_accepted {s : State} {r : Request} {f : Face} {seq inverse : Byte} (hf : r.face? = some f)
    (hb : r.body = [seq, inverse]) (hc : s.configured f = true)
    (hr : (s.face f).release.state = .released ∨ (s.face f).release.state = .evacuating) (hs : seq = (s.face f).release.seq)
    (hi : inverse.toNat = 255 - seq.toNat) (hl : (s.face f).release.input = .deasserted)
    (hh : ∀ m ∈ (s.face f).release.set, m.latched = true → ∀ d st, s.findDoor f m.door = some d → d.lastStatus = some st →
      st.releaseActuated = false) : s.takeRestore r = (s.acceptRestore f seq).done r := by
  have complement : inverse = 255 - seq := by bv_omega
  have free : s.releaseHeld f = false := by
    refine List.any_eq_false.2 fun m hm held => ?_
    simp only [Bool.and_eq_true, Option.any_eq_true] at held
    obtain ⟨latched, st, hst, actuated⟩ := held
    obtain ⟨d, hd, hst⟩ := Option.bind_eq_some_iff.1 hst
    simp [hh m hm latched d st hd hst] at actuated
  rw [takeRestore, withFace_of hf, hb]
  simp only [parseRestore]
  rw [if_neg (by simp [hc]), if_neg fun ⟨h1, h2⟩ => hr.elim h1 h2, if_neg fun h => h.elim (· complement) (· hs),
    if_neg (by simp [hl]), if_neg (by simp [free])]

theorem acceptRestore_normal {s : State} {f : Face} {seq : Byte} (h : (s.face f).release.set = []) :
    s.acceptRestore f seq = ((s.restoreNoted f seq).normal f).testAdoption f := if_pos (by simpa using h)

theorem acceptRestore_restoring {s : State} {f : Face} {seq : Byte} (h : (s.face f).release.set ≠ []) :
    s.acceptRestore f seq = ((s.restoreNoted f seq).setRelease f .restoring).restoreClose f := if_neg (by simpa using h)

/-- The context of a door's rules once the face is in a release state (R69, R133). -/
theorem setRelease_doorContext (s : State) (f : Face) (st : ReleaseState) (n : Nat) :
    (s.setRelease f st).doorContext f n = { s.doorContext f n with evacuating := Decidable.decide (st = .evacuating) } := by
  simp [doorContext, setRelease_release]

theorem setRelease_restoreClose_blocks (s : State) (f : Face) (hn : DistinctDoors (s.face f)) :
    ((s.setRelease f .restoring).restoreClose f).blocks = s.blocks.modFace f fun b =>
      { b with
        release := { b.release with state := .restoring }
        doors := b.doors.map fun d =>
          if d.restorable then (d.restoreClose { s.doorContext f d.number with evacuating := false }).door else d } := by
  rw [restoreClose, applyDoors_blocks_silent _ f _ _ (fun c d => (d.restoreClose_keepsEnable c).number)
    (fun c d => d.restoreClose_reports c) (hn.of_doors (setRelease_doors s f f _)), setRelease_blocks, Blocks.modFace_modFace]
  simp only [setRelease_doorContext]
  rfl

end State

theorem Door.restorable_iff (d : Door) : d.restorable = true ↔
    (d.latched = true ∨ d.evacOpened = true ∧ d.state ≠ .closed) ∧
      (d.state = .released ∨ d.state = .opening ∨ d.state = .opened ∨ d.state = .recycling ∨ d.state = .held ∨ d.state = .stalled ∨
        d.state = .unknown ∨ d.state = .lost) := by
  simp only [restorable, Bool.and_eq_true, Bool.or_eq_true, decide_eq_true_eq, or_assoc]

/-- Settles O31: the return to NORMAL with what follows it, and the restore close on each released door. -/
theorem restoreClosesTheReleasedDoors : Obligations.RestoreClosesTheReleasedDoors := by
  refine ⟨fun s t r rest f seq inverse ordered takes hf hb hc hr hs hi hl hh => ?_,
    fun d ctx => ⟨d.restorable_iff, fun h => if_pos h, fun h => if_neg h⟩⟩
  obtain ⟨a, ha⟩ : ∃ a, s.handed t rest = a := ⟨_, rfl⟩
  have accepted : a.takeRestore r = (a.acceptRestore f seq).done r := by
    subst ha
    exact State.takeRestore_accepted hf hb (by simpa using hc) (by simpa using hr) (by simpa using hs) hi (by simpa using hl)
      (by simpa using hh)
  have noted : Calm a (a.restoreNoted f seq) := State.modRelease_calm a f _
  have blocks : (a.restoreNoted f seq).blocks = s.blocks.modFace f fun b =>
      { b with release := { b.release with latch := false, lastRestore := some (seq, (s.advance t).ms) } } := by
    rw [State.restoreNoted, State.modRelease_blocks, ← ha, State.handed_blocks, State.handed_ms]
  have set : (a.face f).release.set = (s.face f).release.set := by simp [← ha]
  have normal : ((a.restoreNoted f seq).normal f).blocks = s.blocks.modFace f fun b =>
      { b with release := { b.release with state := .normal, latch := false, lastRestore := some (seq, (s.advance t).ms) } } := by
    rw [State.normal_blocks, blocks, Blocks.modFace_modFace]
  have quiet := (noted.trans (State.normal_calm _ f)).toQuiet
  refine ⟨fun empty => ⟨(a.restoreNoted f seq).normal f, ?_, ?_, ?_, State.normal_flag _ f, normal⟩, fun free => ?_⟩
  · rw [exec_of_takes (c := .restore t) rfl takes, ha, accepted, State.acceptRestore_normal (set.trans empty)]
    rfl
  · rw [quiet.intake, ← ha, State.handed_lif_intake]
  · rw [quiet.replies, ← ha, State.handed_lif_replies]
  · by_cases empty : (s.face f).release.set = []
    · have unstaged : ((a.restoreNoted f seq).normal f).tbs.staged = none :=
        (congrArg (fun b : Blocks => b.tbs.staged) normal).trans (free.resolve_right fun h => h empty)
      rw [State.acceptRestore_normal (set.trans empty), State.testAdoption_unstaged f unstaged] at accepted
      obtain ⟨u, hu, answered, same, flags⟩ := done_of_takes (c := .restore t) (v := (a.restoreNoted f seq).normal f) rfl takes
        (by rw [ha]; exact accepted) (by rw [ha]; exact quiet)
      exact ⟨u, hu, answered, fun _ => ⟨flags _ _ (State.normal_flag _ f), same.trans normal⟩, fun h => absurd empty h⟩
    · rw [State.acceptRestore_restoring (by rwa [set])] at accepted
      have calm : Calm a (((a.restoreNoted f seq).setRelease f .restoring).restoreClose f) :=
        (noted.trans (State.setRelease_calm _ f .restoring)).trans (State.applyDoors_calm _ f _ _)
      obtain ⟨u, hu, answered, same, -⟩ := done_of_takes (c := .restore t) rfl takes (by rw [ha]; exact accepted)
        (by rw [ha]; exact calm.toQuiet)
      refine ⟨u, hu, answered, fun h => absurd h empty, fun _ => same.trans ?_⟩
      have distinct := (State.DistinctDoors.of_ordered ordered f).of_doors (y := (a.restoreNoted f seq).face f)
        (by simp [State.restoreNoted, ← ha])
      have context (n : Nat) : (a.restoreNoted f seq).doorContext f n = (s.advance t).doorContext f n :=
        (State.doorContext_eq f n noted.toQuiet rfl rfl (by simp [State.restoreNoted])).trans (by simp [← ha])
      rw [State.setRelease_restoreClose_blocks _ f distinct, blocks, Blocks.modFace_modFace]
      simp only [context]

end Sys2Proof.Machine
end

section
/-! PROOFS. O25: ISOLATE_DOOR and RETURN_DOOR, and an event whose cleared marks complete a restore (R58, R59, R63, R146, R177). -/

namespace Sys2Proof.Machine

/-! ### The marks that an event clears (R132, R146) -/

/-- Both marks of a door cleared one after the other. -/
theorem clearMark_clearMark (n : Nat) (l : List ReleaseMember) :
    clearMark n false true (clearMark n true false l) = clearMark n true true l := by
  unfold clearMark
  induction l with
  | nil => rfl
  | cons m rest ih =>
    by_cases hn : m.door = n
    · by_cases he : m.evacOpened = true <;> simp_all
    · by_cases hk : m.latched || m.evacOpened <;> simp_all

/-- The reports of the marks that a door loses. -/
def Door.clearings (d : Door) : List DoorReport :=
  (if d.latched then [DoorReport.latchCleared] else []) ++ (if d.evacOpened then [DoorReport.evacCleared] else [])

/-- The release set once a door has lost its marks. -/
def Door.clearedSet (d : Door) (n : Nat) (l : List ReleaseMember) : List ReleaseMember :=
  if d.latched ∨ d.evacOpened then clearMark n d.latched d.evacOpened l else l

theorem Door.clearings_clear (d : Door) : d.clearings.any DoorReport.clears = true ↔ d.latched = true ∨ d.evacOpened = true := by
  unfold clearings
  by_cases hl : d.latched = true <;> by_cases he : d.evacOpened = true <;> simp [hl, he, DoorReport.clears]

theorem Door.clearings_inOrder (d : Door) : State.inOrder d.clearings = d.clearings := by
  unfold clearings
  by_cases hl : d.latched = true <;> by_cases he : d.evacOpened = true <;> simp [hl, he, State.inOrder, DoorReport.clears]

theorem Door.clearings_release (d : Door) (n : Nat) (r : Release) :
    (State.inOrder d.clearings).foldl (fun r x => State.releaseAfter r n x) r = { r with set := d.clearedSet n r.set } := by
  rw [clearings_inOrder]
  unfold clearings clearedSet
  by_cases hl : d.latched = true <;> by_cases he : d.evacOpened = true <;>
    simp [hl, he, State.releaseAfter, clearMark_clearMark]

namespace State

/-- An event that clears a mark and leaves the release set of a RESTORING face empty completes the restore (R146). -/
theorem applyDoorRestore_ends {s : State} {f : Face} {n : Nat} {d : Door} {g : DoorContext → Door → DoorOutcome}
    (hd : s.findDoor f n = some d) (hc : (g (s.doorContext f n) d).reports.any DoorReport.clears = true)
    (hr : ((s.applyDoor f n g).face f).release.state = .restoring) (hs : ((s.applyDoor f n g).face f).release.set = []) :
    s.applyDoorRestore f n g = ((s.applyDoor f n g).normal f).testAdoption f := by
  simp only [applyDoorRestore, hd, hc, if_true]
  exact if_pos ⟨hr, hs⟩

/-- Any other event is the door's alone. -/
theorem applyDoorRestore_stays {s : State} {f : Face} {n : Nat} {d : Door} {g : DoorContext → Door → DoorOutcome}
    (hd : s.findDoor f n = some d)
    (h : ¬((g (s.doorContext f n) d).reports.any DoorReport.clears = true ∧
      ((s.applyDoor f n g).face f).release.state = .restoring ∧ ((s.applyDoor f n g).face f).release.set = [])) :
    s.applyDoorRestore f n g = s.applyDoor f n g := by
  simp only [applyDoorRestore, hd]
  split
  next hc => exact if_neg fun ends => h ⟨hc, ends⟩
  · rfl

end State

namespace Door

/-- A door taken out of service: its marks go, with their reports (R58). -/
theorem isolate_eq {d : Door} (h : d.isolation ≠ .lockedOut) : d.isolate =
    ⟨{ d with
        state := .isolated, isolation := .lockedOut, recycleCount := 0, latched := false, evacOpened := false, timer := none
        link := { d.link with slot := none } }, [], d.clearings⟩ := if_neg h

theorem isolate_lockedOut {d : Door} (h : d.isolation = .lockedOut) : d.isolate = plain d := if_pos h

/-- The record of an unmarked LOCKED_OUT door returned to service (R59). -/
def returned (d : Door) : Door :=
  let back : Door := { d with isolation := .none, timer := none }
  if d.link.lost then { back with state := .lost }
  else
    match d.lastStatus with
    | none => { back with state := .unknown }
    | some st =>
      if st.settled = .isolated then { back with state := .isolated, isolation := .localSwitch, link := { d.link with slot := none } }
      else if st.settled = .stalled then { back with state := .stalled, link := { d.link with slot := none } }
      else { back with state := st.settled }

/-- The settled state given to an unmarked door that returns to service. -/
theorem takeSettled_unmarked {d : Door} (hl : d.latched = false) (he : d.evacOpened = false) (st : Status) :
    (d.takeSettled st).reports = [] ∧ (d.takeSettled st).events = (if st.settled = .stalled then [.doorStalled] else []) ∧
      (d.takeSettled st).door =
        if st.settled = .isolated then
          { d with state := .isolated, timer := none, isolation := .localSwitch, link := { d.link with slot := none } }
        else if st.settled = .stalled then { d with state := .stalled, timer := none, link := { d.link with slot := none } }
        else { d with state := st.settled, timer := none } := by
  rcases st.settled_cases with h | h | h | h | h <;> simp only [takeSettled, h]
  · exact ⟨rfl, rfl, rfl⟩
  · exact ⟨rfl, rfl, rfl⟩
  · refine ⟨by simp [enterClosed, hl, he], rfl, ?_⟩
    simp [enterClosed, goTo, hl, he]
  · exact ⟨rfl, rfl, rfl⟩
  · exact ⟨rfl, rfl, rfl⟩

theorem returnToService_unmarked {d : Door} (hl : d.latched = false) (he : d.evacOpened = false) :
    d.returnToService.reports = [] ∧ d.returnToService.door = d.returned ∧
      ∀ st, d.link.lost = false → d.lastStatus = some st → st.settled = .stalled → .doorStalled ∈ d.returnToService.events := by
  unfold returnToService returned
  dsimp only
  by_cases lost : d.link.lost = true
  · rw [if_pos lost, if_pos lost]
    exact ⟨rfl, rfl, fun st live => by simp [lost] at live⟩
  · rw [if_neg lost, if_neg lost]
    split
    next st known =>
      obtain ⟨reports, events, door⟩ := takeSettled_unmarked (d := { d with isolation := .none }) hl he st
      refine ⟨reports, ?_, fun st' _ same stalled => ?_⟩
      · rw [door, known]
      · obtain rfl : st = st' := Option.some.inj (known.symm.trans same)
        rw [events, if_pos stalled]
        exact List.mem_cons_self
    next unknown =>
      refine ⟨rfl, ?_, fun st _ known => by simp [unknown] at known⟩
      rw [unknown]
      rfl

end Door

namespace State

/-- A door in service isolated: its record, and the release set without its marks (R58). -/
theorem applyIsolate_blocks {s : State} {f : Face} {n : Nat} {d : Door} (hd : s.findDoor f n = some d) (hi : d.isolation ≠ .lockedOut) :
    (s.applyDoor f n fun _ d => d.isolate).blocks = s.blocks.modFace f fun b =>
      { b with
        doors := b.doors.map fun x => if x.number = n then d.isolate.door else x
        release := { b.release with set := d.clearedSet n b.release.set } } := by
  have reports : d.isolate.reports = d.clearings := by rw [Door.isolate_eq hi]
  rw [applyDoor_blocks hd, reports]
  simp only [Door.clearings_release]

theorem applyIsolate_release {s : State} {f : Face} {n : Nat} {d : Door} (hd : s.findDoor f n = some d) (hi : d.isolation ≠ .lockedOut) :
    ((s.applyDoor f n fun _ d => d.isolate).face f).release =
      { (s.face f).release with set := d.clearedSet n (s.face f).release.set } := by
  obtain ⟨-, -, -, -, -, release⟩ := face_records_of (applyIsolate_blocks hd hi) f
  rwa [Blocks.get_modFace, blocks_get] at release

end State

/-- Settles O25: one event of the door, and where its marks complete a restore the return to NORMAL. -/
theorem isolateAndReturnDoor : Obligations.IsolateAndReturnDoor := by
  intro s t r rest f n d hf hc hb hd
  obtain ⟨a, ha⟩ : ∃ a, s.handed t rest = a := ⟨_, rfl⟩
  have found : a.findDoor f n.toNat = some d := by simpa [← ha] using hd
  have number : d.number = n.toNat := (State.findDoor_some hd).2
  have carried := State.withDoor_of (s := s.handed t rest) hf (by simpa using hc) hb (by simpa using hd)
  refine ⟨fun takes => ?_, fun takes hi hl he => ?_⟩
  · have isolates : (s.handed t rest).takeIsolateDoor r = (a.applyDoorRestore f n.toNat fun _ d => d.isolate).done r :=
      (carried _).trans (by rw [number, ha])
    refine ⟨fun hi => ?_, fun hi => ?_⟩
    · rw [State.applyDoorRestore_stays found (by simp [Door.isolate_lockedOut hi, Door.plain])] at isolates
      obtain ⟨u, hu, answered, blocks, -⟩ := done_of_takes (c := .isolateDoor t) rfl takes isolates
        (by rw [ha]; exact (State.applyDoor_calm a f _ _).toQuiet)
      refine ⟨u, hu, answered, ?_⟩
      rw [blocks, State.applyDoor_blocks_silent found _ (by rw [Door.isolate_lockedOut hi]; rfl), Door.isolate_lockedOut hi, ← ha,
        State.handed_blocks]
      rfl
    · intro out set' ends
      have outcome : d.isolate = ⟨out, [], d.clearings⟩ := Door.isolate_eq hi
      have calm : Calm a (a.applyDoor f n.toNat fun _ d => d.isolate) := State.applyDoor_calm a f _ _
      have applied := State.applyIsolate_blocks found hi
      have release : ((a.applyDoor f n.toNat fun _ d => d.isolate).face f).release = { (s.face f).release with set := set' } := by
        rw [State.applyIsolate_release found hi, ← ha, State.handed_release]
        rfl
      rw [outcome, ← ha, State.handed_blocks, ha] at applied
      by_cases he : ends
      · obtain ⟨restoring, marked, empty⟩ := he
        rw [State.applyDoorRestore_ends found (by rw [outcome]; exact d.clearings_clear.2 marked) (by rw [release]; exact restoring)
          (by rw [release]; exact empty)] at isolates
        have normal : ((a.applyDoor f n.toNat fun _ d => d.isolate).normal f).blocks = s.blocks.modFace f fun b =>
            { b with
              doors := b.doors.map fun x => if x.number = n.toNat then out else x
              release := { b.release with set := set', state := .normal } } := by
          rw [State.normal_blocks, applied, Blocks.modFace_modFace]
          exact Blocks.modFace_congr (by rw [State.blocks_get]; rfl)
        have quiet := (calm.trans (State.normal_calm _ f)).toQuiet
        refine ⟨fun _ => ⟨(a.applyDoor f n.toNat fun _ d => d.isolate).normal f, ?_, ?_, ?_, State.normal_flag _ f, normal⟩,
          fun free => ?_⟩
        · rw [exec_of_takes (c := .isolateDoor t) rfl takes, isolates]
          rfl
        · rw [quiet.intake, ← ha, State.handed_lif_intake]
        · rw [quiet.replies, ← ha, State.handed_lif_replies]
        · have unstaged : ((a.applyDoor f n.toNat fun _ d => d.isolate).normal f).tbs.staged = none :=
            (congrArg (fun b : Blocks => b.tbs.staged) normal).trans (free.resolve_right fun h => h ⟨restoring, marked, empty⟩)
          rw [State.testAdoption_unstaged f unstaged] at isolates
          obtain ⟨u, hu, answered, blocks, flags⟩ := done_of_takes (c := .isolateDoor t) rfl takes isolates (by rw [ha]; exact quiet)
          refine ⟨u, hu, answered, fun _ => flags _ _ (State.normal_flag _ f), ?_⟩
          rw [blocks, normal]
          exact Blocks.modFace_congr (by simp only [if_pos (show ends from ⟨restoring, marked, empty⟩)])
      · rw [State.applyDoorRestore_stays found fun ⟨marked, restoring, empty⟩ =>
          he ⟨by rwa [release] at restoring, d.clearings_clear.1 (by rwa [outcome] at marked), by rwa [release] at empty⟩] at isolates
        obtain ⟨u, hu, answered, blocks, -⟩ := done_of_takes (c := .isolateDoor t) rfl takes isolates (by rw [ha]; exact calm.toQuiet)
        refine ⟨fun h => absurd h he, fun _ => ⟨u, hu, answered, fun h => absurd h he, ?_⟩⟩
        rw [blocks, applied]
        refine Blocks.modFace_congr ?_
        simp only [if_neg he]
        rw [State.blocks_get]
        rfl
  · intro back
    have returns : (s.handed t rest).takeReturnDoor r = (a.applyDoorRestore f n.toNat fun _ d => d.returnToService).done r :=
      (carried _).trans (by rw [if_pos hi, number, ha])
    obtain ⟨reports, door, stalls⟩ := Door.returnToService_unmarked hl he
    rw [State.applyDoorRestore_stays found (by simp [reports])] at returns
    obtain ⟨u, hu, answered, blocks, flags⟩ := done_of_takes (c := .returnDoor t) rfl takes returns
      (by rw [ha]; exact (State.applyDoor_calm a f _ _).toQuiet)
    refine ⟨u, hu, answered, fun st live known stalled => flags _ _ ?_, ?_⟩
    · exact State.applyDoor_events found _ _ (stalls st live known stalled)
    · rw [blocks, State.applyDoor_blocks_silent found _ reports, door, ← ha, State.handed_blocks]
      rfl

end Sys2Proof.Machine
end

section
/-! PROOFS. The turn that a line begins: what it makes of the door records, whose commands it numbers, and of the line (R81, R84 to R89). -/

namespace Sys2Proof.Machine

/-! ### The first send of a command (R89) -/

/-- The beginning of a turn touches the command's number and the last issued one alone. -/
theorem UnitLink.begun_keeps (l : UnitLink) (kind : TurnKind) :
    (l.begun kind).badCount = l.badCount ∧ (l.begun kind).lost = l.lost ∧ (l.begun kind).base = l.base ∧
      (l.begun kind).badFrames = l.badFrames := by
  unfold begun
  split
  · exact ⟨rfl, rfl, rfl, rfl⟩
  · split <;> exact ⟨rfl, rfl, rfl, rfl⟩

namespace Door

/-- A door record whose unit's turn of a kind has begun. -/
def begun (kind : TurnKind) (d : Door) : Door := d.modLink fun l => l.begun kind

theorem begun_slotCommand (d : Door) (kind : TurnKind) : (d.begun kind).slotCommand = d.slotCommand := State.begun_slot d.link kind

/-- A tunnel turn sends no command (R86). -/
theorem begun_tunnel (d : Door) : d.begun .tunnel = d := by
  have none : d.link.sends .tunnel = .none := by
    unfold UnitLink.sends
    split
    · rfl
    · split <;> rfl
  simp [begun, modLink, UnitLink.begun, none]

end Door

/-! ### The choice of a turn (R84) -/

theorem leastDrop_isSome {l : List Nat} (h : l ≠ []) : (leastDrop l).isSome = true := by
  rw [leastDrop_eq_min?]
  cases l with
  | nil => exact absurd rfl h
  | cons x rest => rfl

theorem pollDrop_isSome {ds : List Door} (h : ds ≠ []) (rotation : Option Nat) : (pollDrop ds rotation).isSome = true := by
  have least : (leastDrop (ds.map fun d => d.drop)).isSome = true := leastDrop_isSome (by simpa using h)
  unfold pollDrop
  cases rotation with
  | none => exact least
  | some p => cases hp : leastDrop ((ds.map fun d => d.drop).filter fun x => p < x) <;> simp [hp, least]

/-- A face with doors always has a turn to begin. -/
theorem chooseTurn_isSome {ds : List Door} (h : ds ≠ []) (line : DoorLine) : (chooseTurn ds line).isSome = true := by
  have poll := pollDrop_isSome h line.rotation
  unfold chooseTurn
  split
  · rfl
  · split
    · split
      · simpa using poll
      · rfl
    · simpa using poll

theorem dropFrameTime_pos (drop : Nat) (c : Carried) : 0 < dropFrameTime drop c := by
  cases c <;> simp [dropFrameTime, dropFrame, characterTime]

/-! ### The next turn of a configured face -/

/-- A line with a turn begun. -/
def DoorLine.taking (l : DoorLine) (t : Turn) : DoorLine :=
  { l with
    turn := some t
    rotation := if t.kind = .poll then some t.drop else l.rotation
    tunnel := if t.kind = .tunnel then l.tunnel.map fun x => { x with sent := true } else l.tunnel }

/-- What the beginning of the next turn makes of a line: it runs as before, an absent exchange stays absent, and the window of a turn
ends more than 800 µs after its beginning. -/
structure DoorLine.Begins (now : Micros) (old new : DoorLine) : Prop where
  running : new.running = old.running
  tunnel : old.tunnel = none → new.tunnel = none
  window : ∀ x, new.turn = some x → now + 800 < x.windowEnd

theorem DoorLine.taking_begins {now : Micros} (l : DoorLine) {t : Turn} (h : now + 800 < t.windowEnd) : l.Begins now (l.taking t) := by
  refine ⟨rfl, fun absent => ?_, fun x taken => ?_⟩
  · simp [taking, absent]
  · obtain rfl : t = x := Option.some.inj taken
    exact h

namespace State

theorem beginTurn_blocks (s : State) (f : Face) (kind : TurnKind) (drop : Nat) : ∃ t : Turn, s.now + 800 < t.windowEnd ∧
    (s.beginTurn f kind drop).blocks = s.blocks.modFace f fun b =>
      { b with
        doors := b.doors.map fun d => d.begun (if d.drop = drop then kind else .tunnel)
        line := b.line.taking t } := by
  have sends (d : Door) : (if d.drop = drop then d.modLink fun l => l.begun kind else d) =
      d.begun (if d.drop = drop then kind else .tunnel) := by
    split
    · rfl
    · exact d.begun_tunnel.symm
  unfold beginTurn
  dsimp only
  generalize UnitLink.carries _ kind _ = c
  refine ⟨{ drop := drop, kind := kind, carried := c, windowEnd := s.now + dropFrameTime drop c + answerWindow, orphan := false }, ?_, ?_⟩
  · exact Nat.add_lt_add_right (Nat.lt_add_of_pos_right (dropFrameTime_pos drop c)) 800
  · rw [modLine_blocks, modDropLink, modDoors_blocks, Blocks.modFace_modFace]
    simp only [sends]
    rfl

/-- The next turn of a configured face begins at once: each door's unit has its first send or none, and the line its turn. -/
theorem nextTurn_blocks {s : State} {f : Face} (hc : s.configured f = true) : ∃ (k : Door → TurnKind) (line : DoorLine),
    (s.nextTurn f).blocks = s.blocks.modFace f (fun b => { b with doors := b.doors.map fun d => d.begun (k d), line := line }) ∧
      (s.face f).line.Begins s.now line ∧ ((s.face f).doors ≠ [] → line.turn ≠ none) := by
  unfold nextTurn
  dsimp only
  generalize hv : s.modLine f (fun l => { l with turn := none }) = v
  have ended : v.blocks = s.blocks.modFace f fun b => { b with line := { b.line with turn := none } } := hv ▸ modLine_blocks s f _
  have doors : (v.face f).doors = (s.face f).doors := by simp [← hv]
  have line : (v.face f).line = { (s.face f).line with turn := none } := by simp [← hv]
  rw [if_pos (by simpa [← hv, configured, params?, tables?] using hc)]
  split
  next kind drop _ =>
    obtain ⟨t, window, blocks⟩ := beginTurn_blocks v f kind drop
    refine ⟨fun d => if d.drop = drop then kind else .tunnel, (s.face f).line.taking t, ?_,
      DoorLine.taking_begins _ (by rwa [← hv] at window), fun _ => by simp [DoorLine.taking]⟩
    rw [blocks, ended, Blocks.modFace_modFace]
    exact Blocks.modFace_congr (by rw [blocks_get]; rfl)
  next none =>
    refine ⟨fun _ => .tunnel, { (s.face f).line with turn := .none }, ?_, ⟨rfl, id, fun x h => by simp at h⟩, fun some => ?_⟩
    · rw [ended]
      exact Blocks.modFace_congr (by simp [Door.begun_tunnel, FaceState.blocks])
    · have chosen := chooseTurn_isSome some { (s.face f).line with turn := .none }
      rw [doors, line] at none
      simp [none] at chosen

end State

end Sys2Proof.Machine
end

section
/-! PROOFS. A door line follows an adoption: its running turn, its exchange, its start and its stop (R81, R102). -/

namespace Sys2Proof.Machine

/-- A line whose turn goes on to a unit that may have left the table (R102, notes/assumptions/24.md). -/
def DoorLine.checked (drops : List Nat) (l : DoorLine) : DoorLine :=
  { l with turn := l.turn.map fun t => if drops.contains t.drop then t else { t with orphan := true } }

/-- The line of a face that has become configured, before its first turn (R81). -/
def DoorLine.started (l : DoorLine) : DoorLine := { l with running := true, rotation := none, tunnel := none }

/-- The reply that ends an exchange (R98, R99, R102). -/
def Tunnel.ended (r : Result) (data : List Byte) (x : Tunnel) : Reply := ⟨0x30, x.tag, r, data, 0⟩

namespace State

theorem endTunnel_blocks (s : State) (f : Face) (r : Result) (data : List Byte) :
    (s.endTunnel f r data).blocks = s.blocks.modFace f fun b => { b with line := { b.line with tunnel := none } } := by
  unfold endTunnel
  split
  next absent =>
    refine (Blocks.modFace_same ?_).symm
    rw [blocks_get, FaceState.blocks, ← absent]
  next x _ => exact modLine_blocks s f fun l => { l with tunnel := none }

theorem endTunnel_replies (s : State) (f : Face) (r : Result) (data : List Byte) :
    (s.endTunnel f r data).lif.replies = s.lif.replies ++ (s.face f).line.tunnel.toList.map (Tunnel.ended r data) := by
  unfold endTunnel
  split
  next absent => simp [absent]
  next x outstanding => rw [outstanding]; rfl

/-- The line once its running turn has been held against the drop addresses of the face's doors. -/
def turnChecked (s : State) (f : Face) : State := s.modLine f (DoorLine.checked ((s.face f).doors.map fun d => d.drop))

theorem turnChecked_blocks (s : State) (f : Face) : (s.turnChecked f).blocks = s.blocks.modFace f fun b =>
    { b with line := b.line.checked (b.doors.map fun d => d.drop) } := by
  rw [turnChecked, modLine_blocks]
  exact Blocks.modFace_congr (by rw [blocks_get]; rfl)

@[simp] theorem turnChecked_line (s : State) (f : Face) :
    ((s.turnChecked f).face f).line = (s.face f).line.checked ((s.face f).doors.map fun d => d.drop) := by simp [turnChecked]

@[simp] theorem turnChecked_replies (s : State) (f : Face) : (s.turnChecked f).lif.replies = s.lif.replies := rfl

@[simp] theorem turnChecked_configured (s : State) (f : Face) : (s.turnChecked f).configured f = s.configured f := rfl

/-- The line of a face that stays configured goes on, with an exchange to a unit that stays in the table. -/
theorem followLine_on {s : State} {f : Face} (hc : s.configured f = true)
    (h : ∀ x, (s.face f).line.tunnel = some x → x.drop ∈ (s.face f).doors.map fun d => d.drop) : s.followLine f true = s.turnChecked f := by
  change (if (s.turnChecked f).configured f = true then _ else _) = _
  rw [if_pos (by simpa using hc), if_pos rfl]
  split
  next x outstanding => exact if_pos (by simpa using h x (by simpa [DoorLine.checked] using outstanding))
  · rfl

/-- An exchange to a unit that leaves the table ends. -/
theorem followLine_cuts {s : State} {f : Face} {x : Tunnel} (hc : s.configured f = true) (ht : (s.face f).line.tunnel = some x)
    (h : x.drop ∉ (s.face f).doors.map fun d => d.drop) :
    s.followLine f true = (s.turnChecked f).endTunnel f (.refused .notNow) [] := by
  have outstanding : ((s.turnChecked f).face f).line.tunnel = some x := by simpa [DoorLine.checked] using ht
  change (if (s.turnChecked f).configured f = true then _ else _) = _
  rw [if_pos (by simpa using hc), if_pos rfl]
  split
  next y found =>
    obtain rfl : x = y := Option.some.inj (outstanding.symm.trans found)
    exact if_neg (by simpa using h)
  next absent => exact absurd (outstanding.symm.trans absent) (Option.some_ne_none x)

/-- The line of a face that is no longer configured stops, once its running turn is over; its exchange ends. -/
theorem followLine_off {s : State} {f : Face} (hc : s.configured f = false) (was : Bool) :
    (s.followLine f was).blocks = s.blocks.modFace f (fun b => { b with line :=
        { b.line.checked (b.doors.map fun d => d.drop) with running := b.line.running && b.line.turn.isSome, tunnel := none } }) ∧
      (s.followLine f was).lif.replies = s.lif.replies ++
        (s.face f).line.tunnel.toList.map (Tunnel.ended (.refused .notConfigured) []) := by
  have off : s.followLine f was =
      if (((s.turnChecked f).endTunnel f (.refused .notConfigured) []).face f).line.turn.isSome then
        (s.turnChecked f).endTunnel f (.refused .notConfigured) []
      else ((s.turnChecked f).endTunnel f (.refused .notConfigured) []).modLine f fun l => { l with running := false } := by
    change (if (s.turnChecked f).configured f = true then _ else _) = _
    exact if_neg (by simp [hc])
  have blocks := endTunnel_blocks (s.turnChecked f) f (.refused .notConfigured) []
  have replies := endTunnel_replies (s.turnChecked f) f (.refused .notConfigured) []
  rw [turnChecked_blocks, Blocks.modFace_modFace] at blocks
  rw [turnChecked_line] at replies
  rw [off]
  obtain ⟨-, -, -, -, line, -⟩ := face_records_of blocks f
  rw [Blocks.get_modFace, blocks_get] at line
  have turn : (((s.turnChecked f).endTunnel f (.refused .notConfigured) []).face f).line.turn.isSome = (s.face f).line.turn.isSome := by
    rw [line]
    simp [DoorLine.checked, FaceState.blocks]
  split
  next runs =>
    refine ⟨blocks.trans (Blocks.modFace_congr ?_), replies⟩
    rw [turn] at runs
    simp [DoorLine.checked, FaceState.blocks, runs]
  next idle =>
    refine ⟨?_, replies⟩
    rw [turn] at idle
    rw [modLine_blocks, blocks, Blocks.modFace_modFace]
    exact Blocks.modFace_congr (by simp [DoorLine.checked, FaceState.blocks, idle])

/-- The line of a face that has become configured starts: at once, or after the turn that it still finishes. -/
theorem followLine_start {s : State} {f : Face} (hc : s.configured f = true) :
    let v := (s.turnChecked f).modLine f DoorLine.started
    s.followLine f false = if (s.face f).line.turn.isSome then v else v.nextTurn f := by
  intro v
  have turn : (v.face f).line.turn.isSome = (s.face f).line.turn.isSome := by simp [v, DoorLine.started, DoorLine.checked]
  change (if (s.turnChecked f).configured f = true then (s.turnChecked f).startLine f else _) = _
  rw [if_pos (by simpa using hc), ← turn]
  rfl

theorem started_blocks (s : State) (f : Face) : ((s.turnChecked f).modLine f DoorLine.started).blocks =
    s.blocks.modFace f fun b => { b with line := (b.line.checked (b.doors.map fun d => d.drop)).started } := by
  rw [modLine_blocks, turnChecked_blocks, Blocks.modFace_modFace]

/-- A change of the line alone begins no send. -/
theorem begins_of_line {s u : State} {f : Face} {g : FaceBlocks → DoorLine}
    (h : u.blocks = s.blocks.modFace f fun b => { b with line := g b }) :
    u.blocks = s.blocks.modFace f fun b => { b with doors := b.doors.map fun d => d.begun .tunnel, line := g (s.face f).blocks } :=
  h.trans (Blocks.modFace_congr (by simp [Door.begun_tunnel]))

/-- Whatever it makes of its line, the doors stand but for the first send of a turn that begins; the line of a face that was configured
begins none. -/
theorem followLine_blocks (s : State) (f : Face) (was : Bool) : ∃ (k : Door → TurnKind) (line : DoorLine),
    (was = true → k = fun _ => .tunnel) ∧
      (s.followLine f was).blocks = s.blocks.modFace f fun b => { b with doors := b.doors.map fun d => d.begun (k d), line := line } := by
  by_cases hc : s.configured f = true
  · cases was with
    | true =>
      by_cases leaves : ∃ x, (s.face f).line.tunnel = some x ∧ x.drop ∉ (s.face f).doors.map fun d => d.drop
      · obtain ⟨x, outstanding, left⟩ := leaves
        rw [followLine_cuts hc outstanding left]
        exact ⟨_, _, fun _ => rfl, begins_of_line (by rw [endTunnel_blocks, turnChecked_blocks, Blocks.modFace_modFace])⟩
      · rw [followLine_on hc fun x outstanding => by_contra fun left => leaves ⟨x, outstanding, left⟩]
        exact ⟨_, _, fun _ => rfl, begins_of_line (turnChecked_blocks s f)⟩
    | false =>
      rw [followLine_start hc]
      split
      · exact ⟨_, _, fun _ => rfl, begins_of_line (started_blocks s f)⟩
      · obtain ⟨k, line, blocks, -⟩ := nextTurn_blocks (s := (s.turnChecked f).modLine f DoorLine.started) (f := f) (by exact hc)
        exact ⟨k, line, nofun, by rw [blocks, started_blocks, Blocks.modFace_modFace]⟩
  · exact ⟨_, _, fun _ => rfl, begins_of_line (followLine_off (by simpa using hc) was).1⟩

end State

end Sys2Proof.Machine
end

section
/-! PROOFS. O16: the adoption of the staged bank (R79, R102, R120, R137, R177 to R179). -/

namespace Sys2Proof.Machine

/-! ### The door records that an adoption rebuilds (R79, R102) -/

theorem rebuildDoors_table (old : List Door) (entries : List (Nat × DoorEntry)) :
    (rebuildDoors old entries).map (fun d => (d.number, d.drop)) = entries.map fun e => (e.1, e.2.drop) := by
  rw [rebuildDoors, List.map_map]
  refine List.map_congr_left fun p _ => ?_
  simp only [Function.comp]
  split
  next o found =>
    have same : o.drop = p.2.drop := by simpa using List.find?_some found
    rw [← same]
  next => rfl

/-- A rebuilt door is the old record of its drop address, or a new one. -/
theorem mem_rebuildDoors {old : List Door} {entries : List (Nat × DoorEntry)} {d : Door} (h : d ∈ rebuildDoors old entries) :
    (∀ o, old.find? (fun x => x.drop = d.drop) = some o → d = { o with number := d.number, recycleCount := 0 }) ∧
      (old.find? (fun x => x.drop = d.drop) = none → d = Door.build d.number d.drop) := by
  obtain ⟨p, -, rfl⟩ := List.mem_map.1 h
  split
  next o found =>
    have same : o.drop = p.2.drop := by simpa using List.find?_some found
    refine ⟨fun o' known => ?_, fun missing => ?_⟩
    · obtain rfl : o = o' := Option.some.inj (found.symm.trans (by rw [← same]; exact known))
      rfl
    · exact absurd (found.symm.trans (by rw [← same]; exact missing)) (Option.some_ne_none o)
  next missing => exact ⟨fun o known => absurd (known.symm.trans missing) (Option.some_ne_none o), fun _ => rfl⟩

/-- No rebuilt door of a face without old records holds a command or has a base. -/
theorem rebuildDoors_nil (entries : List (Nat × DoorEntry)) : ∀ d ∈ rebuildDoors [] entries, d.link.slot = none ∧ d.link.base = none := by
  intro d hd
  rw [(mem_rebuildDoors hd).2 rfl]
  exact ⟨rfl, rfl⟩

/-! ### No close moves a door to another drop address -/

namespace Door

theorem place_drop (d : Door) (ctx : DoorContext) (c : DoorCommand) (u : Urgency) : (d.place ctx c u).drop = d.drop := by rw [place_eq]

theorem obstruct_drop (d : Door) (ctx : DoorContext) : (d.obstruct ctx).door.drop = d.drop := by
  unfold obstruct
  dsimp only
  split
  · exact place_drop _ ctx .openCmd .urgent
  · exact place_drop _ ctx .haltCmd .urgent

theorem enterClosing_drop (d : Door) (ctx : DoorContext) : (d.enterClosing ctx).door.drop = d.drop := by
  unfold enterClosing
  dsimp only
  split
  · exact obstruct_drop _ ctx
  · rfl

theorem departureClose_drop (d : Door) (ctx : DoorContext) : (d.departureClose ctx).door.drop = d.drop := by
  unfold departureClose
  split
  · exact d.place_drop ctx _ _
  · exact (enterClosing_drop _ ctx).trans (place_drop _ ctx _ _)

end Door

theorem DoorLine.checked_turn (l : DoorLine) (ds : List Door) :
    (l.checked (ds.map fun d => d.drop)).turn =
      l.turn.map fun x => if ds.any fun d => d.drop = x.drop then x else { x with orphan := true } := by
  have same (n : Nat) : (ds.map fun d => d.drop).contains n = ds.any fun d => d.drop = n := by
    rw [Bool.eq_iff_iff]
    simp
  simp only [checked, same]

namespace State

/-! ### The Table Store (R178, R179) -/

/-- The bank a face adopts becomes its active one. -/
def adopting (s : State) (f : Face) (b : BankId) : State := s.modTbs fun t => { t with active := t.active.set f (some b) }

theorem adopting_configured (s : State) (f : Face) (b : BankId) :
    (s.adopting f b).configured f = ((s.tbs.bank b).tables.params.get f).isSome := by
  simp only [adopting, configured, params?, tables?, modTbs_tbs, PerFace.get_set_same]
  rfl

theorem adopting_faceEntries (s : State) (f : Face) (b : BankId) : (s.adopting f b).faceEntries f =
    if ((s.tbs.bank b).tables.params.get f).isSome then tableDoors (s.tbs.bank b).tables f else [] := by
  simp only [adopting, faceEntries, params?, tables?, modTbs_tbs, PerFace.get_set_same, Option.map_some, Option.bind_some]
  change (match some (s.tbs.bank b).tables, (s.tbs.bank b).tables.params.get f with
    | some t, some _ => tableDoors t f | _, _ => []) = _
  cases (s.tbs.bank b).tables.params.get f <;> rfl

/-! ### The adoption handed on -/

/-- The doors rebuilt and handed on. -/
def doorsRebuilt (s : State) (f : Face) : State := (s.modDoors f fun ds => rebuildDoors ds (s.faceEntries f)).doorsHandOn f

theorem doorsRebuilt_blocks (s : State) (f : Face) : (s.doorsRebuilt f).blocks = s.blocks.modFace f fun b =>
    { b with doors := rebuildDoors b.doors (s.faceEntries f) } := by rw [doorsRebuilt, doorsHandOn_blocks, modDoors_blocks]

@[simp] theorem doorsRebuilt_configured (s : State) (f : Face) : (s.doorsRebuilt f).configured f = s.configured f := by
  simp [doorsRebuilt, configured, params?, tables?]

/-- The Gap Monitor notes the face; beside that an adoption handed on leaves the blocks as the door line has left them. -/
theorem adoptionHanded_follows (s : State) (f : Face) (was : Bool) :
    (s.adoptionHanded f was).blocks = { ((s.doorsRebuilt f).followLine f was).blocks with
        gap := { ((s.doorsRebuilt f).followLine f was).gap with
          adopted := ((s.doorsRebuilt f).followLine f was).gap.adopted.set f true } } ∧
      (s.adoptionHanded f was).lif.replies = ((s.doorsRebuilt f).followLine f was).lif.replies := by
  have sets (u : State) : ((u.formSets f).decide f).blocks = u.blocks := by rw [decide_blocks, reported_blocks (formSets_reported u f)]
  exact ⟨sets _, by rw [adoptionHanded, (decide_reported _ f).lif_replies]; rfl⟩

/-- The rebuilt doors stand but for the first send of a turn that begins. -/
theorem adoptionHanded_blocks (s : State) (f : Face) (was : Bool) : ∃ (k : Door → TurnKind) (line : DoorLine),
    (was = true → k = fun _ => .tunnel) ∧ (s.adoptionHanded f was).blocks = { (s.blocks.modFace f fun b =>
      { b with doors := (rebuildDoors b.doors (s.faceEntries f)).map fun d => d.begun (k d), line := line }) with
        gap := { s.gap with adopted := s.gap.adopted.set f true } } := by
  obtain ⟨k, line, whole, blocks⟩ := followLine_blocks (s.doorsRebuilt f) f was
  rw [doorsRebuilt_blocks, Blocks.modFace_modFace] at blocks
  refine ⟨k, line, whole, ?_⟩
  rw [(adoptionHanded_follows s f was).1, show ((s.doorsRebuilt f).followLine f was).gap = s.gap from congrArg Blocks.gap blocks, blocks]

/-! ### The test for evacuation that ends it (R137) -/

/-- On a VACANT berth it closes the face. -/
theorem testEvacuation_shuts {s : State} {f : Face} (hv : (s.face f).berth.state = .vacant) (hi : (s.face f).release.input = .asserted)
    (hc : s.configured f = true) (hr : (s.face f).release.state ≠ .evacuating) :
    s.testEvacuation f = (s.evacuating f).departureClose f := by
  obtain ⟨berth, -⟩ := evacuating_records s f
  rw [testEvacuation_begins hi hc hr, beginEvacuation_eq, if_neg (by simp [berth, hv])]

theorem testEvacuation_cases {s : State} {f : Face} (hv : (s.face f).berth.state = .vacant) :
    s.testEvacuation f = s ∨ s.testEvacuation f = (s.evacuating f).departureClose f := by
  by_cases h : (s.face f).release.input = .asserted ∧ s.configured f = true ∧ (s.face f).release.state ≠ .evacuating
  · exact .inr (testEvacuation_shuts hv h.1 h.2.1 h.2.2)
  · exact .inl (if_neg h)

theorem testEvacuation_line {s : State} {f : Face} (hv : (s.face f).berth.state = .vacant) :
    ((s.testEvacuation f).face f).line = (s.face f).line := by
  rcases testEvacuation_cases hv with h | h <;> rw [h]
  obtain ⟨-, -, -, line, -⟩ := evacuating_records s f
  rw [departureClose_line, line]

theorem testEvacuation_drops {s : State} {f : Face} (hv : (s.face f).berth.state = .vacant) (hn : DistinctDoors (s.face f)) :
    ((s.testEvacuation f).face f).doors.map (fun d => d.drop) = (s.face f).doors.map fun d => d.drop := by
  rcases testEvacuation_cases hv with h | h <;> rw [h]
  obtain ⟨-, doors, -⟩ := evacuating_records s f
  obtain ⟨-, closed, -⟩ := face_records_of (departureClose_blocks (s.evacuating f) f (hn.of_doors doors)) f
  rw [closed, Blocks.get_modFace, blocks_get, FaceState.blocks, doors, List.map_map]
  refine List.map_congr_left fun d _ => ?_
  simp only [Function.comp]
  split
  · exact d.departureClose_drop _
  · rfl

/-! ### The adoption as a whole (R178, R179) -/

/-- The bank a face adopts, handed on to the blocks of the part, before the test for evacuation. -/
def bankHanded (s : State) (f : Face) (b : BankId) : State := (s.adopting f b).adoptionHanded f (s.configured f)

theorem bankHanded_tbs (s : State) (f : Face) (b : BankId) :
    (s.bankHanded f b).tbs = { s.tbs with active := s.tbs.active.set f (some b) } := by
  obtain ⟨k, line, -, blocks⟩ := adoptionHanded_blocks (s.adopting f b) f (s.configured f)
  exact congrArg Blocks.tbs blocks

end State

/-- The Table Store once a face has adopted a bank: the second adoption begins its copy (R178, R179). -/
def TableStore.adopted (t : TableStore) (f : Face) (b : BankId) (now : Millis) : TableStore :=
  let taken := { t with active := t.active.set f (some b) }
  if t.active.get f.partner = some b then
    { (taken.setBank b { taken.bank b with state := .active }).setBank b.other { taken.bank b.other with state := .copying } with
      staged := none, copy := some { written := b.other, source := b, beganAt := now } }
  else taken

theorem TableStore.adopted_active (t : TableStore) (f : Face) (b : BankId) (now : Millis) :
    (t.adopted f b now).active = t.active.set f (some b) := by
  unfold adopted
  dsimp only
  split
  · cases b <;> rfl
  · rfl

theorem TableStore.adopted_first {t : TableStore} {f : Face} {b : BankId} (h : t.active.get f.partner ≠ some b) (now : Millis) :
    t.adopted f b now = { t with active := t.active.set f (some b) } := if_neg h

/-- The second adoption stages no bank any more; the adopted bank is ACTIVE and the other one its copy (R178, R179). -/
theorem TableStore.adopted_second {t : TableStore} {f : Face} {b : BankId} (h : t.active.get f.partner = some b) (now : Millis) :
    (t.adopted f b now).staged = none ∧ (t.adopted f b now).copy = some ⟨b.other, b, now⟩ ∧
      ((t.adopted f b now).bank b).state = .active ∧ ((t.adopted f b now).bank b.other).state = .copying ∧
      ((t.adopted f b now).bank b).tables = (t.bank b).tables ∧
      ((t.adopted f b now).bank b.other).tables = (t.bank b.other).tables := by
  unfold adopted
  dsimp only
  rw [if_pos h]
  cases b <;> exact ⟨rfl, rfl, rfl, rfl, rfl, rfl⟩

namespace State

/-- After the test for evacuation an adoption touches the flags and the Table Store alone. -/
theorem adopt_eq {s : State} {f : Face} (b : BankId) (hv : ((s.bankHanded f b).face f).berth.state = .vacant) :
    s.adopt f b = (((s.bankHanded f b).testEvacuation f).raiseFace f .bankAdopted).modTbs fun _ => s.tbs.adopted f b s.ms := by
  have tbs : (((s.bankHanded f b).testEvacuation f).raiseFace f .bankAdopted).tbs =
      { s.tbs with active := s.tbs.active.set f (some b) } := by
    rw [raiseFace_tbs, testEvacuation_tbs hv, bankHanded_tbs]
  have partner : (s.tbs.active.set f (some b)).get f.partner = s.tbs.active.get f.partner := by simp
  have now : (((s.bankHanded f b).testEvacuation f).raiseFace f .bankAdopted).ms = s.ms := by
    rw [bankHanded, ← handOnAdoption_eq]
    exact ((modTbs_kept s _).trans ((handOnAdoption_kept _ f _).trans (raiseFace_reported _ f _).kept)).ms
  change (if (((s.bankHanded f b).testEvacuation f).raiseFace f .bankAdopted).tbs.active.get f.partner = some b then
    (((s.bankHanded f b).testEvacuation f).raiseFace f .bankAdopted).beginCopy b
    else ((s.bankHanded f b).testEvacuation f).raiseFace f .bankAdopted) = _
  generalize ((s.bankHanded f b).testEvacuation f).raiseFace f .bankAdopted = e at tbs now
  simp only [tbs, partner]
  unfold TableStore.adopted
  dsimp only
  split
  next second =>
    simp only [beginCopy, modTbs, tbs, now]
  · simp only [modTbs, ← tbs]

/-- The records of a face whose adoption has been handed on. -/
theorem bankHanded_blocks (s : State) (f : Face) (b : BankId) : ∃ (k : Door → TurnKind) (line : DoorLine),
    (s.configured f = true → k = fun _ => .tunnel) ∧ (s.bankHanded f b).blocks = { (s.blocks.modFace f fun x =>
      { x with doors := (rebuildDoors x.doors ((s.adopting f b).faceEntries f)).map fun d => d.begun (k d), line := line }) with
        gap := { s.gap with adopted := s.gap.adopted.set f true }
        tbs := { s.tbs with active := s.tbs.active.set f (some b) } } :=
  adoptionHanded_blocks (s.adopting f b) f (s.configured f)

theorem bankHanded_records (s : State) (f : Face) (b : BankId) :
    ((s.bankHanded f b).face f).berth = (s.face f).berth ∧ ((s.bankHanded f b).face f).release = (s.face f).release ∧
      ∃ k : Door → TurnKind, ((s.bankHanded f b).face f).doors =
        (rebuildDoors (s.face f).doors ((s.adopting f b).faceEntries f)).map fun d => d.begun (k d) := by
  obtain ⟨k, line, -, blocks⟩ := bankHanded_blocks s f b
  obtain ⟨berth, doors, -, -, -, release⟩ := face_records_of blocks f
  rw [Blocks.get_modFace, blocks_get] at berth doors release
  exact ⟨berth, release, k, doors⟩

theorem bankHanded_distinct (s : State) (f : Face) (b : BankId) : DistinctDoors ((s.bankHanded f b).face f) := by
  obtain ⟨-, -, k, doors⟩ := bankHanded_records s f b
  have numbers : ((s.bankHanded f b).face f).doors.map (fun d => d.number) =
      (rebuildDoors (s.face f).doors ((s.adopting f b).faceEntries f)).map fun d => d.number := by rw [doors, List.map_map]; rfl
  rw [DistinctDoors, numbers]
  exact (rebuildDoors_ordered (s.adopting f b) f (s.face f).doors).1.imp Nat.ne_of_lt

theorem bankHanded_configured (s : State) (f : Face) (b : BankId) :
    (s.bankHanded f b).configured f = ((s.tbs.bank b).tables.params.get f).isSome :=
  (configured_of_tbs (s := s.adopting f b) (bankHanded_tbs s f b) f).trans (adopting_configured s f b)

/-- What an adoption on a VACANT berth comes to, whether or not an evacuation begins in it. -/
theorem adopt_records {s : State} {f : Face} (b : BankId) (hv : (s.face f).berth.state = .vacant) :
    (s.adopt f b).tbs = s.tbs.adopted f b s.ms ∧ .bankAdopted ∈ (s.adopt f b).lif.flags.get (.face f) ∧
      ((s.adopt f b).face f).berth = (s.face f).berth ∧ ((s.adopt f b).face f).line = ((s.bankHanded f b).face f).line ∧
      (s.adopt f b).lif.replies = (s.bankHanded f b).lif.replies ∧
      ((s.adopt f b).face f).doors.map (fun d => d.drop) =
        (rebuildDoors (s.face f).doors ((s.adopting f b).faceEntries f)).map fun d => d.drop := by
  obtain ⟨berth, -, k, doors⟩ := bankHanded_records s f b
  have vacant : ((s.bankHanded f b).face f).berth.state = .vacant := by rw [berth, hv]
  have standing := testEvacuation_standing vacant
  have drops := testEvacuation_drops vacant (bankHanded_distinct s f b)
  rw [adopt_eq b vacant]
  refine ⟨rfl, raise_flag _ (.face f) .bankAdopted, ?_, ?_, ?_, ?_⟩
  · exact (raiseFace_berth _ f .bankAdopted f).trans ((standing.berth f).trans berth)
  · exact (raiseFace_line _ f .bankAdopted f).trans (testEvacuation_line vacant)
  · exact (raiseFace_reported _ f .bankAdopted).lif_replies.trans standing.replies
  · rw [modTbs_face, raiseFace_doors, drops, doors, List.map_map]
    rfl

/-- An adoption without an evacuation. -/
theorem adopt_blocks {s : State} {f : Face} (b : BankId) (hv : (s.face f).berth.state = .vacant)
    (h : (s.face f).release.input = .deasserted ∨ ((s.tbs.bank b).tables.params.get f).isSome = false) :
    ∃ (k : Door → TurnKind) (line : DoorLine), (s.configured f = true → k = fun _ => .tunnel) ∧
      (s.adopt f b).blocks = { (s.blocks.modFace f fun x =>
      { x with doors := (rebuildDoors x.doors ((s.adopting f b).faceEntries f)).map fun d => d.begun (k d), line := line }) with
        gap := { s.gap with adopted := s.gap.adopted.set f true }
        tbs := s.tbs.adopted f b s.ms } := by
  obtain ⟨berth, release, -⟩ := bankHanded_records s f b
  obtain ⟨k, line, whole, blocks⟩ := bankHanded_blocks s f b
  have nothing : (s.bankHanded f b).testEvacuation f = s.bankHanded f b :=
    testEvacuation_nothing (h.elim (fun h => .inr (.inr (by rw [release, h]))) fun h => .inl (by rw [bankHanded_configured, h]))
  refine ⟨k, line, whole, ?_⟩
  rw [adopt_eq b (by rw [berth, hv]), nothing]
  change { ((s.bankHanded f b).raiseFace f .bankAdopted).blocks with tbs := s.tbs.adopted f b s.ms } = _
  rw [raiseFace_blocks, blocks]

/-- An ASSERTED input begins evacuation on a face that its new bank configures (R137). -/
theorem adopt_evacuates {s : State} {f : Face} (b : BankId) (hv : (s.face f).berth.state = .vacant)
    (hr : (s.face f).release.state = .normal) (hi : (s.face f).release.input = .asserted)
    (hk : ((s.tbs.bank b).tables.params.get f).isSome = true) :
    ((s.adopt f b).face f).release.state = .evacuating ∧ .evacuationStart ∈ (s.adopt f b).lif.flags.get (.face f) := by
  obtain ⟨berth, release, -⟩ := bankHanded_records s f b
  rw [adopt_eq b (by rw [berth, hv]), testEvacuation_begins (by rw [release, hi]) (by rw [bankHanded_configured, hk])
    (by simp [release, hr])]
  refine ⟨?_, (raiseFace_calm _ f .bankAdopted).flags _ _ (beginEvacuation_flag _ f)⟩
  rw [modTbs_face, raiseFace_release, (beginEvacuation_begun (bankHanded_distinct s f b)).state]

/-! ### The door line (R102) -/

/-- The doors rebuilt by the new bank's table: what the line follows. -/
theorem adopt_follows {s : State} {f : Face} (b : BankId) (hv : (s.face f).berth.state = .vacant) : ∃ r : State,
    ((s.adopt f b).face f).line = ((r.followLine f (s.configured f)).face f).line ∧
      (s.adopt f b).lif.replies = (r.followLine f (s.configured f)).lif.replies ∧
      (r.face f).doors = rebuildDoors (s.face f).doors ((s.adopting f b).faceEntries f) ∧
      ((s.adopt f b).face f).doors.map (fun d => d.drop) = (r.face f).doors.map (fun d => d.drop) ∧
      (r.face f).line = (s.face f).line ∧ r.lif.replies = s.lif.replies ∧ r.now = s.now ∧
      r.configured f = ((s.tbs.bank b).tables.params.get f).isSome := by
  obtain ⟨-, -, -, line, replies, drops⟩ := adopt_records b hv
  obtain ⟨followed, said⟩ := adoptionHanded_follows (s.adopting f b) f (s.configured f)
  obtain ⟨-, -, -, -, kept, -⟩ := face_records_of followed f
  obtain ⟨-, rebuilt, -, -, same, -⟩ := face_records_of (doorsRebuilt_blocks (s.adopting f b) f) f
  rw [Blocks.get_modFace, blocks_get] at rebuilt same
  have quiet := (doorsHandOn_calm ((s.adopting f b).modDoors f fun ds => rebuildDoors ds ((s.adopting f b).faceEntries f)) f).toQuiet
  refine ⟨(s.adopting f b).doorsRebuilt f, line.trans ?_, replies.trans said, rebuilt, ?_, same, quiet.replies, quiet.now, ?_⟩
  · exact kept.trans (congrArg FaceBlocks.line (blocks_get _ f))
  · rw [drops, rebuilt]
    rfl
  · rw [doorsRebuilt_configured, adopting_configured]

/-- The line of a face that stays configured goes on, with its exchange where that is not to a unit that leaves. -/
theorem adopt_line_on {s : State} {f : Face} (b : BankId) (hv : (s.face f).berth.state = .vacant)
    (hk : ((s.tbs.bank b).tables.params.get f).isSome = true) (hc : s.configured f = true) :
    let u := s.adopt f b
    let drops := (u.face f).doors.map fun d => d.drop
    ∃ l, (u.face f).line = { (s.face f).line.checked drops with tunnel := l } ∧
      ((s.face f).line.tunnel = none → l = none ∧ u.lif.replies = s.lif.replies) ∧
      ∀ x, (s.face f).line.tunnel = some x →
        (x.drop ∈ drops → l = some x ∧ u.lif.replies = s.lif.replies) ∧
        (x.drop ∉ drops → l = none ∧ u.lif.replies = s.lif.replies ++ [⟨0x30, x.tag, .refused .notNow, [], 0⟩]) := by
  intro u drops
  obtain ⟨r, line, replies, -, same, old, said, -, configured⟩ := adopt_follows b hv
  rw [hk] at configured
  rw [hc] at line replies
  have stays (h : ∀ x, (s.face f).line.tunnel = some x → x.drop ∈ drops) :
      (u.face f).line = (s.face f).line.checked drops ∧ u.lif.replies = s.lif.replies := by
    rw [followLine_on configured (by rw [old, ← same]; exact h)] at line replies
    exact ⟨by rw [line, turnChecked_line, old, ← same], replies.trans said⟩
  cases outstanding : (s.face f).line.tunnel with
  | none =>
    obtain ⟨line, replies⟩ := stays (by simp [outstanding])
    exact ⟨none, by rw [line, DoorLine.checked, outstanding], fun _ => ⟨rfl, replies⟩, nofun⟩
  | some x =>
    by_cases stands : x.drop ∈ drops
    · obtain ⟨line, replies⟩ := stays fun y hy => by rwa [← Option.some.inj (outstanding.symm.trans hy)]
      refine ⟨some x, by rw [line, DoorLine.checked, outstanding], nofun, fun y hy => ?_⟩
      rw [← Option.some.inj hy]
      exact ⟨fun _ => ⟨rfl, replies⟩, fun gone => absurd stands gone⟩
    · rw [followLine_cuts configured (old.symm ▸ outstanding) (same ▸ stands)] at line replies
      obtain ⟨-, -, -, -, ended, -⟩ := face_records_of (endTunnel_blocks (r.turnChecked f) f (.refused .notNow) []) f
      rw [Blocks.get_modFace, blocks_get] at ended
      refine ⟨none, ?_, nofun, fun y hy => ?_⟩
      · rw [line, ended]
        change { ((r.turnChecked f).face f).line with tunnel := none } = _
        rw [turnChecked_line, old, ← same]
      · rw [← Option.some.inj hy]
        refine ⟨fun stays => absurd stays stands, fun _ => ⟨rfl, ?_⟩⟩
        rw [replies, endTunnel_replies, turnChecked_replies, turnChecked_line, said, old]
        simp [DoorLine.checked, outstanding, Tunnel.ended]

/-- The line of a face that its new bank does not configure. -/
theorem adopt_line_off {s : State} {f : Face} (b : BankId) (hv : (s.face f).berth.state = .vacant)
    (hk : ((s.tbs.bank b).tables.params.get f).isSome = false) :
    let u := s.adopt f b
    (u.face f).line = { (s.face f).line.checked ((u.face f).doors.map fun d => d.drop) with
        running := (s.face f).line.running && (s.face f).line.turn.isSome, tunnel := none } ∧
      u.lif.replies = s.lif.replies ++ (s.face f).line.tunnel.toList.map (Tunnel.ended (.refused .notConfigured) []) := by
  intro u
  obtain ⟨r, line, replies, -, same, old, said, -, configured⟩ := adopt_follows b hv
  obtain ⟨blocks, ended⟩ := followLine_off (s := r) (f := f) (by rw [configured, hk]) (s.configured f)
  obtain ⟨-, -, -, -, stopped, -⟩ := face_records_of blocks f
  rw [Blocks.get_modFace, blocks_get] at stopped
  refine ⟨?_, by rw [replies, ended, said, old]⟩
  rw [line, stopped, same]
  simp only [FaceState.blocks, old]

/-- The line of a face that becomes configured starts: it finishes its running turn first, and otherwise polls a new unit at once. -/
theorem adopt_line_start {s : State} {f : Face} (b : BankId) (hv : (s.face f).berth.state = .vacant)
    (hk : ((s.tbs.bank b).tables.params.get f).isSome = true) (hc : s.configured f = false) :
    let u := s.adopt f b
    let drops := (u.face f).doors.map fun d => d.drop
    (u.face f).line.running = true ∧ (u.face f).line.tunnel = none ∧ u.lif.replies = s.lif.replies ∧
      ((s.face f).line.turn ≠ none → (u.face f).line = ((s.face f).line.checked drops).started) ∧
      ((s.face f).line.turn = none → (s.face f).doors = [] →
        (u.face f).line.rotation = leastDrop drops ∧ (u.face f).line.turn = (leastDrop drops).map (Turn.pollOf s.now)) := by
  intro u drops
  obtain ⟨r, line, replies, doors, same, old, said, now, configured⟩ := adopt_follows b hv
  rw [hk] at configured
  rw [hc, followLine_start configured, old] at line replies
  generalize hw : (r.turnChecked f).modLine f DoorLine.started = w at line replies
  have started : (w.face f).line = ((s.face f).line.checked drops).started := by
    rw [← hw, modLine_same, turnChecked_line, old, ← same]
  have standing : w.configured f = true ∧ (w.face f).doors = (r.face f).doors ∧ w.lif.replies = r.lif.replies ∧ w.now = r.now := by
    subst hw
    exact ⟨configured, by simp [turnChecked], rfl, rfl⟩
  obtain ⟨configured, kept, silent, clock⟩ := standing
  cases turn : (s.face f).line.turn with
  | some x =>
    rw [turn, if_pos (Option.isSome_some)] at line replies
    rw [line, started]
    exact ⟨rfl, rfl, replies.trans (silent.trans said), fun _ => rfl, nofun⟩
  | none =>
    rw [turn, if_neg (by simp)] at line replies
    obtain ⟨k, l, blocks, begins, -⟩ := nextTurn_blocks configured
    obtain ⟨-, -, -, -, next, -⟩ := face_records_of blocks f
    rw [Blocks.get_modFace] at next
    rw [started] at begins
    refine ⟨by rw [line, next]; exact begins.running, by rw [line, next]; exact begins.tunnel rfl,
      replies.trans ((nextTurn_steadfast w f).replies.trans (silent.trans said)), fun runs => absurd rfl runs, fun _ bare => ?_⟩
    have fresh : LinksFresh (w.face f) := by
      rw [LinksFresh, kept, doors, bare]
      exact rebuildDoors_nil _
    have polled := nextTurn_fresh fresh configured (by rw [started]; rfl) (by rw [started]; rfl)
    obtain ⟨-, -, -, -, poll, -⟩ := face_records_of polled f
    rw [Blocks.get_modFace, kept, ← same, clock, now] at poll
    rw [line, poll]
    exact ⟨rfl, rfl⟩

/-! ### The test for adoption (R177) -/

theorem testAdoption_adopts {s : State} {f : Face} {b : BankId} (hs : s.tbs.staged = some b) (ha : s.tbs.active.get f ≠ some b)
    (hv : (s.face f).berth.state = .vacant) (hr : (s.face f).release.state = .normal) : s.testAdoption f = s.adopt f b := by
  rw [testAdoption, hs]
  exact if_pos ⟨ha, hv, hr⟩

theorem testAdoption_occupied {s : State} {f : Face} (h : (s.face f).berth.state ≠ .vacant) : s.testAdoption f = s := by
  unfold testAdoption
  split
  · rfl
  · exact if_neg fun x => h x.2.1

end State

/-- A door after an adoption without an evacuation is the old record of its drop address or a new one, but for the first send of a
turn; on a face that was configured no turn begins. -/
theorem State.adopt_door {s : State} {f : Face} {b : BankId} {d : Door} (hv : (s.face f).berth.state = .vacant)
    (hi : (s.face f).release.input = .deasserted) (hd : d ∈ ((s.adopt f b).face f).doors) : ∃ e kind, d = Door.begun kind e ∧
      (s.configured f = true → d = e) ∧
      (∀ o, (s.face f).doors.find? (fun x => x.drop = d.drop) = some o → e = { o with number := d.number, recycleCount := 0 }) ∧
      ((s.face f).doors.find? (fun x => x.drop = d.drop) = none → e = Door.build d.number d.drop) := by
  obtain ⟨k, line, whole, blocks⟩ := adopt_blocks b hv (.inl hi)
  obtain ⟨-, doors, -⟩ := face_records_of blocks f
  rw [Blocks.get_modFace, blocks_get] at doors
  rw [doors] at hd
  obtain ⟨e, he, rfl⟩ := List.mem_map.1 hd
  obtain ⟨kept, new⟩ := mem_rebuildDoors he
  exact ⟨e, k e, rfl, fun hc => by rw [whole hc, Door.begun_tunnel], kept, new⟩

/-- What an adoption makes of the doors that it keeps. -/
theorem State.adopt_keeps_door {s : State} {f : Face} {b : BankId} {d o : Door} (hv : (s.face f).berth.state = .vacant)
    (hi : (s.face f).release.input = .deasserted) (hd : d ∈ ((s.adopt f b).face f).doors)
    (ho : (s.face f).doors.find? (fun x => x.drop = d.drop) = some o) :
    ∃ kind, d = Door.begun kind { o with number := d.number, recycleCount := 0 } ∧
      (s.configured f = true → d = { o with number := d.number, recycleCount := 0 }) := by
  obtain ⟨e, kind, begun, whole, kept, -⟩ := adopt_door hv hi hd
  have record := kept o ho
  exact ⟨kind, by rw [← record]; exact begun, fun hc => (whole hc).trans record⟩

/-- What an adoption makes of a door that is new. -/
theorem State.adopt_builds_door {s : State} {f : Face} {b : BankId} {d : Door} (hv : (s.face f).berth.state = .vacant)
    (hi : (s.face f).release.input = .deasserted) (hd : d ∈ ((s.adopt f b).face f).doors)
    (ho : (s.face f).doors.find? (fun x => x.drop = d.drop) = none) : d = Door.build d.number d.drop := by
  obtain ⟨e, kind, begun, -, -, new⟩ := adopt_door hv hi hd
  rw [new ho] at begun
  exact begun.trans (Door.modLink_begun rfl kind)

/-- Settles O16: the records after an adoption, and what its line and its evacuation input make of it. -/
theorem adoptionTakesTheStagedBank : Obligations.AdoptionTakesTheStagedBank := by
  refine ⟨fun s f => ⟨fun h => h.elim State.testAdoption_none State.testAdoption_occupied, fun b hs ha hv hr hi => ?_⟩,
    fun s f b hs ha hv hr => ?_⟩
  · rw [State.testAdoption_adopts hs ha hv hr]
    intro u tb
    obtain ⟨tbs, flag, -⟩ := State.adopt_records b hv
    obtain ⟨k, line, -, blocks⟩ := State.adopt_blocks b hv (.inl hi)
    obtain ⟨berth, doors, -, -, -, release⟩ := State.face_records_of blocks f
    rw [Blocks.get_modFace, State.blocks_get] at berth doors release
    refine ⟨?_, flag, ?_, ?_, fun d hd o ho => ?_, fun d hd ho => ?_, fun second => ?_, fun first => ?_, berth, release, ?_,
      congrArg Blocks.holds blocks, congrArg Blocks.aln blocks⟩
    · exact (congrArg TableStore.active tbs).trans (TableStore.adopted_active _ f b _)
    · exact (congrArg (fun x : Blocks => x.gap.adopted.get f) blocks).trans (PerFace.get_set_same _ f true)
    · have table : (u.face f).doors.map (fun d => (d.number, d.drop)) =
          (rebuildDoors (s.face f).doors ((s.adopting f b).faceEntries f)).map fun d => (d.number, d.drop) := by
        rw [doors, List.map_map]
        rfl
      rw [table, rebuildDoors_table, State.adopting_faceEntries, apply_ite (List.map _)]
      rfl
    · obtain ⟨kind, begun, -⟩ := State.adopt_keeps_door hv hi hd ho
      obtain ⟨-, lost, base, -⟩ := UnitLink.begun_keeps o.link kind
      rw [begun]
      exact ⟨rfl, rfl, rfl, rfl, rfl, base, lost, rfl⟩
    · rw [State.adopt_builds_door hv hi hd ho]
      exact ⟨rfl, rfl, rfl, rfl, rfl, rfl, rfl, rfl⟩
    · obtain ⟨staged, copy, state, other, tables, kept⟩ := TableStore.adopted_second second s.ms
      rw [show u.tbs = _ from tbs]
      exact ⟨staged, copy, state, other, tables, kept⟩
    · exact tbs.trans (TableStore.adopted_first first _)
    · exact (State.face_blocks_of blocks f.partner).trans
        ((Blocks.get_partner_modFace s.blocks f _).trans (State.blocks_get s f.partner))
  · rw [State.testAdoption_adopts hs ha hv hr]
    intro u keeps turn'
    obtain ⟨tbs, flag, berth, -, -, drops⟩ := State.adopt_records b hv
    have turn : ((s.face f).line.checked ((u.face f).doors.map fun d => d.drop)).turn = turn' := DoorLine.checked_turn _ _
    refine ⟨fun hi => ⟨fun d hd o ho => ?_, fun d hd ho => ?_⟩, fun hi => ⟨?_, flag, berth, fun hk => ?_, fun hk => ?_⟩,
      fun hk hc => ?_, fun hk hc => ?_, fun hk => ?_⟩
    · obtain ⟨kind, begun, whole⟩ := State.adopt_keeps_door hv hi hd ho
      obtain ⟨count, -, -, frames⟩ := UnitLink.begun_keeps o.link kind
      exact ⟨(congrArg Door.slotCommand begun).trans (Door.begun_slotCommand _ kind), (congrArg Door.timer begun :),
        (congrArg Door.evacOpened begun :), (congrArg Door.recycles begun :), (congrArg Door.obstructions begun :),
        (congrArg Door.superseded begun :),
        (congrArg (fun d => d.link.badFrames) begun).trans frames, (congrArg (fun d => d.link.badCount) begun).trans count, whole⟩
    · rw [State.adopt_builds_door hv hi hd ho]
      exact ⟨rfl, rfl, rfl, rfl, rfl, rfl, rfl, rfl⟩
    · exact (congrArg TableStore.active tbs).trans (TableStore.adopted_active _ f b _)
    · exact State.adopt_evacuates b hv hr hi hk
    · obtain ⟨k, line, -, blocks⟩ := State.adopt_blocks b hv (.inr hk)
      obtain ⟨-, -, -, -, -, release⟩ := State.face_records_of blocks f
      rwa [Blocks.get_modFace, State.blocks_get] at release
    · obtain ⟨l, line, silent, exchange⟩ := State.adopt_line_on b hv hk hc
      rw [show (u.face f).line = _ from line]
      refine ⟨rfl, turn, rfl, silent, fun x outstanding => ⟨fun stays => ?_, fun leaves => ?_⟩⟩
      · exact (exchange x outstanding).1 (List.mem_map.2 stays)
      · exact (exchange x outstanding).2 fun stays => by
          obtain ⟨d, hd, same⟩ := List.mem_map.1 stays
          exact leaves d hd same
    · obtain ⟨running, tunnel, replies, finishes, polls⟩ := State.adopt_line_start b hv hk hc
      refine ⟨running, tunnel, replies, fun runs => ?_, fun idle bare d hd least => ?_⟩
      · rw [show (u.face f).line = _ from finishes runs]
        exact ⟨turn, rfl⟩
      · obtain ⟨rotation, polled⟩ := polls idle bare
        rw [leastDrop_drops hd least] at rotation polled
        exact ⟨rotation, polled⟩
    · obtain ⟨line, replies⟩ := State.adopt_line_off b hv hk
      rw [show (u.face f).line = _ from line]
      refine ⟨?_, rfl, turn, rfl, fun silent => ?_, fun x outstanding => ?_⟩
      · rw [State.adopting_faceEntries, if_neg (Bool.eq_false_iff.1 hk)] at drops
        exact List.map_eq_nil_iff.1 drops
      · exact replies.trans (by simp [silent])
      · exact replies.trans (by simp [outstanding, Tunnel.ended])

end Sys2Proof.Machine
end

section
/-! PROOFS. What a good status leaves of a door's link record, and which reports it can bring: one manual release, or cleared marks (R60,
R72, R76, R134). -/

namespace Sys2Proof.Machine

/-- Two door records whose links differ in the slot at most. -/
def Door.SameLink (d e : Door) : Prop := { e.link with slot := d.link.slot } = d.link

namespace Door.SameLink

theorem refl (d : Door) : d.SameLink d := rfl

theorem trans {d e x : Door} (h : d.SameLink e) (k : e.SameLink x) : d.SameLink x :=
  have step : ({ x.link with slot := d.link.slot } : UnitLink) = { e.link with slot := d.link.slot } :=
    (congrArg (fun l : UnitLink => { l with slot := d.link.slot }) k :)
  step.trans h

theorem badCount {d e : Door} (h : d.SameLink e) : e.link.badCount = d.link.badCount := (congrArg UnitLink.badCount h :)

theorem lost {d e : Door} (h : d.SameLink e) : e.link.lost = d.link.lost := (congrArg UnitLink.lost h :)

theorem base {d e : Door} (h : d.SameLink e) : e.link.base = d.link.base := (congrArg UnitLink.base h :)

theorem badFrames {d e : Door} (h : d.SameLink e) : e.link.badFrames = d.link.badFrames := (congrArg UnitLink.badFrames h :)

end Door.SameLink

/-- An outcome that leaves the link record but for its slot, and reports nothing but cleared marks. -/
structure Door.Settles (d : Door) (o : DoorOutcome) : Prop where
  link : d.SameLink o.door
  reports : ∀ q ∈ o.reports, q.clears = true

namespace Door.Settles

/-- An outcome that reports nothing. -/
theorem silent {d : Door} {o : DoorOutcome} (h : d.SameLink o.door) (hr : o.reports = []) : d.Settles o := ⟨h, by simp [hr]⟩

theorem andThen {d : Door} {o : DoorOutcome} {g : Door → DoorOutcome} (h : d.Settles o) (hg : ∀ e : Door, e.Settles (g e)) :
    d.Settles (o.andThen g) :=
  ⟨h.link.trans (hg o.door).link, fun q hq => (List.mem_append.1 hq).elim (h.reports q) ((hg o.door).reports q)⟩

theorem after {d e : Door} {o : DoorOutcome} (h : d.SameLink e) (k : e.Settles o) : d.Settles o := ⟨h.trans k.link, k.reports⟩

theorem ite {d : Door} {a b : DoorOutcome} {c : Prop} {_ : Decidable c} (h : d.Settles a) (k : d.Settles b) :
    d.Settles (if c then a else b) := by
  split
  · exact h
  · exact k

theorem returned {d : Door} {o : DoorOutcome} (h : d.Settles o) : d.Settles o.returned := ⟨h.link, h.reports⟩

end Door.Settles

namespace Door

theorem enterClosed_settles (d : Door) : d.Settles d.enterClosed := by
  refine ⟨rfl, fun q hq => ?_⟩
  rcases List.mem_append.1 hq with h | h
  all_goals
    split at h
    · rw [List.mem_singleton.1 h]; rfl
    · exact absurd h List.not_mem_nil

theorem place_sameLink (d : Door) (ctx : DoorContext) (c : DoorCommand) (u : Urgency) : d.SameLink (d.place ctx c u) := by
  rw [place_eq]; rfl

theorem obstruct_settles (d : Door) (ctx : DoorContext) : d.Settles (d.obstruct ctx) := by
  refine .silent ?_ (d.obstruct_reports ctx)
  have counted : d.SameLink { d with obstructions := ctx.bump d.obstructions } := rfl
  unfold obstruct
  dsimp only
  split
  · exact counted.trans (place_sameLink _ ctx .openCmd .urgent)
  · exact counted.trans (place_sameLink _ ctx .haltCmd .urgent)

theorem enterClosing_settles (d : Door) (ctx : DoorContext) : d.Settles (d.enterClosing ctx) := by
  unfold enterClosing
  exact .ite (.after (e := d.goTo .closing) rfl (obstruct_settles _ ctx)) (.silent rfl rfl)

theorem takeSettled_settles (d : Door) (st : Status) : d.Settles (d.takeSettled st) := by
  unfold takeSettled
  split
  case h_3 => exact d.enterClosed_settles
  all_goals exact .silent rfl rfl

theorem acked_sameLink (d : Door) (ctx : DoorContext) (st : Status) : d.SameLink (d.acked ctx st) := by
  unfold acked
  split
  · exact .refl d
  · split <;> exact rfl

theorem mapPosition_settles (d : Door) (ctx : DoorContext) (st : Status) : d.Settles (d.mapPosition ctx st) := by
  unfold mapPosition
  split
  case h_1 | h_7 | h_8 | h_9 => exact d.enterClosed_settles
  case h_10 => exact .ite (.silent rfl rfl) (.silent rfl rfl)
  all_goals exact .silent rfl rfl

theorem mapStatus_settles (d : Door) (ctx : DoorContext) (st : Status) : d.Settles (d.mapStatus ctx st) := by
  unfold mapStatus
  exact .ite (.ite (.silent rfl rfl) (.silent rfl rfl))
    (.andThen (d.mapPosition_settles ctx st) fun e => .ite (e.obstruct_settles ctx) (.silent rfl rfl))

theorem localRule_settles (d : Door) (st : Status) : d.Settles (d.localRule st) := by
  unfold localRule
  exact .ite (.ite (.silent rfl rfl) (.silent rfl rfl))
    (.ite (.after (e := { d with isolation := .none }) rfl (takeSettled_settles _ st)) (.silent rfl rfl))

theorem returnLatched_settles (d : Door) (ctx : DoorContext) (st : Status) : d.Settles (d.returnLatched ctx st) := by
  unfold returnLatched
  exact .ite (.ite (.after (e := d.setSlot none) rfl (enterClosed_settles _)) (d.enterClosing_settles ctx)) (.silent rfl rfl)

theorem returnByCommand_settles (d : Door) (ctx : DoorContext) (st : Status) : d.Settles (d.returnByCommand ctx st) := by
  unfold returnByCommand
  split
  · exact d.takeSettled_settles st
  · exact .ite (.silent rfl rfl) (.silent rfl rfl)
  · exact .ite (.after (e := d.setSlot none) rfl (enterClosed_settles _)) (d.enterClosing_settles ctx)
  · exact .silent rfl rfl

/-- A manual release is the one report of its event; any other event of a status settles. -/
theorem returnDecision_latches_or_settles (d : Door) (ctx : DoorContext) (st : Status) :
    d.SameLink (d.returnDecision ctx st).door ∧ (d.returnDecision ctx st).reports = [.latchSet] ∨
      d.Settles (d.returnDecision ctx st) := by
  by_cases hl : d.latched = true
  · exact .inr (returnDecision_latched ctx st hl ▸ (d.returnLatched_settles ctx st).returned)
  rw [Bool.not_eq_true] at hl
  by_cases ha : st.releaseActuated = true
  · exact .inl (by rw [returnDecision_actuated ctx ha hl]; exact ⟨rfl, rfl⟩)
  rw [Bool.not_eq_true] at ha
  by_cases hs : st.settled = .isolated
  · exact .inr (returnDecision_isolated ctx ha hl hs ▸ (d.takeSettled_settles st).returned)
  · have ended : d.SameLink d.localEnded := rfl
    exact .inr (returnDecision_unlatched ctx ha hl hs ▸
      (Settles.ite (.after ended (takeSettled_settles _ st)) (.after ended (returnByCommand_settles _ ctx st))).returned)

theorem takeNoted_latches_or_settles (d : Door) (ctx : DoorContext) (st : Status) :
    d.SameLink (d.takeNoted ctx st).door ∧ (d.takeNoted ctx st).reports = [.latchSet] ∨ d.Settles (d.takeNoted ctx st) := by
  unfold takeNoted
  split
  · exact .inr (.silent rfl rfl)
  split
  · exact .inl ⟨rfl, rfl⟩
  · exact .inr (.andThen (d.localRule_settles st) fun e => .ite (.silent rfl rfl) (e.mapStatus_settles ctx st))

/-- A good status brings one manual release and nothing else, or nothing but cleared marks; the link record stands but for its slot. -/
theorem takeStatus_latches_or_settles (d : Door) (ctx : DoorContext) (st : Status) (returned : Bool) :
    d.SameLink (d.takeStatus ctx st returned).door ∧ (d.takeStatus ctx st returned).reports = [.latchSet] ∨
      d.Settles (d.takeStatus ctx st returned) := by
  have noted : d.SameLink { d with lastStatus := some st } := rfl
  by_cases lost : d.state = .lost
  · have acked := acked_sameLink (({ d with lastStatus := some st } : Door).returnDecision ctx st).door ctx st
    rw [takeStatus_lost ctx st returned lost]
    rcases returnDecision_latches_or_settles { d with lastStatus := some st } ctx st with ⟨link, reports⟩ | settles
    · exact .inl ⟨(noted.trans link).trans acked, reports⟩
    · exact .inr ⟨(noted.trans settles.link).trans acked, settles.reports⟩
  · have acked := noted.trans (acked_sameLink { d with lastStatus := some st } ctx st)
    rw [takeStatus_present ctx st returned lost]
    rcases takeNoted_latches_or_settles (({ d with lastStatus := some st } : Door).acked ctx st) ctx st with ⟨link, reports⟩ | settles
    · exact .inl ⟨acked.trans link, reports⟩
    · exact .inr ⟨acked.trans settles.link, settles.reports⟩

theorem takeStatus_sameLink (d : Door) (ctx : DoorContext) (st : Status) (returned : Bool) :
    d.SameLink (d.takeStatus ctx st returned).door :=
  (d.takeStatus_latches_or_settles ctx st returned).elim (fun h => h.1) fun h => h.link

end Door

end Sys2Proof.Machine
end

section
/-! PROOFS. The end of a turn that a good frame answers: the release set that a status empties, the exchange that it ends, and the turn that
begins next (R81, R88, R98, R134, R146). -/

namespace Sys2Proof.Machine

/-! ### The release record (R132, R134) -/

/-- Cleared marks change the release set alone. -/
theorem clears_fold {n : Nat} {l : List DoorReport} (h : ∀ q ∈ l, q.clears = true) (r : Release) :
    ∃ set, l.foldl (fun r q => State.releaseAfter r n q) r = { r with set := set } := by
  induction l generalizing r with
  | nil => exact ⟨r.set, rfl⟩
  | cons q rest ih =>
    obtain ⟨set, folded⟩ := ih (fun q hq => h q (List.mem_cons_of_mem _ hq)) (State.releaseAfter r n q)
    have clears := h q List.mem_cons_self
    refine ⟨set, folded.trans ?_⟩
    cases q with
    | latchSet | evacSet => cases clears
    | latchCleared | evacCleared => rfl

/-- What a cleared mark leaves of a release set is marked, and was in it. -/
theorem mem_clearMark {n : Nat} {a b : Bool} {l : List ReleaseMember} {m : ReleaseMember} (h : m ∈ clearMark n a b l)
    (hn : ∀ m ∈ l, m.door = n) : (m.latched = true ∨ m.evacOpened = true) ∧
      ∃ o ∈ l, m.door = n ∧ m.latched = (o.latched && !a) ∧ m.evacOpened = (o.evacOpened && !b) := by
  obtain ⟨hm, marked⟩ := List.mem_filter.1 h
  obtain ⟨o, ho, rfl⟩ := List.mem_map.1 hm
  rw [if_pos (hn o ho)] at marked ⊢
  exact ⟨by simpa using marked, o, ho, hn o ho, rfl, rfl⟩

/-- A release set whose every mark is cleared is empty, where one is cleared at all or each member was marked (R132). -/
theorem clears_fold_empty {n : Nat} {l : List DoorReport} (h : ∀ q ∈ l, q.clears = true) (r : Release)
    (hm : ∀ m ∈ r.set, m.door = n ∧ (m.latched = true → DoorReport.latchCleared ∈ l) ∧
      (m.evacOpened = true → DoorReport.evacCleared ∈ l))
    (hl : l ≠ [] ∨ ∀ m ∈ r.set, m.latched = true ∨ m.evacOpened = true) :
    (l.foldl (fun r q => State.releaseAfter r n q) r).set = [] := by
  induction l generalizing r with
  | nil =>
    have marked := hl.resolve_left fun x => x rfl
    refine List.eq_nil_iff_forall_not_mem.2 fun m m_in => ?_
    obtain ⟨-, latched, evac⟩ := hm m m_in
    rcases marked m m_in with x | x
    · exact absurd (latched x) List.not_mem_nil
    · exact absurd (evac x) List.not_mem_nil
  | cons q rest ih =>
    have tail : ∀ q ∈ rest, q.clears = true := fun q hq => h q (List.mem_cons_of_mem _ hq)
    have clears := h q List.mem_cons_self
    have own : ∀ m ∈ r.set, m.door = n := fun m m_in => (hm m m_in).1
    refine ih tail _ (fun m m_in => ?_) (.inr fun m m_in => ?_)
    · cases q with
      | latchSet | evacSet => cases clears
      | latchCleared =>
        obtain ⟨-, o, ho, door, latched, evac⟩ := mem_clearMark m_in own
        obtain ⟨-, -, cleared⟩ := hm o ho
        refine ⟨door, fun x => by simp [latched] at x, fun x => ?_⟩
        exact (List.mem_cons.1 (cleared (by simpa [evac] using x))).resolve_left nofun
      | evacCleared =>
        obtain ⟨-, o, ho, door, latched, evac⟩ := mem_clearMark m_in own
        obtain ⟨-, cleared, -⟩ := hm o ho
        refine ⟨door, fun x => ?_, fun x => by simp [evac] at x⟩
        exact (List.mem_cons.1 (cleared (by simpa [latched] using x))).resolve_left nofun
    · cases q with
      | latchSet | evacSet => cases clears
      | latchCleared | evacCleared => exact (mem_clearMark m_in own).1

namespace State

theorem inOrder_clears {l : List DoorReport} (h : ∀ q ∈ l, q.clears = true) : inOrder l = l := by
  rw [inOrder, List.filter_eq_nil_iff.2 fun q hq => by simp [h q hq], List.filter_eq_self.2 h, List.nil_append]

/-- A manual release raises its event (R134). -/
theorem applyDoor_latch_flag {s : State} {f : Face} {n : Nat} {d : Door} (hd : s.findDoor f n = some d)
    (g : DoorContext → Door → DoorOutcome) (h : (g (s.doorContext f n) d).reports = [.latchSet]) :
    .manualRelease ∈ (s.applyDoor f n g).lif.flags.get (.face f) := by
  simp only [applyDoor, hd, h]
  refine (((doorsHandOn_calm _ f).trans (raiseAll_calm _ f _)).trans (takeReports_calm _ f n _)).flags _ _ ?_
  exact raise_flag _ (.face f) .manualRelease

/-! ### The exchange (R98) -/

theorem tunnelAnswered_ends {s : State} {f : Face} {x : Turn} {y : Tunnel} (hk : x.kind = .tunnel)
    (ht : (s.face f).line.tunnel = some y) (hs : y.sent = true) (reply : Option (List Byte)) :
    s.tunnelAnswered f x reply = s.endTunnel f .done (u8 (reply.getD []).length ++ reply.getD []) :=
  if_pos ⟨hk, by simp [ht, hs]⟩

theorem tunnelAnswered_other {s : State} {f : Face} {x : Turn} (hk : x.kind ≠ .tunnel) (reply : Option (List Byte)) :
    s.tunnelAnswered f x reply = s := if_neg fun h => hk h.1

/-- The exchange that a good frame ends is over, and its reply given. -/
theorem tunnelAnswered_done {s : State} {f : Face} {x : Turn} {y : Tunnel} (hk : x.kind = .tunnel)
    (ht : (s.face f).line.tunnel = some y) (hs : y.sent = true) (reply : Option (List Byte)) :
    ((s.tunnelAnswered f x reply).face f).line.tunnel = none ∧ (s.tunnelAnswered f x reply).lif.replies =
      s.lif.replies ++ [⟨0x30, y.tag, .done, u8 (reply.getD []).length ++ reply.getD [], 0⟩] := by
  rw [tunnelAnswered_ends hk ht hs]
  obtain ⟨-, -, -, -, ended, -⟩ := face_records_of (endTunnel_blocks s f .done (u8 (reply.getD []).length ++ reply.getD [])) f
  rw [Blocks.get_modFace] at ended
  exact ⟨by rw [ended], by rw [endTunnel_replies, ht]; rfl⟩

theorem endTunnel_lif (s : State) (f : Face) (r : Result) (data : List Byte) :
    (s.endTunnel f r data).lif.flags = s.lif.flags ∧ (s.endTunnel f r data).lif.intake = s.lif.intake ∧
      (s.endTunnel f r data).now = s.now := by
  unfold endTunnel
  split <;> exact ⟨rfl, rfl, rfl⟩

/-- An answered exchange touches the line's exchange and the replies alone. -/
theorem tunnelAnswered_keeps (s : State) (f : Face) (x : Turn) (reply : Option (List Byte)) :
    (∃ l, (s.tunnelAnswered f x reply).blocks = s.blocks.modFace f fun b => { b with line := l }) ∧
      (s.tunnelAnswered f x reply).lif.flags = s.lif.flags ∧ (s.tunnelAnswered f x reply).lif.intake = s.lif.intake ∧
      (s.tunnelAnswered f x reply).now = s.now := by
  unfold tunnelAnswered
  split
  · refine ⟨⟨{ (s.face f).line with tunnel := none }, ?_⟩, endTunnel_lif s f _ _⟩
    rw [endTunnel_blocks]
    exact Blocks.modFace_congr (by rw [blocks_get]; rfl)
  · exact ⟨⟨(s.face f).line, (Blocks.modFace_same (by rw [blocks_get]; rfl)).symm⟩, rfl, rfl, rfl⟩

end State

end Sys2Proof.Machine
end

section
/-! PROOFS. O39: the layout of a good answer on a door line (R87, R199). -/

namespace Sys2Proof.Machine

/-! ### The second byte of a status frame (R199) -/

theorem positionOfCode_iff (n : Nat) (p : Position) : positionOfCode n = some p ↔ n = p.code := by
  constructor
  · intro known
    unfold positionOfCode at known
    split at known
    case h_7 => cases known
    all_goals
      obtain rfl := Option.some.inj known
      rfl
  · rintro rfl
    cases p <;> rfl

/-- The position, the tunnel-reply bit and the flags of a status as one byte. -/
def Status.flagByte (st : Status) (reply : Bool) : Nat :=
  st.position.code + 8 * reply.toNat + 16 * st.obstruction.toNat + 32 * st.releaseActuated.toNat + 64 * st.localIsolation.toNat +
    128 * st.driveFault.toNat

theorem flagByte_iff (b : Byte) (st : Status) (reply : Bool) : b.toNat = st.flagByte reply ↔
    positionOfCode (b.toNat % 8) = some st.position ∧ b.getLsbD 3 = reply ∧ b.getLsbD 4 = st.obstruction ∧
      b.getLsbD 5 = st.releaseActuated ∧ b.getLsbD 6 = st.localIsolation ∧ b.getLsbD 7 = st.driveFault := by
  have bit (i : Nat) (x : Bool) : b.getLsbD i = x ↔ b.toNat / 2 ^ i % 2 = x.toNat := by
    rw [BitVec.getLsbD, ← Nat.toNat_testBit]
    cases x <;> simp
  have range : st.position.code < 6 := by cases st.position <;> decide
  have small := b.isLt
  rw [positionOfCode_iff, bit, bit, bit, bit, bit]
  unfold Status.flagByte
  have := reply.toNat_le
  have := st.obstruction.toNat_le
  have := st.releaseActuated.toNat_le
  have := st.localIsolation.toNat_le
  have := st.driveFault.toNat_le
  omega

/-! ### The frame as its bytes (R87, R199) -/

/-- A frame whose bytes are known is judged by its layout. -/
theorem judgeFrame_good_iff (drop : Nat) (b0 b1 b2 c : Byte) (mid : List Byte) (ok : Bool) (st : Status) (reply : Option (List Byte)) :
    judgeFrame drop (b0 :: b1 :: b2 :: (mid ++ [c])) ok = .good st reply ↔
      ok = true ∧ c = crc8 (b0 :: b1 :: b2 :: mid) ∧ b0.toNat = drop ∧ b2.toNat = st.echo.toNat ∧
        reply = (if b1.getLsbD 3 then some mid.tail else none) ∧ (reply.getD []).length ≤ 32 ∧
        b1.toNat = st.flagByte reply.isSome := by
  have body : (b0 :: b1 :: b2 :: (mid ++ [c])).dropLast = b0 :: b1 :: b2 :: mid := by
    rw [← List.cons_append, ← List.cons_append, ← List.cons_append, List.dropLast_concat]
  have last : (b0 :: b1 :: b2 :: (mid ++ [c])).getLastD 0 = c := by
    rw [← List.cons_append, ← List.cons_append, ← List.cons_append, List.getLastD_concat]
  have data : (mid ++ [c]).tail.dropLast = mid.tail := by cases mid <;> simp
  have echo : b2.toNat < 16 ∧ BitVec.ofNat 4 b2.toNat = st.echo ↔ b2.toNat = st.echo.toNat := by
    have bound := st.echo.isLt
    constructor
    · rintro ⟨small, same⟩
      rw [← same, BitVec.toNat_ofNat, Nat.mod_eq_of_lt small]
    · intro same
      exact ⟨by omega, BitVec.eq_of_toNat_eq (by rw [BitVec.toNat_ofNat, same, Nat.mod_eq_of_lt bound])⟩
  unfold judgeFrame
  simp only [body, last, data]
  have replies : (if b1.getLsbD 3 then some mid.tail else none).isSome = b1.getLsbD 3 := by cases b1.getLsbD 3 <;> rfl
  generalize (if b1.getLsbD 3 then some mid.tail else none) = r at replies ⊢
  constructor
  · intro good
    split at good
    next p position =>
      split at good
      next passes =>
        obtain ⟨parity, crc, address, small, short⟩ := passes
        obtain ⟨rfl, rfl⟩ := Answer.good.inj good
        exact ⟨parity, crc.symm, address, echo.1 ⟨small, rfl⟩, rfl, short,
          (flagByte_iff b1 _ _).2 ⟨position, replies.symm, rfl, rfl, rfl, rfl⟩⟩
      · cases good
    · cases good
  · rintro ⟨parity, crc, address, seq, rfl, short, flags⟩
    obtain ⟨position, -, obstruction, actuated, isolation, fault⟩ := (flagByte_iff b1 st _).1 flags
    obtain ⟨small, same⟩ := echo.2 seq
    rw [position]
    dsimp only
    rw [if_pos ⟨parity, crc.symm, address, small, short⟩, obstruction, actuated, isolation, fault, same]

/-- A complete frame is good or bad. -/
theorem judgeFrame_complete (drop : Nat) (frame : List Byte) (ok : Bool) : judgeFrame drop frame ok ≠ .incomplete := by
  unfold judgeFrame
  split
  next b0 b1 b2 rest =>
    dsimp only
    generalize (if b1.getLsbD 3 then some rest.tail.dropLast else none) = reply
    split
    · split <;> exact Answer.noConfusion
    · exact Answer.noConfusion
  · exact Answer.noConfusion

/-! ### The frame among the bytes of an answer (R81, R199) -/

theorem judgeAnswer_plain {b1 : Byte} (h : b1.getLsbD 3 = false) (drop : Nat) (b0 b2 c : Byte) (more : List Byte) (ok : Bool) :
    judgeAnswer drop (b0 :: b1 :: b2 :: c :: more) ok = judgeFrame drop (b0 :: b1 :: b2 :: ([] ++ [c])) ok := by
  have length : answerLength (b0 :: b1 :: b2 :: c :: more) = some 4 := if_neg (Bool.eq_false_iff.1 h)
  rw [judgeAnswer, length]
  dsimp only
  rw [if_neg (by simp only [List.length_cons]; omega)]
  rfl

theorem judgeAnswer_reply {b1 n : Byte} {r : List Byte} (h : b1.getLsbD 3 = true) (hn : r.length = n.toNat) (drop : Nat) (b0 b2 c : Byte)
    (more : List Byte) (ok : Bool) :
    judgeAnswer drop (b0 :: b1 :: b2 :: n :: (r ++ c :: more)) ok = judgeFrame drop (b0 :: b1 :: b2 :: (n :: r ++ [c])) ok := by
  have frame : (b0 :: b1 :: b2 :: n :: (r ++ c :: more)).take (5 + n.toNat) = b0 :: b1 :: b2 :: (n :: r ++ [c]) := by
    rw [← hn, show 5 + r.length = r.length + 1 + 4 by omega]
    simp [List.take_append]
  have long : ¬(b0 :: b1 :: b2 :: n :: (r ++ c :: more)).length < 5 + n.toNat := by
    simp only [List.length_cons, List.length_append]
    omega
  have length : answerLength (b0 :: b1 :: b2 :: n :: (r ++ c :: more)) = some (5 + n.toNat) := if_pos h
  rw [judgeAnswer, length]
  dsimp only
  rw [if_neg long, frame]

/-- Too few bytes for a frame. -/
def ShortAnswer (bytes : List Byte) : Prop :=
  bytes.length < 4 ∨ ∃ b1, bytes[1]? = some b1 ∧ b1.getLsbD 3 = true ∧ ∀ n, bytes[3]? = some n → bytes.length < 5 + n.toNat

/-- The bytes of an answer begin with a frame without a reply, or with one with a reply, or are too few. -/
theorem answer_shapes (bytes : List Byte) : ShortAnswer bytes ∨
    (∃ b0 b1 b2 c more, bytes = b0 :: b1 :: b2 :: c :: more ∧ b1.getLsbD 3 = false) ∨
    ∃ b0 b1 b2 n r c more, bytes = b0 :: b1 :: b2 :: n :: (r ++ c :: more) ∧ b1.getLsbD 3 = true ∧ r.length = n.toNat := by
  match bytes with
  | [] | [_] | [_, _] | [_, _, _] => exact .inl (.inl (by simp))
  | b0 :: b1 :: b2 :: n :: rest =>
    cases h : b1.getLsbD 3 with
    | false => exact .inr (.inl ⟨b0, b1, b2, n, rest, rfl, h⟩)
    | true =>
      by_cases long : n.toNat < rest.length
      · refine .inr (.inr ⟨b0, b1, b2, n, rest.take n.toNat, rest[n.toNat], rest.drop (n.toNat + 1), ?_, h, ?_⟩)
        · rw [List.getElem_cons_drop, List.take_append_drop]
        · rw [List.length_take, Nat.min_eq_left long.le]
      · refine .inl (.inr ⟨b1, rfl, h, fun m hm => ?_⟩)
        obtain rfl : n = m := Option.some.inj hm
        simp only [List.length_cons]
        omega

theorem judgeAnswer_short {bytes : List Byte} (h : ShortAnswer bytes) (drop : Nat) (ok : Bool) :
    judgeAnswer drop bytes ok = .incomplete := by
  match bytes with
  | [] | [_] | [_, _] => rfl
  | b0 :: b1 :: b2 :: rest =>
    rcases h with few | ⟨b, hb, bit, short⟩
    · obtain rfl : rest = [] := List.eq_nil_of_length_eq_zero (by simp only [List.length_cons] at few; omega)
      cases bit : b1.getLsbD 3 with
      | false =>
        have length : answerLength [b0, b1, b2] = some 4 := if_neg (Bool.eq_false_iff.1 bit)
        rw [judgeAnswer, length]
        exact if_pos few
      | true =>
        have length : answerLength [b0, b1, b2] = none := if_pos bit
        rw [judgeAnswer, length]
    · obtain rfl : b1 = b := Option.some.inj hb
      cases rest with
      | nil =>
        have length : answerLength [b0, b1, b2] = none := if_pos bit
        rw [judgeAnswer, length]
      | cons n rest =>
        have length : answerLength (b0 :: b1 :: b2 :: n :: rest) = some (5 + n.toNat) := if_pos bit
        rw [judgeAnswer, length]
        exact if_pos (short n rfl)

theorem judgeAnswer_incomplete_iff (drop : Nat) (bytes : List Byte) (ok : Bool) :
    judgeAnswer drop bytes ok = .incomplete ↔ ShortAnswer bytes := by
  refine ⟨fun incomplete => ?_, fun short => judgeAnswer_short short drop ok⟩
  rcases answer_shapes bytes with short | ⟨b0, b1, b2, c, more, rfl, h⟩ | ⟨b0, b1, b2, n, r, c, more, rfl, h, hn⟩
  · exact short
  · exact absurd (judgeAnswer_plain h drop b0 b2 c more ok ▸ incomplete) (judgeFrame_complete _ _ _)
  · exact absurd (judgeAnswer_reply h hn drop b0 b2 c more ok ▸ incomplete) (judgeFrame_complete _ _ _)

/-- The bytes of a frame before its CRC: the reply follows its length. -/
def replyBytes : Option (List Byte) → List Byte
  | none => []
  | some r => BitVec.ofNat 8 r.length :: r

/-- A good answer lays its status out. -/
theorem judgeAnswer_good_iff (drop : Nat) (bytes : List Byte) (ok : Bool) (st : Status) (reply : Option (List Byte)) :
    judgeAnswer drop bytes ok = .good st reply ↔ ok = true ∧ (reply.getD []).length ≤ 32 ∧ ∃ b0 b1 b2 more,
      bytes = b0 :: b1 :: b2 :: (replyBytes reply ++ crc8 (b0 :: b1 :: b2 :: replyBytes reply) :: more) ∧ b0.toNat = drop ∧
        b2.toNat = st.echo.toNat ∧ b1.toNat = st.flagByte reply.isSome := by
  constructor
  · intro good
    rcases answer_shapes bytes with short | ⟨b0, b1, b2, c, more, rfl, h⟩ | ⟨b0, b1, b2, n, r, c, more, rfl, h, hn⟩
    · rw [judgeAnswer_short short] at good
      cases good
    · rw [judgeAnswer_plain h, judgeFrame_good_iff, if_neg (Bool.eq_false_iff.1 h)] at good
      obtain ⟨parity, rfl, address, seq, rfl, short, flags⟩ := good
      exact ⟨parity, short, b0, b1, b2, more, rfl, address, seq, flags⟩
    · rw [judgeAnswer_reply h hn, judgeFrame_good_iff, if_pos h] at good
      obtain ⟨parity, rfl, address, seq, rfl, short, flags⟩ := good
      have length : BitVec.ofNat 8 r.length = n := by rw [hn, BitVec.ofNat_toNat, BitVec.setWidth_eq]
      refine ⟨parity, short, b0, b1, b2, more, ?_, address, seq, flags⟩
      simp only [List.tail_cons, replyBytes, length, List.cons_append]
  · rintro ⟨parity, short, b0, b1, b2, more, rfl, address, seq, flags⟩
    obtain ⟨-, bit, -⟩ := (flagByte_iff b1 st _).1 flags
    cases reply with
    | none =>
      exact (judgeAnswer_plain bit drop b0 b2 _ more ok).trans ((judgeFrame_good_iff drop b0 b1 b2 _ [] ok st none).2
        ⟨parity, rfl, address, seq, (if_neg (Bool.eq_false_iff.1 bit)).symm, short, flags⟩)
    | some r =>
      have count : r.length = (BitVec.ofNat 8 r.length).toNat := by
        have few : r.length ≤ 32 := short
        rw [BitVec.toNat_ofNat, Nat.mod_eq_of_lt (by omega)]
      exact (judgeAnswer_reply bit count drop b0 b2 _ more ok).trans
        ((judgeFrame_good_iff drop b0 b1 b2 _ (BitVec.ofNat 8 r.length :: r) ok st (some r)).2
          ⟨parity, rfl, address, seq, (if_pos bit).symm, short, flags⟩)

end Sys2Proof.Machine
end

section
/-! PROOFS. O39: the good frame that answers a turn, as a step (R70, R81, R87, R88, R92, R95, R98, R134, R146). -/

namespace Sys2Proof.Machine

/-! ### The door that a good frame reaches -/

/-- A change of the records that keeps every number finds the changed record under the same number. -/
theorem find?_number_map {h : Door → Door} (hn : ∀ d, (h d).number = d.number) (ds : List Door) (n : Nat) :
    (ds.map h).find? (fun d => d.number = n) = (ds.find? fun d => d.number = n).map h := by
  rw [List.find?_map]
  simp only [Function.comp_def, hn]

/-- The records with the one of a door replaced. -/
def putRecord (d e : Door) (y : Door) : Door := if y.number = d.number then e else y

theorem putRecord_same (d e : Door) : putRecord d e d = e := if_pos rfl

theorem putRecord_other {d y : Door} (e : Door) (h : y.number ≠ d.number) : putRecord d e y = y := if_neg h

theorem putRecord_number {d e : Door} (he : e.number = d.number) (y : Door) : (putRecord d e y).number = y.number := by
  unfold putRecord
  split
  next h => rw [he, h]
  · rfl

/-- The record of a door replaced once more. -/
theorem putRecord_putRecord {d e : Door} (he : e.number = d.number) (x : Door) (y : Door) :
    putRecord d x (putRecord d e y) = putRecord d x y := by
  by_cases h : y.number = d.number
  · simp [putRecord, h, he]
  · rw [putRecord_other e h]

/-- The one door of a drop address is the one of its number. -/
theorem map_drop_eq {ds : List Door} {d : Door} (hd : d ∈ ds) (hn : (ds.map fun y => y.number).Nodup)
    (hp : (ds.map fun y => y.drop).Nodup) (g : Door → Door) :
    (ds.map fun y => if y.drop = d.drop then g y else y) = ds.map (putRecord d (g d)) := by
  refine List.map_congr_left fun y hy => ?_
  by_cases same : y = d
  · rw [same, putRecord_same, if_pos rfl]
  · rw [putRecord_other _ fun h => same (List.inj_on_of_nodup_map hn hy hd h), if_neg fun h => same (List.inj_on_of_nodup_map hp hy hd h)]

/-- The state in which a status reaches its door: the door's record is `e`, and beside that nothing of the part has changed. -/
structure Reached (f : Face) (d e : Door) (s p : State) : Prop where
  number : e.number = d.number
  blocks : p.blocks = s.blocks.modFace f fun b => { b with doors := b.doors.map (putRecord d e) }
  quiet : Quiet s p

namespace Reached

variable {f : Face} {d e : Door} {s p : State}

theorem findDoor (h : Reached f d e s p) (hd : s.findDoor f d.number = some d) : p.findDoor f d.number = some e := by
  obtain ⟨-, doors, -⟩ := State.face_records_of h.blocks f
  rw [Blocks.get_modFace, State.blocks_get] at doors
  have found : (s.face f).doors.find? (fun y => y.number = d.number) = some d := hd
  rw [State.findDoor, doors]
  change ((s.face f).doors.map (putRecord d e)).find? _ = _
  rw [find?_number_map (putRecord_number h.number), found, Option.map_some, putRecord_same]

theorem release (h : Reached f d e s p) : (p.face f).release = (s.face f).release := by
  obtain ⟨-, -, -, -, -, release⟩ := State.face_records_of h.blocks f
  rwa [Blocks.get_modFace, State.blocks_get] at release

theorem doorContext (h : Reached f d e s p) (n : Nat) : p.doorContext f n = s.doorContext f n :=
  State.doorContext_eq f n h.quiet (congrArg Blocks.tbs h.blocks) (congrArg Blocks.gap h.blocks) (by rw [h.release])

/-- One event of the door then makes its record the outcome's. -/
theorem applyDoor_blocks (h : Reached f d e s p) (hd : s.findDoor f d.number = some d) (g : DoorContext → Door → DoorOutcome) :
    let o := g (s.doorContext f d.number) e
    (p.applyDoor f d.number g).blocks = s.blocks.modFace f fun b =>
      { b with
        doors := b.doors.map (putRecord d o.door)
        release := (State.inOrder o.reports).foldl (fun r q => State.releaseAfter r d.number q) b.release } := by
  intro o
  rw [State.applyDoor_blocks (h.findDoor hd), h.blocks, Blocks.modFace_modFace, h.doorContext]
  refine Blocks.modFace_congr ?_
  simp only [List.map_map]
  have once : (fun y => if y.number = d.number then o.door else y) ∘ putRecord d e = putRecord d o.door :=
    funext (putRecord_putRecord h.number o.door)
  rw [← once]

end Reached

namespace State

/-! ### What follows the status (R81, R88, R98) -/

/-- The end of a turn answered by a good frame, from the state `s` of the command to its last state `u`: the status leaves the door records
`ds`, the release record `rel` and the state `r`; the exchange that it answers ends, and the next turn begins. -/
structure TurnEnds (f : Face) (x : Turn) (reply : Option (List Byte)) (ds : List Door) (rel : Release) (s r u : State) : Prop where
  intake : u.lif.intake = s.lif.intake
  doors : ∃ k : Door → TurnKind, (u.face f).doors = ds.map fun d => d.begun (k d)
  flags : ∀ q ∈ r.lif.flags.get (.face f), q ∈ u.lif.flags.get (.face f)
  release : (u.face f).release = rel
  turn : ∃ x', (u.face f).line.turn = some x' ∧ s.now + 800 < x'.windowEnd
  exchange : x.kind = .tunnel → ∀ y, (s.face f).line.tunnel = some y → y.sent = true → (u.face f).line.tunnel = none ∧
    u.lif.replies = s.lif.replies ++ [⟨0x30, y.tag, .done, u8 (reply.getD []).length ++ reply.getD [], 0⟩]
  silent : x.kind ≠ .tunnel → u.lif.replies = s.lif.replies
  berth : (u.face f).berth = (s.face f).berth
  deferral : (u.face f).deferral = (s.face f).deferral
  holds : u.holds = s.holds
  aln : u.aln = s.aln
  gap : u.gap = s.gap
  tbs : u.tbs = s.tbs

theorem turn_ends {s r : State} {f : Face} {ds : List Door} {rel : Release} (x : Turn) (reply : Option (List Byte))
    (blocks : r.blocks = s.blocks.modFace f fun b => { b with doors := ds, release := rel }) (quiet : Quiet s r)
    (hc : s.configured f = true) (hd : ds ≠ []) :
    TurnEnds f x reply ds rel s r ((r.tunnelAnswered f x reply).nextTurn f).arbitrate := by
  obtain ⟨⟨l, answered⟩, flags, intake, now⟩ := tunnelAnswered_keeps r f x reply
  rw [blocks, Blocks.modFace_modFace] at answered
  have line : (r.face f).line = (s.face f).line := by
    obtain ⟨-, -, -, -, line, -⟩ := face_records_of blocks f
    rwa [Blocks.get_modFace, blocks_get] at line
  have exchange (hk : x.kind = .tunnel) (y : Tunnel) (ht : (s.face f).line.tunnel = some y) (hs : y.sent = true) :=
    quiet.replies ▸ tunnelAnswered_done hk (show (r.face f).line.tunnel = some y by rw [line, ht]) hs reply
  have silent (hk : x.kind ≠ .tunnel) : (r.tunnelAnswered f x reply).lif.replies = s.lif.replies := by
    rw [tunnelAnswered_other hk, quiet.replies]
  generalize r.tunnelAnswered f x reply = v at *
  obtain ⟨-, doors, -⟩ := face_records_of answered f
  rw [Blocks.get_modFace] at doors
  obtain ⟨k, m, next, begins, begun⟩ := nextTurn_blocks ((configured_of_tbs (congrArg Blocks.tbs answered) f).trans hc)
  have steady := nextTurn_steadfast v f
  generalize hu : (v.nextTurn f).arbitrate = u
  have ends : u.blocks = s.blocks.modFace f fun b => { b with doors := ds.map fun d => d.begun (k d), line := m, release := rel } := by
    rw [← hu, arbitrate_blocks, next, answered, Blocks.modFace_modFace]
  obtain ⟨berth', doors', deferral', -, line', release'⟩ := face_records_of ends f
  rw [Blocks.get_modFace, blocks_get] at berth' doors' deferral' line' release'
  have turn : m.turn ≠ none := begun (by rw [doors]; exact hd)
  obtain ⟨x', taken⟩ := Option.ne_none_iff_exists'.1 turn
  refine ⟨?_, ⟨k, doors'⟩, fun q hq => ?_, release', ⟨x', by rw [line']; exact taken, ?_⟩, fun hk y ht hs => ⟨?_, ?_⟩, fun hk => ?_,
    berth', deferral', congrArg Blocks.holds ends, congrArg Blocks.aln ends, congrArg Blocks.gap ends, congrArg Blocks.tbs ends⟩
  · rw [← hu, arbitrate_lif_intake, steady.intake, intake, quiet.intake]
  · rw [← hu, arbitrate_lif_flags]
    exact steady.flags _ _ (flags ▸ hq)
  · rw [← quiet.now, ← now]
    exact begins.window x' taken
  · rw [line']
    exact begins.tunnel (exchange hk y ht hs).1
  · rw [← hu, arbitrate_lif_replies, steady.replies, (exchange hk y ht hs).2]
  · rw [← hu, arbitrate_lif_replies, steady.replies, silent hk]

end State

/-- What a status with the outcome `o` makes of the part, from the state `p` in which it reaches its door to `r`: the records, the release
record `rel`, and the events; `s` is the state of the command. -/
structure Took (f : Face) (d : Door) (o : DoorOutcome) (rel : Release) (s p r : State) : Prop where
  blocks : r.blocks = s.blocks.modFace f fun b => { b with doors := (s.face f).doors.map (putRecord d o.door), release := rel }
  quiet : Quiet s r
  kept : ∀ q ∈ p.lif.flags.get (.face f), q ∈ r.lif.flags.get (.face f)
  events : ∀ q ∈ o.events, q ∈ r.lif.flags.get (.face f)
  latch : DoorReport.latchSet ∈ o.reports → rel.seq = (s.face f).release.seq + 1 ∧ .manualRelease ∈ r.lif.flags.get (.face f)

/-- The status of a restore that it completes, where no bank is staged (R146). -/
theorem Took.normal {f : Face} {d : Door} {o : DoorOutcome} {rel : Release} {s p r : State} (h : Took f d o rel s p r) :
    Took f d o { rel with state := .normal } s p (r.normal f) where
  blocks := by rw [State.normal_blocks, h.blocks, Blocks.modFace_modFace]
  quiet := h.quiet.trans (State.normal_calm r f).toQuiet
  kept q hq := (State.normal_calm r f).flags _ _ (h.kept q hq)
  events q hq := (State.normal_calm r f).flags _ _ (h.events q hq)
  latch hq := (h.latch hq).imp_right ((State.normal_calm r f).flags _ _)

namespace Reached

variable {f : Face} {d e : Door} {s p : State}

/-- A status with a cleared mark changes the release set alone. -/
theorem clears_release (h : Reached f d e s p) (hd : s.findDoor f d.number = some d) {g : DoorContext → Door → DoorOutcome}
    (hr : ∀ q ∈ (g (s.doorContext f d.number) e).reports, q.clears = true) : ∃ set,
    (p.applyDoor f d.number g).blocks = s.blocks.modFace f (fun b =>
      { b with
        doors := b.doors.map (putRecord d (g (s.doorContext f d.number) e).door)
        release := { b.release with set := set } }) ∧
      ((∀ m ∈ (s.face f).release.set, m.door = d.number ∧
          (m.latched = true → DoorReport.latchCleared ∈ (g (s.doorContext f d.number) e).reports) ∧
          (m.evacOpened = true → DoorReport.evacCleared ∈ (g (s.doorContext f d.number) e).reports)) →
        (g (s.doorContext f d.number) e).reports ≠ [] → set = []) := by
  obtain ⟨set, folded⟩ := clears_fold (n := d.number) hr (s.face f).release
  refine ⟨set, ?_, fun hm hl => ?_⟩
  · rw [h.applyDoor_blocks hd, State.inOrder_clears hr]
    refine Blocks.modFace_congr ?_
    simp only [State.blocks_get, FaceState.blocks, folded]
  · have emptied := clears_fold_empty hr (s.face f).release hm (.inl hl)
    rwa [folded] at emptied

/-- The status as one event of its door. -/
theorem took (h : Reached f d e s p) (hd : s.findDoor f d.number = some d) (st : Status) (lost : Bool) :
    let o := e.takeStatus (s.doorContext f d.number) st lost
    ∃ rel, Took f d o rel s p (p.applyDoor f d.number fun ctx y => y.takeStatus ctx st lost) := by
  intro o
  have found := h.findDoor hd
  have outcome : e.takeStatus (p.doorContext f d.number) st lost = o := by rw [h.doorContext]
  have calm : Calm p (p.applyDoor f d.number fun ctx y => y.takeStatus ctx st lost) := State.applyDoor_calm p f _ _
  have events : ∀ q ∈ o.events, q ∈ (p.applyDoor f d.number fun ctx y => y.takeStatus ctx st lost).lif.flags.get (.face f) := by
    rw [← outcome]
    exact State.applyDoor_events found fun ctx y => y.takeStatus ctx st lost
  refine ⟨(State.inOrder o.reports).foldl (fun r q => State.releaseAfter r d.number q) (s.face f).release, ?_,
    h.quiet.trans calm.toQuiet, calm.flags _, events, fun latch => ?_⟩
  · rw [h.applyDoor_blocks hd]
    exact Blocks.modFace_congr (by rw [State.blocks_get]; rfl)
  · rcases e.takeStatus_latches_or_settles (s.doorContext f d.number) st lost with ⟨-, latched⟩ | settles
    · exact ⟨by rw [latched]; rfl, State.applyDoor_latch_flag found _ (by rw [outcome]; exact latched)⟩
    · cases settles.reports _ latch

/-- What a good status makes of the part, where no restore that it completes goes on to an adoption. -/
theorem takes (h : Reached f d e s p) (hd : s.findDoor f d.number = some d) (st : Status) (lost : Bool) :
    let o := e.takeStatus (s.doorContext f d.number) st lost
    s.tbs.staged = none ∨ (s.face f).release.state ≠ .restoring ∨ (∀ q ∈ o.reports, q.clears = false) →
    ∃ rel, Took f d o rel s p (p.applyDoorRestore f d.number fun ctx y => y.takeStatus ctx st lost) := by
  intro o free
  have outcome : e.takeStatus (p.doorContext f d.number) st lost = o := by rw [h.doorContext]
  obtain ⟨rel, took⟩ := h.took hd st lost
  by_cases ends : o.reports.any DoorReport.clears = true ∧
      ((p.applyDoor f d.number fun ctx y => y.takeStatus ctx st lost).face f).release.state = .restoring ∧
      ((p.applyDoor f d.number fun ctx y => y.takeStatus ctx st lost).face f).release.set = []
  · obtain ⟨cleared, restoring, empty⟩ := ends
    obtain ⟨q, hq, clears⟩ := List.any_eq_true.1 cleared
    have settles : ∀ q ∈ o.reports, q.clears = true := by
      rcases e.takeStatus_latches_or_settles (s.doorContext f d.number) st lost with ⟨-, latched⟩ | settles
      · rw [latched, List.mem_singleton] at hq
        simp [hq, DoorReport.clears] at clears
      · exact settles.reports
    have unstaged : s.tbs.staged = none := by
      refine free.resolve_right fun other => other.elim (fun apart => apart ?_) fun silent => by simp [silent q hq] at clears
      obtain ⟨set, blocks, -⟩ := h.clears_release hd (g := fun ctx y => y.takeStatus ctx st lost) settles
      obtain ⟨-, -, -, -, -, release⟩ := State.face_records_of blocks f
      rw [Blocks.get_modFace, State.blocks_get] at release
      rwa [release] at restoring
    have normal := took.normal
    refine ⟨{ rel with state := .normal }, ?_⟩
    rw [State.applyDoorRestore_ends (h.findDoor hd) (by rw [outcome]; exact cleared) restoring empty,
      State.testAdoption_unstaged f ((congrArg (fun b : Blocks => b.tbs.staged) normal.blocks).trans unstaged)]
    exact normal
  · refine ⟨rel, ?_⟩
    rwa [State.applyDoorRestore_stays (h.findDoor hd) (by rw [outcome]; exact ends)]

end Reached

/-- The step of a turn whose good frame reaches its door: the outcome of the status, after events that were raised before it. -/
theorem Reached.givesStatus {s p : State} {t : Micros} {f : Face} {d e : Door} {bytes : List Byte} {ok : Bool} {x : Turn} {st : Status}
    {reply : Option (List Byte)} {evs : List EventKind} (h : Reached f d e (s.advance t) p) (lost : Bool)
    (step : exec (.turnAnswer t f bytes ok) s =
      .next (((p.applyDoorRestore f d.number fun ctx y => y.takeStatus ctx st lost).tunnelAnswered f x reply).nextTurn f).arbitrate)
    (ordered : doorsOrdered s) (hc : s.configured f = true) (hd : s.findDoor f d.number = some d)
    (link : e.link.badCount = 0 ∧ e.link.lost = false ∧ e.link.base = some st.echo ∧ e.link.badFrames = d.link.badFrames)
    (before : ∀ q ∈ evs, q ∈ p.lif.flags.get (.face f)) :
    let o := e.takeStatus ((s.advance t).doorContext f d.number) st lost
    s.tbs.staged = none ∨ (s.face f).release.state ≠ .restoring ∨ (∀ q ∈ o.reports, q.clears = false) →
    GivesStatus (.turnAnswer t f bytes ok) s f x d { o with events := evs ++ o.events } st.echo reply := by
  intro o free
  obtain ⟨rel, blocks, quiet, kept, events, latch⟩ := h.takes (s := s.advance t) hd st lost free
  have distinct := State.DistinctDoors.of_ordered ordered f
  have mem : d ∈ (s.face f).doors := (State.findDoor_some hd).1
  have number : o.door.number = d.number := (e.takeStatus_keepsEnable _ st lost).number.trans h.number
  have same := e.takeStatus_sameLink ((s.advance t).doorContext f d.number) st lost
  obtain ⟨badCount, unlost, base, badFrames⟩ := link
  obtain ⟨intake, ⟨k, doors⟩, flags, release, turn, exchange, silent, berth, deferral, holds, aln, gap, tbs⟩ :=
    State.turn_ends x reply blocks quiet hc (List.ne_nil_of_mem (List.mem_map_of_mem mem))
  generalize State.arbitrate _ = u at *
  have finds (n : Nat) : u.findDoor f n = (s.findDoor f n).map fun y => (putRecord d o.door y).begun (k (putRecord d o.door y)) := by
    rw [State.findDoor, doors, List.map_map]
    exact find?_number_map (h := fun y => (putRecord d o.door y).begun (k (putRecord d o.door y))) (putRecord_number number)
      (s.face f).doors n
  have begun (y : Door) : (y.begun (k y)).link.badCount = y.link.badCount ∧ (y.begun (k y)).link.lost = y.link.lost ∧
      (y.begun (k y)).link.base = y.link.base ∧ (y.begun (k y)).link.badFrames = y.link.badFrames := UnitLink.begun_keeps y.link (k y)
  refine ⟨u, step, intake, ⟨o.door.begun (k o.door), ?_, rfl, Door.begun_slotCommand _ _, ?_⟩, fun y hy other => ?_, fun q hq => ?_,
    fun hq => ?_, turn, exchange, silent, berth, deferral, holds, aln, gap, tbs⟩
  · rw [finds, hd, Option.map_some, putRecord_same]
  · obtain ⟨b1, b2, b3, b4⟩ := begun o.door
    exact ⟨(b1.trans same.badCount).trans badCount, (b2.trans same.lost).trans unlost, (b3.trans same.base).trans base,
      (b4.trans same.badFrames).trans badFrames⟩
  · obtain ⟨-, b2, b3, -⟩ := begun y
    refine ⟨y.begun (k y), ?_, rfl, Door.begun_slotCommand _ _, b3, b2⟩
    rw [finds, State.findDoor_of_mem distinct hy, Option.map_some, putRecord_other _ other]
  · exact flags q ((List.mem_append.1 hq).elim (fun hq => kept q (before q hq)) (events q))
  · obtain ⟨seq, raised⟩ := latch hq
    exact ⟨by rw [release]; exact seq, flags _ raised⟩

/-! ### The frame on its way to the door (R88, R92, R95) -/

/-- An event of the door that reports nothing, before the status is taken. -/
theorem Reached.silently {f : Face} {d e : Door} {s p : State} (h : Reached f d e s p) (hd : s.findDoor f d.number = some d)
    (g : DoorContext → Door → DoorOutcome) (hn : ∀ c, (g c e).door.number = e.number) (hr : ∀ c, (g c e).reports = []) :
    Reached f d (g (s.doorContext f d.number) e).door s (p.applyDoor f d.number g) where
  number := (hn _).trans h.number
  blocks := by
    rw [h.applyDoor_blocks hd, hr]
    rfl
  quiet := h.quiet.trans (State.applyDoor_calm p f _ _).toQuiet

theorem UnitLink.wasSent_good (l : UnitLink) (echo : BitVec 4) (c : Carried) : (l.good echo).wasSent c = l.wasSent c := by
  unfold good wasSent
  cases c with
  | nothing seq => rfl
  | tunnel p seq => rfl
  | command cmd n => cases hs : l.slot <;> cases hl : l.lost <;> simp

namespace State

theorem exec_turnAnswer {s : State} {t : Micros} {f : Face} {bytes : List Byte} {ok : Bool} {x : Turn} {st : Status}
    {reply : Option (List Byte)} (hr : s.running = true) (ht : (s.face f).line.turn = some x) (hw : max s.now t ≤ x.windowEnd)
    (whole : x.windowEnd + 11 * bytes.length ≤ max s.now t + 800) (hj : judgeAnswer x.drop bytes ok = .good st reply) :
    exec (.turnAnswer t f bytes ok) s = .next (((s.opened t).goodFrame f x st reply).nextTurn f).arbitrate := by
  have runs : exec (.turnAnswer t f bytes ok) s = .next ((s.opened t).takeAnswer f bytes ok).arbitrate := by
    rw [← event_running hr t fun s => s.takeAnswer f bytes ok]
    rfl
  have turn : ((s.opened t).face f).line.turn = some x := by simpa using ht
  have inside : inWindow x.windowEnd (s.opened t).now bytes = bytes := inWindow_whole _ _ bytes (by rw [opened_now]; exact whole)
  have taken : (s.opened t).takeAnswer f bytes ok = ((s.opened t).goodFrame f x st reply).nextTurn f := by
    rw [takeAnswer, turn]
    dsimp only
    rw [if_neg (by rw [opened_now]; exact Nat.not_lt.2 hw), inside, hj]
  rw [runs, taken]

/-- A good frame that answers no send, or answers it with its echo (R88). -/
theorem goodFrame_echoed {s : State} {f : Face} {x : Turn} {d : Door} {st : Status} (ho : x.orphan = false)
    (hd : s.findDrop f x.drop = some d)
    (h : ∀ c n k, x.carried = .command c n → d.link.slot = some k → k.seq = some n → st.echo = n) (reply : Option (List Byte)) :
    s.goodFrame f x st reply = ((s.modDropLink f x.drop fun l => l.good st.echo).applyDoorRestore f d.number
      fun ctx y => y.takeStatus ctx st d.link.lost).tunnelAnswered f x reply := by
  unfold goodFrame
  rw [ho, if_neg Bool.false_ne_true, hd]
  dsimp only
  rw [if_neg]
  split
  next c n carried =>
    change ¬(((d.link.good st.echo).wasSent x.carried && Decidable.decide (st.echo ≠ n)) = true)
    rw [UnitLink.wasSent_good, carried]
    intro unechoed
    obtain ⟨sent, other⟩ := Bool.and_eq_true_iff.1 unechoed
    cases hs : d.link.slot with
    | none => simp [UnitLink.wasSent, hs] at sent
    | some k => exact of_decide_eq_true other (h c n k carried hs (by simpa [UnitLink.wasSent, hs] using sent))
  · exact Bool.false_ne_true

/-- A good frame without the echo of the send that it answers costs that send first (R92). -/
theorem goodFrame_unechoed {s : State} {f : Face} {x : Turn} {d : Door} {st : Status} {c : DoorCommand} {n : BitVec 4} {k : SlotCommand}
    (ho : x.orphan = false) (hd : s.findDrop f x.drop = some d) (hx : x.carried = .command c n) (hk : d.link.slot = some k)
    (hn : k.seq = some n) (he : st.echo ≠ n) (reply : Option (List Byte)) :
    s.goodFrame f x st reply = (((s.modDropLink f x.drop fun l => l.good st.echo).accountSend f
      (d.modLink fun l => l.good st.echo)).applyDoorRestore f d.number
        fun ctx y => y.takeStatus ctx st d.link.lost).tunnelAnswered f x reply := by
  have sent : (d.link.good st.echo).wasSent (.command c n) = true := by
    rw [UnitLink.wasSent_good]
    simp [UnitLink.wasSent, hk, hn]
  unfold goodFrame
  rw [ho, if_neg Bool.false_ne_true, hd]
  dsimp only
  rw [hx, if_pos]
  exact Bool.and_eq_true_iff.2 ⟨sent, decide_eq_true he⟩

end State

/-! ### What reaches the door -/

/-- A change of the unit's link alone reaches its door: the drop address is the door's. -/
theorem reached_modDropLink {s a : State} {f : Face} {d : Door} (g : UnitLink → UnitLink) (ordered : doorsOrdered s)
    (drops : ((s.face f).doors.map fun y => y.drop).Nodup) (hd : d ∈ (s.face f).doors) (blocks : a.blocks = s.blocks) (quiet : Quiet s a) :
    Reached f d (d.modLink g) s (a.modDropLink f d.drop g) where
  number := rfl
  blocks := by
    rw [State.modDropLink, State.modDoors_blocks, blocks]
    refine Blocks.modFace_congr ?_
    rw [State.blocks_get]
    exact congrArg (fun ds => { (s.face f).blocks with doors := ds })
      (map_drop_eq hd (State.DistinctDoors.of_ordered ordered f) drops fun y => y.modLink g)
  quiet := quiet.trans (State.modDoors_calm a f _).toQuiet

theorem State.modDoors_modDoors (s : State) (f : Face) (g h : List Door → List Door) :
    (s.modDoors f g).modDoors f h = s.modDoors f fun ds => h (g ds) := by cases f <;> rfl

theorem State.modDropLink_modDropLink (s : State) (f : Face) (drop : Nat) (g h : UnitLink → UnitLink) :
    (s.modDropLink f drop g).modDropLink f drop h = s.modDropLink f drop fun l => h (g l) := by
  rw [modDropLink, modDropLink, modDoors_modDoors, modDropLink]
  congr 1
  funext ds
  rw [List.map_map]
  refine List.map_congr_left fun y _ => ?_
  by_cases hy : y.drop = drop <;> simp [hy, Door.modLink]

/-- A send without its echo costs one send; the last one empties the slot and stalls the door (R70, R92). -/
theorem reached_accountSend {s a : State} {f : Face} {d : Door} (g : UnitLink → UnitLink) (ordered : doorsOrdered s)
    (drops : ((s.face f).doors.map fun y => y.drop).Nodup) (hd : s.findDoor f d.number = some d) (blocks : a.blocks = s.blocks)
    (quiet : Quiet s a) {k : SlotCommand} (hk : (g d.link).slot = some k) :
    let p := (a.modDropLink f d.drop g).accountSend f (d.modLink g)
    (2 ≤ k.left → Reached f d { d with link := { g d.link with slot := some { k with left := k.left - 1 } } } s p) ∧
    (k.left ≤ 1 → Reached f d { d with state := .stalled, timer := none, link := { g d.link with slot := none } } s p ∧
      .doorStalled ∈ p.lif.flags.get (.face f)) := by
  intro p
  have mem := (State.findDoor_some hd).1
  have spent := reached_modDropLink (fun l => (g l).spend.1) ordered drops mem blocks quiet
  have account : p = if ((g d.link).spend).2 then
      (a.modDropLink f d.drop fun l => (g l).spend.1).applyDoor f d.number fun _ y => y.exhausted
      else a.modDropLink f d.drop fun l => (g l).spend.1 := by
    rw [← State.modDropLink_modDropLink a f d.drop g fun l => l.spend.1]
    rfl
  refine ⟨fun more => ?_, fun last => ?_⟩
  · have spend : (g d.link).spend = ({ g d.link with slot := some { k with left := k.left - 1 } }, false) := by
      unfold UnitLink.spend
      rw [hk]
      exact if_neg (by omega)
    have charged : d.modLink (fun l => (g l).spend.1) = { d with link := { g d.link with slot := some { k with left := k.left - 1 } } } := by
      simp [Door.modLink, spend]
    rw [account, spend, if_neg Bool.false_ne_true, ← charged]
    exact spent
  · have spend : (g d.link).spend = ({ g d.link with slot := none }, true) := by
      unfold UnitLink.spend
      rw [hk]
      exact if_pos last
    have charged : d.modLink (fun l => (g l).spend.1) = { d with link := { g d.link with slot := none } } := by
      simp [Door.modLink, spend]
    rw [account, spend, if_pos rfl]
    refine ⟨?_, ?_⟩
    · have stalled := spent.silently hd (fun _ y => y.exhausted) (fun _ => rfl) fun _ => rfl
      rwa [charged] at stalled
    · exact State.applyDoor_events (spent.findDoor hd) (fun _ y => y.exhausted) _ List.mem_cons_self

/-- The state in which a status that completes a restore goes on to the test for adoption (R146). -/
theorem Reached.completes {s p : State} {f : Face} {d e : Door} (h : Reached f d e s p) (hd : s.findDoor f d.number = some d)
    (st : Status) (lost : Bool) :
    let o := e.takeStatus (s.doorContext f d.number) st lost
    (s.face f).release.state = .restoring → DoorReport.latchSet ∉ o.reports → (∃ q ∈ o.reports, q.clears = true) →
    (∀ m ∈ (s.face f).release.set, m.door = d.number ∧ (m.latched = true → DoorReport.latchCleared ∈ o.reports) ∧
      (m.evacOpened = true → DoorReport.evacCleared ∈ o.reports)) →
    ∃ v : State, (p.applyDoorRestore f d.number fun ctx y => y.takeStatus ctx st lost) = v.testAdoption f ∧ Quiet s v ∧
      .restored ∈ v.lif.flags.get (.face f) ∧ v.blocks = s.blocks.modFace f fun b =>
        { b with doors := b.doors.map (putRecord d o.door), release := { b.release with state := .normal, set := [] } } := by
  intro o restoring unlatched cleared members
  have outcome : e.takeStatus (p.doorContext f d.number) st lost = o := by rw [h.doorContext]
  have settles : ∀ q ∈ o.reports, q.clears = true := by
    rcases e.takeStatus_latches_or_settles (s.doorContext f d.number) st lost with ⟨-, latched⟩ | settles
    · exact absurd (latched ▸ List.mem_cons_self : DoorReport.latchSet ∈ o.reports) unlatched
    · exact settles.reports
  obtain ⟨q, hq, clears⟩ := cleared
  obtain ⟨set, blocks, emptied⟩ := h.clears_release hd (g := fun ctx y => y.takeStatus ctx st lost) settles
  obtain rfl := emptied members (List.ne_nil_of_mem hq)
  obtain ⟨-, -, -, -, -, release⟩ := State.face_records_of blocks f
  rw [Blocks.get_modFace, State.blocks_get] at release
  have calm : Calm p (p.applyDoor f d.number fun ctx y => y.takeStatus ctx st lost) := State.applyDoor_calm p f _ _
  refine ⟨(p.applyDoor f d.number fun ctx y => y.takeStatus ctx st lost).normal f, ?_,
    h.quiet.trans (calm.trans (State.normal_calm _ f)).toQuiet, State.normal_flag _ f, ?_⟩
  · exact State.applyDoorRestore_ends (h.findDoor hd) (by rw [outcome]; exact List.any_eq_true.2 ⟨q, hq, clears⟩)
      (by rw [release]; exact restoring) (by rw [release])
  · rw [State.normal_blocks, blocks, Blocks.modFace_modFace]

/-- Settles O39: the layout of a good frame, and the step it makes, with or without the echo of the send it answers. -/
theorem goodFrameGivesTheDoorItsStatus : Obligations.GoodFrameGivesTheDoorItsStatus := by
  refine ⟨fun drop bytes ok => ?_, fun s t f bytes ok x st reply d ordered drops hr hc ht ho hw whole hj hd echoed => ?_,
    fun s t f bytes ok x st reply d c n k ordered drops hr hc ht ho hw whole hj hd hx hk hn he => ?_⟩
  · exact ⟨judgeAnswer_good_iff drop bytes ok, judgeAnswer_incomplete_iff drop bytes ok⟩
  · intro d1 o
    obtain ⟨mem, drop⟩ : d ∈ (s.face f).doors ∧ d.drop = x.drop := ⟨List.mem_of_find?_eq_some hd, by simpa using List.find?_some hd⟩
    have found : s.findDoor f d.number = some d := State.findDoor_of_mem (State.DistinctDoors.of_ordered ordered f) mem
    have reached : Reached f d d1 (s.advance t) ((s.opened t).modDropLink f x.drop fun l => l.good st.echo) := by
      rw [← drop]
      exact reached_modDropLink (s := s.advance t) (fun l => l.good st.echo) ordered drops mem (State.opened_blocks s t)
        (State.opened_calm s t).toQuiet
    have step := State.exec_turnAnswer hr ht hw whole hj
    rw [State.goodFrame_echoed ho (by simpa [State.findDrop] using hd) echoed] at step
    refine ⟨reached.givesStatus d.link.lost step ordered hc found ⟨rfl, rfl, rfl, rfl⟩ (evs := []) nofun,
      fun restoring unlatched cleared members => ?_⟩
    obtain ⟨v, adopts, quiet, flag, blocks⟩ := reached.completes found st d.link.lost restoring unlatched cleared members
    rw [adopts] at step
    exact ⟨v, step, quiet.intake, quiet.replies, flag, blocks⟩
  · intro left d1 o free
    obtain ⟨mem, drop⟩ : d ∈ (s.face f).doors ∧ d.drop = x.drop := ⟨List.mem_of_find?_eq_some hd, by simpa using List.find?_some hd⟩
    have found : s.findDoor f d.number = some d := State.findDoor_of_mem (State.DistinctDoors.of_ordered ordered f) mem
    have slot : (d.link.good st.echo).slot = some { k with left := left } := by
      by_cases lost : d.link.lost = true <;> simp [UnitLink.good, lost, hk, left]
    obtain ⟨spends, stalls⟩ := reached_accountSend (s := s.advance t) (fun l => l.good st.echo) ordered drops found
      (State.opened_blocks s t) (State.opened_calm s t).toQuiet slot
    have step := State.exec_turnAnswer hr ht hw whole hj
    rw [State.goodFrame_unechoed ho (by simpa [State.findDrop] using hd) hx hk hn he, ← drop] at step
    by_cases last : left ≤ 1
    · obtain ⟨reached, stalled⟩ := stalls last
      have record : d1 = { d with state := .stalled, timer := none, link := { d.link.good st.echo with slot := none } } := by
        simp only [d1, if_pos last, UnitLink.good]
      rw [← record] at reached
      have gives := reached.givesStatus d.link.lost step ordered hc found (by rw [record]; exact ⟨rfl, rfl, rfl, rfl⟩)
        (evs := [.doorStalled]) (by simpa using stalled) free
      rwa [if_pos last]
    · have reached := spends (Nat.lt_of_not_le last)
      have record : d1 = { d with link := { d.link.good st.echo with slot := some { k with left := left - 1 } } } := by
        simp only [d1, if_neg last, UnitLink.good]
      rw [← record] at reached
      have gives := reached.givesStatus d.link.lost step ordered hc found (by rw [record]; exact ⟨rfl, rfl, rfl, rfl⟩)
        (evs := []) nofun free
      rwa [if_neg last]

end Sys2Proof.Machine
end

section
/-! PROOFS. O32: a TUNNEL forwarded or refused, and the exchange that times out (R96, R97, R99). -/

namespace Sys2Proof.Machine

theorem parseTunnel_length {body : List Byte} (h : body.length < 2 ∨ 33 < body.length) : parseTunnel body = none := by
  cases body with
  | nil => rfl
  | cons n payload => exact if_neg (by rw [List.length_cons] at h; omega)

theorem parseTunnel_payload {payload : List Byte} (h1 : 1 ≤ payload.length) (h32 : payload.length ≤ 32) (n : Byte) :
    parseTunnel (n :: payload) = some (n.toNat, payload) := if_pos ⟨h1, h32⟩

namespace State

section

variable {s : State} {r : Request} {f : Face} {n : Nat} {payload : List Byte} {d : Door}

theorem takeTunnel_malformed (hf : r.face? = some f) (hc : s.configured f = true) (hp : parseTunnel r.body = none) :
    s.takeTunnel r = s.refuse r .badArgument := by
  rw [takeTunnel, withConfigured_of hf hc, hp]

theorem takeTunnel_doorless (hf : r.face? = some f) (hc : s.configured f = true) (hp : parseTunnel r.body = some (n, payload))
    (hd : s.findDoor f n = none) : s.takeTunnel r = s.refuse r .badArgument := by
  rw [takeTunnel, withConfigured_of hf hc, hp]
  simp only [hd]

theorem takeTunnel_notNow (hf : r.face? = some f) (hc : s.configured f = true) (hp : parseTunnel r.body = some (n, payload))
    (hd : s.findDoor f n = some d) (h : d.state ≠ .isolated ∧ (s.face f).berth.state ≠ .vacant) :
    s.takeTunnel r = s.refuse r .notNow := by
  rw [takeTunnel, withConfigured_of hf hc, hp]
  simp only [hd]
  exact if_pos h

theorem takeTunnel_busy (hf : r.face? = some f) (hc : s.configured f = true) (hp : parseTunnel r.body = some (n, payload))
    (hd : s.findDoor f n = some d) (h : ¬(d.state ≠ .isolated ∧ (s.face f).berth.state ≠ .vacant))
    (ht : (s.face f).line.tunnel ≠ none) : s.takeTunnel r = s.refuse r .busy := by
  rw [takeTunnel, withConfigured_of hf hc, hp]
  simp only [hd]
  exact (if_neg h).trans (if_pos (Option.isSome_iff_ne_none.2 ht))

theorem takeTunnel_forwards (hf : r.face? = some f) (hc : s.configured f = true) (hp : parseTunnel r.body = some (n, payload))
    (hd : s.findDoor f n = some d) (h : ¬(d.state ≠ .isolated ∧ (s.face f).berth.state ≠ .vacant))
    (ht : (s.face f).line.tunnel = none) : s.takeTunnel r = s.modLine f fun l =>
      { l with tunnel := some { tag := r.tag, drop := d.drop, payload := payload, forwardedAt := s.ms, sent := false } } := by
  rw [takeTunnel, withConfigured_of hf hc, hp]
  simp only [hd]
  exact (if_neg h).trans (if_neg (by simp [ht]))

end

/-- An outstanding exchange whose 200 ms are over ends with its reply (R99). -/
theorem tunnelLapse_due {s : State} {f : Face} {x : Tunnel} (ht : (s.face f).line.tunnel = some x) (h : x.forwardedAt + 200 ≤ s.ms) :
    s.tunnelLapse f = (s.modLine f fun l => { l with tunnel := none }).reply kindTunnel x.tag (.refused .timeout) [] := by
  rw [tunnelLapse, ht]
  dsimp only
  rw [if_pos h, endTunnel, ht]

@[simp] theorem handed_line (s : State) (t : Micros) (rest : List Request) (f : Face) :
    ((s.handed t rest).face f).line = (s.face f).line := by simp [handed]

end State

/-- Settles O32: the tests of a TUNNEL in their order, its forwarding, and the end of an exchange that is not answered. -/
theorem tunnelIsForwardedOrRefused : Obligations.TunnelIsForwardedOrRefused := by
  refine fun s t f => ⟨fun r rest takes hf hc => ?_, fun hr x ht due => ?_⟩
  · have configured : (s.handed t rest).configured f = true := by simpa using hc
    have refuses {reason : Reason} (h : (s.handed t rest).takeTunnel r = (s.handed t rest).refuse r reason) :
        Refuses (.tunnel t) s r rest reason := refuses_of_takes (c := .tunnel t) rfl takes h
    refine ⟨fun bad => refuses (State.takeTunnel_malformed hf configured (parseTunnel_length bad)), fun n payload hb h1 h32 => ?_⟩
    have parsed : parseTunnel r.body = some (n.toNat, payload) := by rw [hb, parseTunnel_payload h1 h32]
    refine ⟨fun absent => refuses (State.takeTunnel_doorless hf configured parsed ?_), fun d hd => ?_⟩
    · rw [State.handed_findDoor]
      exact List.find?_eq_none.2 fun d hd => by simpa using absent d hd
    have found : (s.handed t rest).findDoor f n.toNat = some d := by rwa [State.handed_findDoor]
    refine ⟨fun served occupied => refuses (State.takeTunnel_notNow hf configured parsed found ⟨served, by simpa using occupied⟩),
      fun free => ?_⟩
    have passes : ¬(d.state ≠ .isolated ∧ ((s.handed t rest).face f).berth.state ≠ .vacant) := fun ⟨served, occupied⟩ =>
      free.elim served (by simpa using occupied)
    refine ⟨fun busy => refuses (State.takeTunnel_busy hf configured parsed found passes (by simpa using busy)), fun idle => ?_⟩
    have forwards := State.takeTunnel_forwards hf configured parsed found passes (by simpa using idle)
    rw [State.handed_ms] at forwards
    exact (exec_of_takes (g := State.takeTunnel) rfl takes).trans (by rw [forwards, State.handed])
  · have ends := State.tunnelLapse_due (s := s.opened t) (f := f) (by simpa using ht) (by simpa [State.ms] using due)
    rw [State.reply] at ends
    calc exec (.tunnelTimeout t f) s
        = .next (s.event t fun s => s.tunnelLapse f) := rfl
      _ = .next ((s.opened t).tunnelLapse f).arbitrate := by rw [State.event_running hr]
      _ = _ := by rw [ends]; rfl

end Sys2Proof.Machine
end

section
/-! PROOFS. O38: the choice of a line's next turn, and the sequence number of a send (R84 to R86, R89). -/

namespace Sys2Proof.Machine

/-! ### The choice of a turn (R84, R85) -/

/-- The least drop address among the doors that pass a test. -/
theorem leastDrop_filter {ds : List Door} {p : Door → Bool} {d : Door} (hd : d ∈ ds) (hp : p d = true)
    (least : ∀ x ∈ ds, p x = true → d.drop ≤ x.drop) : leastDrop ((ds.filter p).map fun d => d.drop) = some d.drop :=
  leastDrop_drops (List.mem_filter.2 ⟨hd, hp⟩) fun x hx => least x (List.mem_filter.1 hx).1 (List.mem_filter.1 hx).2

/-- A unit that the urgent turn may go to: its link is not lost, and its slot holds an URGENT command (R84). -/
def Door.Urgent (d : Door) : Prop := d.link.lost = false ∧ ∃ c, d.link.slot = some c ∧ c.urgency = .urgent

theorem Door.urgent_iff (d : Door) :
    (!d.link.lost && decide (d.link.slot.map (fun c => c.urgency) = some .urgent)) = true ↔ d.Urgent := by
  simp [Urgent, Option.map_eq_some_iff]

theorem urgentDrop_least {ds : List Door} {d : Door} (hd : d ∈ ds) (hu : d.Urgent) (least : ∀ x ∈ ds, x.Urgent → d.drop ≤ x.drop) :
    urgentDrop ds = some d.drop :=
  leastDrop_filter hd (d.urgent_iff.2 hu) fun x hx h => least x hx (x.urgent_iff.1 h)

theorem urgentDrop_absent {ds : List Door} (h : ∀ d ∈ ds, ¬d.Urgent) : urgentDrop ds = none := by
  rw [urgentDrop, List.filter_eq_nil_iff.2 fun d hd => mt d.urgent_iff.1 (h d hd)]
  rfl

/-- Without an urgent command an exchange that waits takes the turn (R84). -/
theorem chooseTurn_tunnel {ds : List Door} {line : DoorLine} {x : Tunnel} (hu : urgentDrop ds = none) (ht : line.tunnel = some x)
    (hs : x.sent = false) : chooseTurn ds line = some (.tunnel, x.drop) := by
  rw [chooseTurn, hu, ht]
  exact if_neg (by simp [hs])

/-- With neither an urgent command nor a waiting exchange the rotation goes on (R84, R85). -/
theorem chooseTurn_poll {ds : List Door} {line : DoorLine} (hu : urgentDrop ds = none)
    (ht : ∀ x, line.tunnel = some x → x.sent = true) :
    chooseTurn ds line = (pollDrop ds line.rotation).map fun d => (.poll, d) := by
  rw [chooseTurn, hu]
  cases h : line.tunnel with
  | none => rfl
  | some x => exact if_pos (ht x h)

/-- The doors above the rotation position. -/
theorem drops_above (ds : List Door) (p : Nat) :
    (ds.map fun d => d.drop).filter (fun x => p < x) = (ds.filter fun d => p < d.drop).map fun d => d.drop := by
  rw [List.filter_map]
  rfl

theorem pollDrop_above {ds : List Door} {d : Door} {p : Nat} (hd : d ∈ ds) (hp : p < d.drop)
    (least : ∀ x ∈ ds, p < x.drop → d.drop ≤ x.drop) : pollDrop ds (some p) = some d.drop := by
  have next : leastDrop ((ds.filter fun x => p < x.drop).map fun x => x.drop) = some d.drop :=
    leastDrop_filter hd (decide_eq_true hp) fun x hx h => least x hx (of_decide_eq_true h)
  rw [pollDrop, drops_above, next]
  rfl

theorem pollDrop_least {ds : List Door} {d : Door} {rotation : Option Nat} (hd : d ∈ ds)
    (past : rotation = none ∨ ∃ p, rotation = some p ∧ ∀ x ∈ ds, x.drop ≤ p) (least : ∀ x ∈ ds, d.drop ≤ x.drop) :
    pollDrop ds rotation = some d.drop := by
  have all := leastDrop_drops hd least
  rcases past with rfl | ⟨p, rfl, below⟩
  · exact all
  · rw [pollDrop, drops_above, List.filter_eq_nil_iff.2 fun x hx => by simpa using below x hx, all]
    rfl

/-! ### The sequence number of a first send (R89) -/

theorem nextSeq_ne_base (last : Option (BitVec 4)) (base : BitVec 4) : nextSeq last base ≠ base := by
  unfold nextSeq
  dsimp only
  split <;> bv_omega

theorem nextSeq_toNat (last : Option (BitVec 4)) (base : BitVec 4) :
    let one := (last.getD base).toNat + 1
    (nextSeq last base).toNat = if one % 16 = base.toNat then (one + 1) % 16 else one % 16 := by
  have up (x : BitVec 4) : (x + 1).toNat = (x.toNat + 1) % 16 := BitVec.toNat_add x 1
  intro one
  have same : last.getD base + 1 = base ↔ one % 16 = base.toNat := by rw [← BitVec.toNat_inj, up]
  unfold nextSeq
  dsimp only
  by_cases h : last.getD base + 1 = base
  · rw [if_pos h, if_pos (same.1 h), up, up]
    omega
  · rw [if_neg h, if_neg (mt same.2 h), up]

namespace UnitLink

/-- A turn that sends no command leaves the link record (R86). -/
theorem begun_of_silent {l : UnitLink} {kind : TurnKind} (h : l.sends kind = none) : l.begun kind = l := by rw [begun, h]

/-- A command keeps the number that it has (R89). -/
theorem begun_of_numbered {l : UnitLink} {kind : TurnKind} {c : SlotCommand} (h : l.sends kind = some c) {n : BitVec 4}
    (hn : c.seq = some n) : l.begun kind = l := by
  rw [begun, h]
  exact if_neg (by simp [hn])

theorem begun_of_first {l : UnitLink} {kind : TurnKind} {c : SlotCommand} (h : l.sends kind = some c) (hn : c.seq = none) :
    l.begun kind = { l with slot := some { c with seq := some (l.sendSeq c) }, lastIssued := some (l.sendSeq c) } := by
  rw [begun, h]
  exact if_pos hn

theorem carries_of_silent {l : UnitLink} {kind : TurnKind} (hk : kind ≠ .tunnel) (h : l.sends kind = none) (payload : List Byte) :
    l.carries kind payload = .nothing (l.base.getD 0) := by
  cases kind with
  | tunnel => exact absurd rfl hk
  | urgent | poll => rw [carries, h]; nofun

theorem carries_of_sends {l : UnitLink} {kind : TurnKind} {c : SlotCommand} (h : l.sends kind = some c) (hk : kind ≠ .tunnel)
    (payload : List Byte) : l.carries kind payload = .command c.command (l.sendSeq c) := by
  cases kind with
  | tunnel => exact absurd rfl hk
  | urgent | poll => rw [carries, h]; nofun

/-- A tunnel turn sends no command (R86). -/
theorem sends_tunnel (l : UnitLink) : l.sends .tunnel = none := by
  unfold sends
  split
  · rfl
  · split <;> rfl

/-- A turn sends the command of its own class to a unit that has a base and whose link is not lost (R86). -/
theorem sends_command {l : UnitLink} {kind : TurnKind} {c : SlotCommand} {b : BitVec 4} (hs : l.slot = some c) (hb : l.base = some b)
    (hl : l.lost = false) (hk : kind = .urgent ∧ c.urgency = .urgent ∨ kind = .poll ∧ c.urgency = .routine) :
    l.sends kind = some c := by
  unfold sends
  rw [hs]
  dsimp only
  rw [if_neg (by simp [hl, hb])]
  rcases hk with ⟨rfl, hu⟩ | ⟨rfl, hu⟩ <;> rw [hu]

theorem sends_nothing {l : UnitLink} {kind : TurnKind} (h : l.slot = none ∨ l.base = none ∨ l.lost = true ∨
    ∃ c, l.slot = some c ∧ (kind = .urgent ∧ c.urgency = .routine ∨ kind = .poll ∧ c.urgency = .urgent)) : l.sends kind = none := by
  unfold sends
  cases hs : l.slot with
  | none => rfl
  | some c =>
    dsimp only
    split
    · rfl
    next reachable =>
      rcases h with h | h | h | ⟨c', same, other⟩
      · rw [hs] at h; cases h
      · exact absurd (.inr h) reachable
      · exact absurd (.inl h) reachable
      · obtain rfl : c = c' := Option.some.inj (hs.symm.trans same)
        rcases other with ⟨rfl, hu⟩ | ⟨rfl, hu⟩ <;> rw [hu]

end UnitLink

/-- Settles O38: the arbiter's order, and what the drop frame of each kind of turn carries. -/
theorem turnsAndSendsAreChosenInOrder : Obligations.TurnsAndSendsAreChosenInOrder := by
  refine ⟨fun ds line => ?_, fun l kind payload => ?_⟩
  · intro urgent
    refine ⟨fun d hd hu least => ?_, fun calm => ?_⟩
    · rw [chooseTurn, urgentDrop_least hd hu least]
    have absent : urgentDrop ds = none := urgentDrop_absent calm
    refine ⟨fun x => chooseTurn_tunnel absent, fun sent => ?_⟩
    have polls := chooseTurn_poll absent sent
    refine ⟨fun p d hr hd hp least => ?_, fun d hd past least => ?_⟩
    · rw [polls, hr, pollDrop_above hd hp least]
      rfl
    · rw [polls, pollDrop_least hd past least]
      rfl
  · refine ⟨?_, fun c b hs hb hl hk => ?_, fun hk h => ?_⟩
    · rintro rfl
      exact ⟨rfl, UnitLink.begun_of_silent l.sends_tunnel⟩
    · have sends := UnitLink.sends_command hs hb hl hk
      have commands : kind ≠ .tunnel := by rcases hk with ⟨rfl, -⟩ | ⟨rfl, -⟩ <;> nofun
      have carried := UnitLink.carries_of_sends sends commands payload
      refine ⟨fun n hn => ⟨?_, UnitLink.begun_of_numbered sends hn⟩, fun first => ?_⟩
      · rw [carried, UnitLink.sendSeq, hn, Option.getD_some]
      · have number : l.sendSeq c = nextSeq l.lastIssued b := by rw [UnitLink.sendSeq, first, hb]; rfl
        rw [carried, UnitLink.begun_of_first sends first, number]
        exact ⟨_, rfl, nextSeq_ne_base _ b, rfl, rfl, nextSeq_toNat _ b⟩
    · have silent := UnitLink.sends_nothing h
      exact ⟨UnitLink.carries_of_silent hk silent payload, UnitLink.begun_of_silent silent⟩

end Sys2Proof.Machine
end

section
/-! PROOFS. O41: what an answer window and an answer slot make of the frames that reach them (R81, R101, R105, R199). -/

namespace Sys2Proof.Machine

/-! ### Door lines (R81, R101) -/

namespace State

/-- The step that bytes on a door line make. -/
theorem exec_turnAnswer_runs {s : State} (hr : s.running = true) (t : Micros) (f : Face) (bytes : List Byte) (ok : Bool) :
    exec (.turnAnswer t f bytes ok) s = .next ((s.opened t).takeAnswer f bytes ok).arbitrate := by
  rw [← event_running hr t fun s => s.takeAnswer f bytes ok]
  rfl

/-- Bytes after the window, and those that make no complete frame within it, change nothing. -/
theorem takeAnswer_nothing {s : State} {f : Face} {bytes : List Byte} {ok : Bool}
    (h : ∀ x, (s.face f).line.turn = some x → x.windowEnd < s.now ∨
      judgeAnswer x.drop (inWindow x.windowEnd s.now bytes) ok = .incomplete) : s.takeAnswer f bytes ok = s := by
  rcases s.takeAnswer_cases f bytes ok with same | ⟨x, turn, inside, judged⟩
  · exact same
  have incomplete := (h x turn).resolve_left (Nat.not_lt.2 inside)
  rcases judged with ⟨bad, -⟩ | ⟨st, r, good, -⟩
  · cases incomplete.symm.trans bad
  · cases incomplete.symm.trans good

/-- Only the characters within the window count. -/
theorem takeAnswer_congr {s : State} {f : Face} {a b : List Byte}
    (h : ∀ x, (s.face f).line.turn = some x → inWindow x.windowEnd s.now a = inWindow x.windowEnd s.now b) (ok : Bool) :
    s.takeAnswer f a ok = s.takeAnswer f b ok := by
  unfold takeAnswer
  cases turn : (s.face f).line.turn with
  | none => rfl
  | some x =>
    dsimp only
    rw [h x turn]

end State

/-! ### The sensor line (R105) -/

theorem slotAt_outside {offset : Micros} (h : offset < 2000 ∨ 18000 ≤ offset) : slotAt offset = none :=
  if_neg fun ⟨low, high⟩ => h.elim (Nat.not_lt.2 low) (Nat.not_le.2 high)

theorem slotAt_slot {offset : Micros} {i : Nat} (hi : i < 16) (low : 2000 + 1000 * i ≤ offset) (high : offset < 3000 + 1000 * i) :
    slotAt offset = some i := by
  unfold slotAt
  simp only [Micros] at *
  rw [if_pos (by omega)]
  congr 1
  omega

/-- A first frame is gathered, and a second one spoils the slot. -/
theorem SlotScan.join_eq (x : SlotScan) (bytes : List Byte) (ok : Bool) :
    x.join bytes ok = if x = .empty then .one bytes ok else .many := by
  cases x <;> rfl

theorem Head.inUse_iff (h : Head) : h.inUse = true ↔ h.serves.a = true ∨ h.serves.b = true := Bool.or_eq_true_iff

namespace State

theorem exec_scanFrameArrival_runs {s : State} (hr : s.running = true) (t : Micros) (bytes : List Byte) (ok : Bool) :
    exec (.scanFrameArrival t bytes ok) s = .next ((s.opened t).takeScan bytes ok).arbitrate := by
  rw [← event_running hr t fun s => s.takeScan bytes ok]
  rfl

theorem takeScan_outside {s : State} (h : slotAt (s.now - s.gap.cycleStart) = none) (bytes : List Byte) (ok : Bool) :
    s.takeScan bytes ok = s := by rw [takeScan, h]

theorem takeScan_slot {s : State} {i : Nat} (h : slotAt (s.now - s.gap.cycleStart) = some i) (bytes : List Byte) (ok : Bool) :
    s.takeScan bytes ok = s.modGap fun g =>
      { g with heads := g.heads.map fun h =>
          if h.slot = i ∧ (h.serves.a = true ∨ h.serves.b = true) then
            { h with scan := if h.scan = .empty then .one bytes ok else .many }
          else h } := by
  rw [takeScan, h]
  simp only [Head.inUse_iff, SlotScan.join_eq]

end State

/-- Settles O41: a window takes what lies in it, and an answer slot the frames that begin in it. -/
theorem framesJoinTheirSlotsOrChangeNothing : Obligations.FramesJoinTheirSlotsOrChangeNothing := by
  refine ⟨fun s t f bytes ok hr => ⟨?_, fun apart => ?_, fun early rest split begins => ?_⟩, fun s t bytes ok hr => ?_⟩
  · rw [← State.event_running hr t fun s => s]
    rfl
  · rw [State.exec_turnAnswer_runs hr, State.takeAnswer_nothing]
    intro x turn
    rw [State.opened_line] at turn
    rw [State.opened_now]
    rcases apart x turn with late | early | ⟨whole, incomplete⟩
    · exact .inl late
    · rw [inWindow_closed _ _ _ (Nat.le_of_lt early)]
      exact .inr rfl
    · rw [inWindow_whole _ _ _ whole]
      exact .inr incomplete
  · rw [State.exec_turnAnswer_runs hr, State.exec_turnAnswer_runs hr, State.takeAnswer_congr]
    intro x turn
    rw [State.opened_line] at turn
    rw [State.opened_now, split]
    exact inWindow_append _ _ early rest (begins x turn)
  · intro offset
    have arrival : (s.opened t).now - (s.opened t).gap.cycleStart = offset := by rw [State.opened_now, State.opened_gap]
    refine ⟨fun outside => ?_, fun i hi low high => ?_⟩
    · rw [State.exec_scanFrameArrival_runs hr, State.takeScan_outside (by rw [arrival, slotAt_outside outside])]
    · rw [State.exec_scanFrameArrival_runs hr, State.takeScan_slot (by rw [arrival, slotAt_slot hi low high])]

end Sys2Proof.Machine
end

section
/-! PROOFS. What a bad frame, or an answer that does not come, makes of its unit's door, of its exchange and of the next turn (R84, R92 to R94,
R98). -/

namespace Sys2Proof.Machine

/-! ### The charge to a unit (R92 to R94) -/

namespace UnitLink

/-- The bad count after one bad frame more, which rises up to the face's limit (R93). -/
def chargedCount (l : UnitLink) (limit : Nat) : Nat := if l.badCount < limit then l.badCount + 1 else l.badCount

/-- Whether that bad frame loses the link (R94). -/
def loses (l : UnitLink) (limit : Nat) : Bool := !l.lost && decide (limit ≤ l.chargedCount limit)

/-- A link record charged with a bad frame where the bad count and the loss are those of `own`; `bump` counts (R93, R94). -/
def chargedAs (own : UnitLink) (limit : Nat) (bump : Counter → Counter) (l : UnitLink) : UnitLink :=
  { l with badFrames := bump l.badFrames, badCount := own.chargedCount limit, lost := l.lost || own.loses limit }

/-- The link record charged with a bad frame, its command slot aside. -/
def charged (l : UnitLink) (limit : Nat) (bump : Counter → Counter) : UnitLink := l.chargedAs limit bump l

theorem loses_iff (l : UnitLink) (limit : Nat) : l.loses limit = true ↔ l.lost = false ∧ limit ≤ l.chargedCount limit := by
  simp [loses]

theorem wasSent_iff (l : UnitLink) (c : Carried) :
    l.wasSent c = true ↔ ∃ k n cmd, l.slot = some k ∧ k.seq = some n ∧ c = .command cmd n := by
  unfold wasSent
  cases c with
  | nothing | tunnel => simp
  | command cmd n =>
    cases l.slot with
    | none => simp
    | some k => simp

theorem spend_more {l : UnitLink} {k : SlotCommand} (hk : l.slot = some k) (h : 2 ≤ k.left) :
    l.spend = ({ l with slot := some { k with left := k.left - 1 } }, false) := by
  rw [spend, hk]
  exact if_neg (by omega)

theorem spend_last {l : UnitLink} {k : SlotCommand} (hk : l.slot = some k) (h : k.left ≤ 1) :
    l.spend = ({ l with slot := none }, true) := by
  rw [spend, hk]
  exact if_pos h

/-- A send that is charged touches the command slot alone. -/
theorem spend_sameLink (l : UnitLink) : { l.spend.1 with slot := l.slot } = l := by
  unfold spend
  split
  · rfl
  · split <;> rfl

end UnitLink

namespace Door

/-- A bad frame as one event of the door whose unit it is charged to: contact is lost, or else a send of the command in the slot costs one
send (R70, R71, R92 to R94). -/
def charge (d : Door) (limit : Nat) (bump : Counter → Counter) (c : Carried) : DoorOutcome :=
  let d1 := d.modLink fun l => l.charged limit bump
  if d.link.loses limit then d1.loseContact
  else if d.link.wasSent c then
    if d.link.spend.2 then d1.exhausted else plain (d1.modLink fun l => l.spend.1)
  else plain d1

section

variable {d : Door} {limit : Nat} {c : Carried} (bump : Counter → Counter)

theorem charge_loses (h : d.link.loses limit = true) :
    d.charge limit bump c = (d.modLink fun l => l.charged limit bump).loseContact := if_pos h

theorem charge_unsent (h : ¬d.link.loses limit = true) (hs : ¬d.link.wasSent c = true) :
    d.charge limit bump c = plain (d.modLink fun l => l.charged limit bump) := (if_neg h).trans (if_neg hs)

theorem charge_spends {k : SlotCommand} (h : ¬d.link.loses limit = true) (hs : d.link.wasSent c = true) (hk : d.link.slot = some k)
    (more : 2 ≤ k.left) : d.charge limit bump c =
      plain (d.modLink fun l => { l.charged limit bump with slot := some { k with left := k.left - 1 } }) := by
  have spend := UnitLink.spend_more (l := d.link.charged limit bump) hk more
  refine (if_neg h).trans ((if_pos hs).trans ((if_neg (by simp [UnitLink.spend_more hk more])).trans ?_))
  simp [modLink, spend]

theorem charge_exhausts {k : SlotCommand} (h : ¬d.link.loses limit = true) (hs : d.link.wasSent c = true) (hk : d.link.slot = some k)
    (last : k.left ≤ 1) : d.charge limit bump c = (d.modLink fun l => l.charged limit bump).exhausted :=
  (if_neg h).trans ((if_pos hs).trans (if_pos (by simp [UnitLink.spend_last hk last])))

/-- Beside its state, its timer and its link a door keeps its record. -/
theorem charge_keeps (d : Door) (limit : Nat) (c : Carried) :
    { (d.charge limit bump c).door with state := d.state, timer := d.timer, link := d.link } = d := by
  have contact (e : Door) : { e.loseContact.door with state := d.state, timer := d.timer, link := d.link } =
      { e with state := d.state, timer := d.timer, link := d.link } := by
    simp only [loseContact]
    split <;> rfl
  unfold charge
  dsimp only
  split
  · rw [contact]
    rfl
  · split
    · split <;> rfl
    · rfl

/-- Beside its command slot the link is charged in every case. -/
theorem charge_sameLink (d : Door) (limit : Nat) (c : Carried) :
    (d.modLink fun l => l.charged limit bump).SameLink (d.charge limit bump c).door := by
  have contact (e : Door) : e.SameLink e.loseContact.door := by
    simp only [loseContact]
    split <;> rfl
  unfold charge
  dsimp only
  split
  · exact contact _
  · split
    · split
      · rfl
      · exact UnitLink.spend_sameLink _
    · exact .refl _

/-- Contact is lost with the link as charged, and the door is LOST unless it is LOCKED_OUT (R71, R94). -/
theorem charge_lost (h : d.link.loses limit = true) :
    (d.charge limit bump c).events = [.doorLost] ∧ (d.charge limit bump c).door.link = d.link.charged limit bump ∧
      (d.isolation = .lockedOut → (d.charge limit bump c).door.state = d.state) ∧
      (d.isolation ≠ .lockedOut → (d.charge limit bump c).door.state = .lost ∧ (d.charge limit bump c).door.timer = none) := by
  rw [charge_loses bump h]
  by_cases locked : d.isolation = .lockedOut <;> simp [loseContact, goTo, modLink, locked]

end

/-! ### The turn that follows (R86, R89) -/

/-- Nothing is sent to a unit whose link is lost. -/
theorem begun_of_lost {d : Door} (h : d.link.lost = true) (kind : TurnKind) : d.begun kind = d := by
  rw [begun, modLink, UnitLink.begun_of_silent (UnitLink.sends_nothing (.inr (.inr (.inl h))))]

theorem begun_of_empty {d : Door} (h : d.link.slot = none) (kind : TurnKind) : d.begun kind = d := by
  rw [begun, modLink, UnitLink.begun_of_silent (UnitLink.sends_nothing (.inl h))]

/-- A command that has been sent keeps its number. -/
theorem begun_of_sent {d : Door} {k : SlotCommand} {n : BitVec 4} (hk : d.link.slot = some k) (hn : k.seq = some n) (kind : TurnKind) :
    d.begun kind = d := by
  have same : d.link.begun kind = d.link := by
    cases sends : d.link.sends kind with
    | none => exact UnitLink.begun_of_silent sends
    | some c =>
      obtain rfl : k = c := Option.some.inj (hk.symm.trans (State.sends_slot sends))
      exact UnitLink.begun_of_numbered sends hn
  rw [begun, modLink, same]

end Door

/-- A line whose turn is charged: an exchange that the turn sent waits again (R98). -/
def DoorLine.unsent (l : DoorLine) (kind : TurnKind) : DoorLine :=
  if kind = .tunnel then { l with tunnel := l.tunnel.map fun y => { y with sent := false } } else l

theorem DoorLine.unsent_absent {l : DoorLine} (h : l.tunnel = none) (kind : TurnKind) : (l.unsent kind).tunnel = none := by
  unfold unsent
  split
  · simp [h]
  · exact h

theorem DoorLine.unsent_tunnel {l : DoorLine} {y : Tunnel} (h : l.tunnel = some y) :
    (l.unsent .tunnel).tunnel = some { y with sent := false } := by
  rw [unsent, if_pos rfl, h]
  rfl

namespace State

/-! ### The next turn where an exchange waits (R84) -/

theorem beginTurn_line (s : State) (f : Face) (kind : TurnKind) (drop : Nat) : ∃ x : Turn, x.kind = kind ∧ x.drop = drop ∧
    ((s.beginTurn f kind drop).face f).line = (s.face f).line.taking x := by
  unfold beginTurn
  dsimp only
  generalize UnitLink.carries _ kind _ = c
  refine ⟨{ drop := drop, kind := kind, carried := c, windowEnd := s.now + dropFrameTime drop c + answerWindow, orphan := false },
    rfl, rfl, ?_⟩
  rw [modLine_same, modDropLink, modDoors_line]
  rfl

theorem nextTurn_begins {s : State} {f : Face} {kind : TurnKind} {drop : Nat} (hc : s.configured f = true)
    (h : chooseTurn (s.face f).doors { (s.face f).line with turn := none } = some (kind, drop)) :
    s.nextTurn f = (s.modLine f fun l => { l with turn := none }).beginTurn f kind drop := by
  have chosen : chooseTurn ((s.modLine f fun l => { l with turn := none }).face f).doors
      ((s.modLine f fun l => { l with turn := none }).face f).line = some (kind, drop) := by
    simpa using h
  have configured : (s.modLine f fun l => { l with turn := none }).configured f = true := hc
  unfold nextTurn
  dsimp only
  rw [if_pos configured, chosen]

/-- An exchange that waits takes the next turn, or an urgent command does. -/
theorem nextTurn_waiting {s : State} {f : Face} {y : Tunnel} (hc : s.configured f = true) (ht : (s.face f).line.tunnel = some y)
    (hs : y.sent = false) : ∃ x, ((s.nextTurn f).face f).line.turn = some x ∧
      ((s.nextTurn f).face f).line.tunnel = some { y with sent := Decidable.decide (x.kind = .tunnel) } ∧
      (x.kind = .urgent ∨ x.kind = .tunnel ∧ x.drop = y.drop) := by
  cases urgent : urgentDrop (s.face f).doors with
  | some drop =>
    have next := nextTurn_begins hc (show chooseTurn _ _ = some (.urgent, drop) by rw [chooseTurn, urgent])
    obtain ⟨x, kind, -, line⟩ := beginTurn_line (s.modLine f fun l => { l with turn := none }) f .urgent drop
    refine ⟨x, ?_, ?_, .inl kind⟩
    · rw [next, line, DoorLine.taking]
    · obtain ⟨tag, address, payload, since, sent⟩ := y
      obtain rfl : sent = false := hs
      simp [next, line, DoorLine.taking, kind, ht]
  | none =>
    have next := nextTurn_begins hc (chooseTurn_tunnel (line := { (s.face f).line with turn := none }) urgent ht hs)
    obtain ⟨x, kind, drop, line⟩ := beginTurn_line (s.modLine f fun l => { l with turn := none }) f .tunnel y.drop
    refine ⟨x, ?_, ?_, .inr ⟨kind, drop⟩⟩
    · rw [next, line, DoorLine.taking]
    · simp [next, line, DoorLine.taking, kind, ht]

end State

end Sys2Proof.Machine
end

section
/-! PROOFS. O40: the bad frame and the expired window as a step (R81, R84, R87, R92 to R94, R98). -/

namespace Sys2Proof.Machine

namespace State

/-! ### The step -/

/-- A window that is over without an answer is charged as a bad frame, and the next turn begins (R81, R87). -/
theorem windowExpiry_due {s : State} {f : Face} {x : Turn} (ht : (s.face f).line.turn = some x) (h : x.windowEnd ≤ s.now) :
    s.windowExpiry f = (s.badFrame f x).nextTurn f := by
  rw [windowExpiry, ht]
  exact if_pos h

theorem takeAnswer_bad {s : State} {f : Face} {x : Turn} {bytes : List Byte} {ok : Bool} (ht : (s.face f).line.turn = some x)
    (hw : s.now ≤ x.windowEnd) (hj : judgeAnswer x.drop (inWindow x.windowEnd s.now bytes) ok = .bad) :
    s.takeAnswer f bytes ok = (s.badFrame f x).nextTurn f := by
  rw [takeAnswer, ht]
  dsimp only
  rw [if_neg (Nat.not_lt.2 hw), hj]

theorem exec_charged {s : State} {t : Micros} {f : Face} {c : Instr} {x : Turn} (hr : s.running = true)
    (ht : (s.face f).line.turn = some x)
    (hc : c = .answerWindowExpiry t f ∧ x.windowEnd ≤ max s.now t ∨
      ∃ bytes ok, c = .turnAnswer t f bytes ok ∧ max s.now t ≤ x.windowEnd ∧ x.windowEnd + 11 * bytes.length ≤ max s.now t + 800 ∧
        judgeAnswer x.drop bytes ok = .bad) :
    exec c s = .next (((s.opened t).badFrame f x).nextTurn f).arbitrate := by
  have turn : ((s.opened t).face f).line.turn = some x := by rwa [opened_line]
  rcases hc with ⟨rfl, past⟩ | ⟨bytes, ok, rfl, inside, whole, bad⟩
  · rw [← windowExpiry_due turn (by rwa [opened_now]), ← event_running hr t fun s => s.windowExpiry f]
    rfl
  · rw [exec_turnAnswer_runs hr, takeAnswer_bad turn (by rwa [opened_now]) (by rwa [opened_now, inWindow_whole _ _ bytes whole])]

/-! ### The charge as an event of the door -/

/-- A bad frame by its parts: the exchange waits again, the unit's link is charged, and the door loses contact or its command a send. -/
theorem badFrame_eq {s : State} {f : Face} {x : Turn} {d : Door} {p : FaceParams} (ho : x.orphan = false)
    (hd : s.findDrop f x.drop = some d) (hp : s.params? f = some p) : s.badFrame f x =
      let a := (s.modLine f fun l => l.unsent x.kind).modDropLink f x.drop (d.link.chargedAs p.badFrameLimit s.bump)
      if d.link.loses p.badFrameLimit then a.applyDoor f d.number fun _ d => d.loseContact
      else if d.link.wasSent x.carried then a.accountSend f d
      else a := by
  have waits : (if x.kind = .tunnel ∧ ¬x.orphan = true then
      s.modLine f fun l => { l with tunnel := l.tunnel.map fun y => { y with sent := false } } else s) =
        s.modLine f fun l => l.unsent x.kind := by
    by_cases tunnel : x.kind = .tunnel
    · simp [tunnel, ho, DoorLine.unsent]
    · rw [if_neg fun h => tunnel h.1]
      simp only [DoorLine.unsent, if_neg tunnel]
      cases f <;> rfl
  have found : (s.modLine f fun l => l.unsent x.kind).findDrop f x.drop = some d := by
    rw [findDrop, modLine_doors]
    exact hd
  have params : (s.modLine f fun l => l.unsent x.kind).params? f = some p := hp
  unfold badFrame
  rw [waits]
  dsimp only
  rw [ho, if_neg Bool.false_ne_true, found, params]
  rfl

theorem accountSend_congr {s : State} {f : Face} {d e : Door} (hn : e.number = d.number) (hp : e.drop = d.drop)
    (hs : e.link.slot = d.link.slot) : s.accountSend f e = s.accountSend f d := by
  have last : e.link.spend.2 = d.link.spend.2 := by
    simp only [UnitLink.spend, hs]
    split
    · rfl
    · split <;> rfl
  rw [accountSend, accountSend, last, hn, hp]

/-- The charge reaches the door as one event of its record (R70, R71, R92 to R94). -/
theorem badFrame_reaches {s : State} {f : Face} {x : Turn} {d : Door} {p : FaceParams} (ordered : doorsOrdered s)
    (drops : ((s.face f).doors.map fun y => y.drop).Nodup) (ho : x.orphan = false) (hd : s.findDrop f x.drop = some d)
    (hp : s.params? f = some p) :
    let o := d.charge p.badFrameLimit s.bump x.carried
    Reached f d o.door (s.modLine f fun l => l.unsent x.kind) (s.badFrame f x) ∧
      ∀ q ∈ o.events, q ∈ (s.badFrame f x).lif.flags.get (.face f) := by
  intro o
  obtain ⟨mem, drop⟩ : d ∈ (s.face f).doors ∧ d.drop = x.drop := ⟨List.mem_of_find?_eq_some hd, by simpa using List.find?_some hd⟩
  have parts := badFrame_eq ho hd hp
  rw [← drop] at parts
  generalize hw : (s.modLine f fun l => l.unsent x.kind) = w at parts ⊢
  have doors (g : Face) : (w.face g).doors = (s.face g).doors := by rw [← hw, modLine_doors]
  have ordered' : doorsOrdered w := fun g => by rw [doors]; exact ordered g
  have drops' : ((w.face f).doors.map fun y => y.drop).Nodup := by rwa [doors]
  have mem' : d ∈ (w.face f).doors := by rwa [doors]
  have found : w.findDoor f d.number = some d := findDoor_of_mem (DistinctDoors.of_ordered ordered' f) mem'
  have charged := reached_modDropLink (d.link.chargedAs p.badFrameLimit s.bump) ordered' drops' mem' rfl (.refl w)
  dsimp only at parts
  by_cases loses : d.link.loses p.badFrameLimit = true
  · rw [if_pos loses] at parts
    rw [parts, show o = _ from Door.charge_loses s.bump loses]
    exact ⟨charged.silently found (fun _ y => y.loseContact) (fun _ => (Door.loseContact_keepsEnable _).number) fun _ => rfl,
      applyDoor_events (charged.findDoor found) fun _ y => y.loseContact⟩
  rw [if_neg loses] at parts
  by_cases sent : d.link.wasSent x.carried = true
  · obtain ⟨k, n, cmd, hk, -⟩ := (UnitLink.wasSent_iff _ _).1 sent
    obtain ⟨spends, exhausts⟩ := reached_accountSend (s := w) (d.link.chargedAs p.badFrameLimit s.bump) ordered' drops'
      found rfl (.refl w) hk
    rw [accountSend_congr (e := d.modLink (d.link.chargedAs p.badFrameLimit s.bump)) (d := d) rfl rfl rfl] at spends exhausts
    rw [if_pos sent] at parts
    rw [parts]
    by_cases last : k.left ≤ 1
    · rw [show o = _ from Door.charge_exhausts s.bump loses sent hk last]
      obtain ⟨reached, stalled⟩ := exhausts last
      exact ⟨reached, fun q hq => by rwa [List.mem_singleton.1 hq]⟩
    · rw [show o = _ from Door.charge_spends s.bump loses sent hk (Nat.lt_of_not_le last)]
      exact ⟨spends (Nat.lt_of_not_le last), nofun⟩
  · rw [if_neg sent] at parts
    rw [parts, show o = _ from Door.charge_unsent s.bump loses sent]
    exact ⟨charged, nofun⟩

end State

/-! ### The next turn -/

/-- The state `u` at the end of a step whose event left the door record `e` and the state `p`, and whose next turn has begun: every record may
have had its first send, an exchange that waits has its turn unless an urgent command takes it, and nothing else has changed. -/
structure TurnFollows (f : Face) (d e : Door) (s p u : State) : Prop where
  quiet : Quiet p u
  door : ∃ k, u.findDoor f d.number = some (e.begun k)
  others : ∀ y ∈ (s.face f).doors, y.number ≠ d.number → ∃ k, u.findDoor f y.number = some (y.begun k)
  turn : ∃ x, (u.face f).line.turn = some x ∧ s.now + 800 < x.windowEnd ∧
    ((s.face f).line.tunnel = none → (u.face f).line.tunnel = none) ∧
    ∀ y, (s.face f).line.tunnel = some y → y.sent = false →
      (u.face f).line.tunnel = some { y with sent := decide (x.kind = .tunnel) } ∧
        (x.kind = .urgent ∨ x.kind = .tunnel ∧ x.drop = y.drop)
  blocks : ∃ ds l, u.blocks = s.blocks.modFace f fun b => { b with doors := ds, line := l }

theorem Reached.turnFollows {f : Face} {d e : Door} {s p : State} (h : Reached f d e s p) (distinct : State.DistinctDoors (s.face f))
    (hd : s.findDoor f d.number = some d) (hc : s.configured f = true) :
    TurnFollows f d e s p (p.nextTurn f).arbitrate := by
  have configured : p.configured f = true := (State.configured_of_tbs (congrArg Blocks.tbs h.blocks) f).trans hc
  obtain ⟨k, m, next, begins, begun⟩ := State.nextTurn_blocks configured
  obtain ⟨-, doors, -, -, line, -⟩ := State.face_records_of h.blocks f
  rw [Blocks.get_modFace, State.blocks_get] at doors line
  have ends : (p.nextTurn f).arbitrate.blocks = s.blocks.modFace f fun b =>
      { b with doors := (b.doors.map (putRecord d e)).map fun y => y.begun (k y), line := m } := by
    rw [State.arbitrate_blocks, next, h.blocks, Blocks.modFace_modFace]
  obtain ⟨-, doors', -, -, line', -⟩ := State.face_records_of ends f
  rw [Blocks.get_modFace, State.blocks_get] at doors' line'
  have finds (n : Nat) : (p.nextTurn f).arbitrate.findDoor f n =
      (s.findDoor f n).map fun y => (putRecord d e y).begun (k (putRecord d e y)) := by
    rw [State.findDoor, doors', List.map_map]
    exact find?_number_map (h := fun y => (putRecord d e y).begun (k (putRecord d e y))) (putRecord_number h.number)
      (s.face f).doors n
  refine ⟨(State.nextTurn_steadfast p f).toQuiet.trans (State.arbitrate_calm _).toQuiet, ⟨k e, ?_⟩, fun y hy other => ⟨k y, ?_⟩, ?_,
    (s.face f).doors.map (putRecord d e) |>.map fun y => y.begun (k y), m, ?_⟩
  · rw [finds, hd, Option.map_some, putRecord_same]
  · rw [finds, State.findDoor_of_mem distinct hy, Option.map_some, putRecord_other _ other]
  · have some : m.turn ≠ none := begun (by
      rw [doors]
      exact List.ne_nil_of_mem (List.mem_map_of_mem (State.findDoor_some hd).1))
    obtain ⟨x, taken⟩ := Option.ne_none_iff_exists'.1 some
    have turn : ((p.nextTurn f).arbitrate.face f).line.turn = .some x := by rw [line']; exact taken
    refine ⟨x, turn, by rw [← h.quiet.now]; exact begins.window x taken, fun absent => ?_, fun y waits unsent => ?_⟩
    · rw [line']
      exact begins.tunnel (by rw [line]; exact absent)
    · obtain ⟨x', turn', exchange, kind⟩ := State.nextTurn_waiting configured (by rw [line]; exact waits) unsent
      rw [State.arbitrate_line] at turn
      obtain rfl : x = x' := Option.some.inj (turn.symm.trans turn')
      rw [State.arbitrate_line]
      exact ⟨exchange, kind⟩
  · rw [ends]
    exact Blocks.modFace_congr (by rw [State.blocks_get]; rfl)

/-- The end `u` of a step whose bad frame is the event `o` of the door that the turn `x` was sent to: the events are raised, every record may
have had its first send, an exchange that `x` sent waits for the next turn, and nothing else has changed. -/
structure ChargeFollows (f : Face) (x : Turn) (d : Door) (o : DoorOutcome) (s u : State) : Prop where
  quiet : Quiet s u
  events : ∀ q ∈ o.events, q ∈ u.lif.flags.get (.face f)
  door : ∃ k, u.findDoor f d.number = some (o.door.begun k)
  others : ∀ y ∈ (s.face f).doors, y.number ≠ d.number → ∃ k, u.findDoor f y.number = some (y.begun k)
  turn : ∃ x', (u.face f).line.turn = some x' ∧ s.now + 800 < x'.windowEnd ∧
    ((s.face f).line.tunnel = none → (u.face f).line.tunnel = none) ∧
    (x.kind = .tunnel → ∀ y, (s.face f).line.tunnel = some y →
      (u.face f).line.tunnel = some { y with sent := decide (x'.kind = .tunnel) } ∧
        (x'.kind = .urgent ∨ x'.kind = .tunnel ∧ x'.drop = y.drop))
  blocks : ∃ ds l, u.blocks = s.blocks.modFace f fun b => { b with doors := ds, line := l }

theorem State.badFrame_follows {s : State} {f : Face} {x : Turn} {d : Door} {p : FaceParams} (ordered : doorsOrdered s)
    (drops : ((s.face f).doors.map fun y => y.drop).Nodup) (ho : x.orphan = false) (hd : s.findDrop f x.drop = some d)
    (hp : s.params? f = some p) :
    ChargeFollows f x d (d.charge p.badFrameLimit s.bump x.carried) s ((s.badFrame f x).nextTurn f).arbitrate := by
  obtain ⟨reached, events⟩ := badFrame_reaches ordered drops ho hd hp
  have calm : Calm s (s.modLine f fun l => l.unsent x.kind) := .of_eq rfl rfl fun _ => by simp
  have before := modLine_blocks s f fun l => l.unsent x.kind
  have line : ((s.modLine f fun l => l.unsent x.kind).face f).line = (s.face f).line.unsent x.kind := modLine_same ..
  have doors : ((s.modLine f fun l => l.unsent x.kind).face f).doors = (s.face f).doors := modLine_doors ..
  generalize (s.modLine f fun l => l.unsent x.kind) = w at *
  have distinct : DistinctDoors (w.face f) := (DistinctDoors.of_ordered ordered f).of_doors doors
  have found : w.findDoor f d.number = some d := findDoor_of_mem distinct (by rw [doors]; exact List.mem_of_find?_eq_some hd)
  have configured : w.configured f = true := by
    rw [configured_of_tbs (congrArg Blocks.tbs before : w.tbs = s.tbs), configured, hp]
    rfl
  obtain ⟨quiet, door, others, ⟨x', taken, window, absent, waiting⟩, ds, l, blocks⟩ := reached.turnFollows distinct found configured
  rw [line] at absent waiting
  refine ⟨calm.toQuiet.trans (reached.quiet.trans quiet), fun q hq => quiet.flags _ q (events q hq), door,
    fun y hy => others y (by rwa [doors]), ⟨x', taken, ?_, fun none => absent (DoorLine.unsent_absent none _), fun tunnel y exchange => ?_⟩,
    ds, l, ?_⟩
  · rwa [← calm.now]
  · rw [tunnel] at waiting
    exact waiting { y with sent := false } (DoorLine.unsent_tunnel exchange) rfl
  · rw [blocks, before, Blocks.modFace_modFace]

/-- Settles O40: the frame is charged to its door as one event, and the next turn follows. -/
theorem badFrameIsChargedToItsUnit : Obligations.BadFrameIsChargedToItsUnit := by
  intro s t f c x d p ordered drops hr hp ht ho hd hc count loses
  have lost_iff : d.link.loses p.badFrameLimit = true ↔ loses := UnitLink.loses_iff _ _
  have sent_iff := UnitLink.wasSent_iff d.link x.carried
  have follows := State.badFrame_follows (s := s.opened t) (x := x) (fun g => by rw [State.opened_doors]; exact ordered g)
    (by rwa [State.opened_doors]) ho (by rwa [State.opened_findDrop]) (by rwa [State.opened_params?])
  rw [show (s.opened t).bump = s.bump from funext (State.opened_bump s t)] at follows
  obtain ⟨quiet, raised, ⟨kind, door⟩, others, turn, ds, l, blocks⟩ := follows
  rw [State.opened_doors] at others
  rw [State.opened_line, State.opened_now] at turn
  rw [State.opened_blocks] at blocks
  obtain ⟨berth, -, deferral, -, -, release⟩ := State.face_records_of blocks f
  rw [Blocks.get_modFace, State.blocks_get] at berth deferral release
  have keeps := Door.charge_keeps s.bump d p.badFrameLimit x.carried
  have same := Door.charge_sameLink s.bump d p.badFrameLimit x.carried
  obtain ⟨badCount, unlost, base, badFrames⟩ := UnitLink.begun_keeps (d.charge p.badFrameLimit s.bump x.carried).door.link kind
  refine ⟨_, State.exec_charged hr ht hc, ?_, ?_, ⟨_, door, badCount.trans same.badCount, badFrames.trans same.badFrames, ?_,
    base.trans same.base, (congrArg Door.lastStatus keeps :), (congrArg Door.enabled keeps :), (congrArg Door.isolation keeps :),
    (congrArg Door.latched keeps :), (congrArg Door.evacOpened keeps :), (congrArg Door.recycleCount keeps :), fun lost => ?_,
    fun kept unsent => ?_, fun kept k n cmd slot seq carried => ⟨fun more => ?_, fun last => ?_⟩⟩, fun y hy other => ?_, turn,
    berth, deferral, release, congrArg Blocks.holds blocks, congrArg Blocks.aln blocks, congrArg Blocks.gap blocks,
    congrArg Blocks.tbs blocks⟩
  · rw [quiet.intake, State.opened_lif_intake]
  · rw [quiet.replies, State.opened_lif_replies]
  · refine (unlost.trans same.lost).trans (congrArg (d.link.lost || ·) ?_)
    rw [Bool.eq_iff_iff, lost_iff, decide_eq_true_iff]
  · obtain ⟨event, link, locked, free⟩ := Door.charge_lost (c := x.carried) s.bump (lost_iff.2 lost)
    rw [Door.begun_of_lost (by rw [link]; simp [UnitLink.charged, UnitLink.chargedAs, lost_iff.2 lost])]
    exact ⟨by rw [link]; rfl, raised _ (by rw [event]; exact List.mem_cons_self), locked, free⟩
  · have never : ¬d.link.wasSent x.carried = true := fun sent => by
      obtain ⟨k, n, cmd, slot, seq, carried⟩ := sent_iff.1 sent
      exact unsent k n cmd slot seq carried
    rw [Door.charge_unsent s.bump (mt lost_iff.1 kept) never]
    exact ⟨rfl, rfl, Door.begun_slotCommand _ _⟩
  · have sent := sent_iff.2 ⟨k, n, cmd, slot, seq, carried⟩
    rw [Door.charge_spends s.bump (mt lost_iff.1 kept) sent slot more,
      Door.begun_of_sent (k := { k with left := k.left - 1 }) rfl seq]
    exact ⟨rfl, rfl, rfl⟩
  · have sent := sent_iff.2 ⟨k, n, cmd, slot, seq, carried⟩
    rw [Door.charge_exhausts s.bump (mt lost_iff.1 kept) sent slot last] at raised ⊢
    rw [Door.begun_of_empty rfl]
    exact ⟨rfl, rfl, rfl, raised _ List.mem_cons_self⟩
  · obtain ⟨k, y'⟩ := others y hy other
    obtain ⟨badCount, unlost, base, -⟩ := UnitLink.begun_keeps y.link k
    exact ⟨y.begun k, y', rfl, Door.begun_slotCommand _ _, base, unlost, badCount⟩

end Sys2Proof.Machine
end

section
/-! PROOFS. O42: one head's scan at a cycle end and one zone's evaluation (R106, R108, R109, R112, R113, R117, R200). -/

namespace Sys2Proof.Machine

/-! ### The scan frame as its bytes (R106, R200) -/

/-- The bytes of the good scan frame that carries a beam vector. -/
def scanBytes (slot : Nat) (cycle : BitVec 8) (v : Beams) : List Byte :=
  [BitVec.ofNat 8 slot, cycle, v.extractLsb' 8 8, v.extractLsb' 0 8]

/-- A beam vector is its high byte and its low byte. -/
theorem beams_eq_append_iff (b2 b3 : Byte) (v : Beams) : b2 ++ b3 = v ↔ b2 = v.extractLsb' 8 8 ∧ b3 = v.extractLsb' 0 8 := by
  constructor
  · rintro rfl
    exact ⟨BitVec.extractLsb'_append_eq_left.symm, 
      ((BitVec.extractLsb'_append_eq_of_add_le (Nat.le_refl _)).trans BitVec.extractLsb'_eq_self).symm⟩
  · rintro ⟨rfl, rfl⟩
    exact (BitVec.extractLsb'_append_extractLsb'_eq_extractLsb' rfl).trans BitVec.extractLsb'_eq_self

theorem byte_toNat_eq_iff {n : Nat} (h : n < 256) (b : Byte) : b.toNat = n ↔ b = BitVec.ofNat 8 n := by
  rw [BitVec.toNat_eq, BitVec.toNat_ofNat, Nat.mod_eq_of_lt h]

/-- A scan is good exactly for the frame that carries its vector, without a parity error. -/
theorem judgeScan_eq_some_iff {slot : Nat} (h : slot < 16) (cycle : BitVec 8) (bytes : List Byte) (ok : Bool) (v : Beams) :
    judgeScan slot cycle bytes ok = some v ↔
      ok = true ∧ bytes = scanBytes slot cycle v ++ [crc8 (scanBytes slot cycle v)] := by
  unfold judgeScan scanBytes
  split
  next b0 b1 b2 b3 c =>
    simp only [Option.ite_none_right_eq_some, Option.some.injEq, byte_toNat_eq_iff (Nat.lt_trans h (by decide : 16 < 256)),
      beams_eq_append_iff, List.cons_append, List.nil_append, List.cons.injEq, and_true]
    constructor
    · rintro ⟨⟨parity, rfl, rfl, rfl⟩, rfl, rfl⟩
      exact ⟨parity, rfl, rfl, rfl, rfl, rfl⟩
    · rintro ⟨parity, rfl, rfl, rfl, rfl, rfl⟩
      exact ⟨⟨parity, rfl, rfl, rfl⟩, rfl, rfl⟩
  next other =>
    refine iff_of_false nofun fun ⟨_, frame⟩ => ?_
    exact other _ _ _ _ _ frame

/-! ### A head's scan (R106, R108, R109, R117) -/

theorem pushScan_length (window : List Beams) (v : Beams) (h : window.length ≤ 8) :
    (pushScan window v).length = min 8 (window.length + 1) := by
  unfold pushScan
  split <;> simp <;> omega

/-- A good scan brings a head to LIVE, or leaves its state. -/
theorem headNext_good (st : HeadState) (good : Nat) :
    headNext st 0 good = if good = 8 ∧ (st = .unknown ∨ st = .silent) then .live else st := by
  cases st <;> simp [headNext]

/-- A missing scan silences a LIVE head, or leaves its state. -/
theorem headNext_missing (st : HeadState) (missing : Nat) :
    headNext st missing 0 = if missing = 3 ∧ st = .live then .silent else st := by
  cases st <;> simp [headNext]

namespace Head

variable {h : Head} {cycle : BitVec 8} {v : Beams}

theorem take_good (used : h.inUse = true) (good : h.scanned cycle = some v) (bump : Counter → Counter) :
    h.take cycle bump =
      { h with window := pushScan h.window v, missingStreak := 0, goodStreak := min 8 (h.goodStreak + 1),
               state := headNext h.state 0 (min 8 (h.goodStreak + 1)), scan := .empty } := by
  rw [take, if_pos used, good]

theorem take_missing (used : h.inUse = true) (missing : h.scanned cycle = none) (bump : Counter → Counter) :
    h.take cycle bump =
      { h with window := pushScan h.window 0xFFFF#16, missingScans := bump h.missingScans, goodStreak := 0,
               missingStreak := min 3 (h.missingStreak + 1), state := headNext h.state (min 3 (h.missingStreak + 1)) 0,
               scan := .empty } := by
  rw [take, if_pos used, missing]

theorem take_unused (unused : ¬h.inUse = true) (cycle : BitVec 8) (bump : Counter → Counter) :
    h.take cycle bump = { h with scan := .empty } := by rw [take, if_neg unused]

/-- What a scan does to a head: nothing to one out of use; else a good one or a missing one enters. -/
theorem take_cases (h : Head) (cycle : BitVec 8) (bump : Counter → Counter) :
    h.take cycle bump = { h with scan := .empty } ∨
    (∃ v, h.scanned cycle = some v ∧ h.take cycle bump =
      { h with window := pushScan h.window v, missingStreak := 0, goodStreak := min 8 (h.goodStreak + 1),
               state := headNext h.state 0 (min 8 (h.goodStreak + 1)), scan := .empty }) ∨
    h.scanned cycle = none ∧ h.take cycle bump =
      { h with window := pushScan h.window 0xFFFF#16, missingScans := bump h.missingScans, goodStreak := 0,
               missingStreak := min 3 (h.missingStreak + 1), state := headNext h.state (min 3 (h.missingStreak + 1)) 0,
               scan := .empty } := by
  by_cases used : h.inUse = true
  · cases scan : h.scanned cycle with
    | none => exact .inr (.inr ⟨rfl, take_missing used scan bump⟩)
    | some v => exact .inr (.inl ⟨v, rfl, take_good used scan bump⟩)
  · exact .inl (take_unused used cycle bump)

end Head

/-! ### The metric of a beam set (R108, R112) -/

/-- The largest of `m` and the values of those of a list that pass a test. -/
def largest (p : Nat → Bool) (c : Nat → Nat) (l : List Nat) (m : Nat) : Nat := l.foldl (fun m i => if p i then max m (c i) else m) m

section

variable (p : Nat → Bool) (c : Nat → Nat)

theorem largest_upper (l : List Nat) (m : Nat) : m ≤ largest p c l m ∧ ∀ i ∈ l, p i = true → c i ≤ largest p c l m := by
  induction l generalizing m with
  | nil => exact ⟨Nat.le_refl m, nofun⟩
  | cons x rest ih =>
    obtain ⟨lower, upper⟩ := ih (if p x then max m (c x) else m)
    have step : largest p c (x :: rest) m = largest p c rest (if p x then max m (c x) else m) := rfl
    rw [step, List.forall_mem_cons]
    refine ⟨le_trans ?_ lower, fun passes => le_trans ?_ lower, upper⟩
    · split
      · exact Nat.le_max_left _ _
      · exact Nat.le_refl m
    · rw [if_pos passes]
      exact Nat.le_max_right _ _

theorem largest_attained (l : List Nat) (m : Nat) : largest p c l m = m ∨ ∃ i ∈ l, p i = true ∧ largest p c l m = c i := by
  induction l generalizing m with
  | nil => exact .inl rfl
  | cons x rest ih =>
    have step : largest p c (x :: rest) m = largest p c rest (if p x then max m (c x) else m) := rfl
    rw [step]
    rcases ih (if p x then max m (c x) else m) with first | ⟨i, member, passes, eq⟩
    · rw [first]
      split
      next passes => exact (max_choice m (c x)).imp_right fun eq => ⟨x, List.mem_cons_self, passes, eq⟩
      · exact .inl rfl
    · exact .inr ⟨i, List.mem_cons_of_mem x member, passes, eq⟩

end

theorem metric_eq_largest (beams : Beams) (window : List Beams) :
    metric beams window = largest (beams.getLsbD ·) (blockedCount window ·) (List.range 16) 0 := rfl

theorem le_metric {beams : Beams} {i : Nat} (h : beams.getLsbD i = true) (window : List Beams) :
    blockedCount window i ≤ metric beams window :=
  (largest_upper _ (blockedCount window ·) _ 0).2 i (List.mem_range.2 (BitVec.lt_of_getLsbD h)) h

/-- The metric of a beam set that is not empty is the blocked count of one of its beams. -/
theorem metric_attained {beams : Beams} (h : beams ≠ 0) (window : List Beams) :
    ∃ i, beams.getLsbD i = true ∧ metric beams window = blockedCount window i := by
  obtain ⟨i, bit⟩ : ∃ i, beams.getLsbD i = true := by
    by_contra none
    exact h (BitVec.eq_of_getLsbD_eq fun i _ => by simpa using (not_exists.1 none) i)
  rcases largest_attained (beams.getLsbD ·) (blockedCount window ·) (List.range 16) 0 with zero | ⟨j, -, bit', eq⟩
  · have least := le_metric bit window
    rw [metric_eq_largest, zero] at least ⊢
    exact ⟨i, bit, (Nat.le_zero.1 least).symm⟩
  · exact ⟨j, bit', eq⟩

/-! ### A zone's evaluation (R113, R117) -/

namespace Zone

theorem evaluate_live {h : Head} (live : h.state = .live) (z : Zone) (bump : Counter → Counter) :
    z.evaluate (some h) bump =
      { z with
        state := zoneNext z.state z.kOn z.kOff (Machine.metric z.beams h.window)
        metric := some (Machine.metric z.beams h.window)
        entries := if zoneNext z.state z.kOn z.kOff (Machine.metric z.beams h.window) = .occupied ∧ z.state ≠ .occupied then
          bump z.entries else z.entries } := by
  rw [evaluate, if_pos live]

theorem evaluate_notLive {h : Head} (other : h.state ≠ .live) (z : Zone) (bump : Counter → Counter) :
    z.evaluate (some h) bump = { z with state := .unknown, metric := none } := by rw [evaluate, if_neg other]

end Zone

theorem zoneNext_clear (kOn kOff m : Nat) : zoneNext .clear kOn kOff m = if kOn ≤ m then .occupied else .clear := rfl

theorem zoneNext_notClear {st : ZoneState} (h : st ≠ .clear) (kOn kOff m : Nat) :
    zoneNext st kOn kOff m = if m ≤ kOff then .clear else .occupied := by
  cases st
  case clear => exact absurd rfl h
  all_goals rfl

/-- Settles O42: the frame by its bytes, the head by its scan's two outcomes, the metric as a largest count, the zone by its head. -/
theorem headsAndZonesFollowTheirScans : Obligations.HeadsAndZonesFollowTheirScans := by
  refine ⟨fun slot cycle bytes ok v small => judgeScan_eq_some_iff small cycle bytes ok v,
    fun h cycle bump serves => ⟨fun v good => ?_, fun missing => ?_⟩, fun beams window m hm => ?_,
    fun z h bump => ⟨fun other => ?_, fun live => ?_⟩⟩
  · rw [Head.take_good (h.inUse_iff.2 serves) good]
    exact ⟨rfl, rfl, rfl, rfl, headNext_good _ _⟩
  · rw [Head.take_missing (h.inUse_iff.2 serves) missing]
    exact ⟨rfl, rfl, rfl, rfl, headNext_missing _ _⟩
  · subst hm
    exact ⟨fun i bit => le_metric bit window, fun some => metric_attained some window⟩
  · rw [Zone.evaluate_notLive other]
    exact ⟨rfl, rfl, rfl⟩
  · rw [Zone.evaluate_live live]
    refine ⟨rfl, fun clear => ?_, fun notClear => ?_, rfl⟩
    · rw [clear, zoneNext_clear]
    · exact zoneNext_notClear notClear _ _ _

end Sys2Proof.Machine
end

section
/-! PROOFS. The Gap Monitor's heads and zones through the operations of the other blocks (R107, R111): an adoption is noted, and no more;
nothing else there is touched. -/

namespace Sys2Proof.Machine

/-- The heads and the zones of a Gap Monitor: what is safe or not in it. -/
def GapMonitor.sensors (g : GapMonitor) : List Head × PerFace (List Zone) := (g.heads, g.zones)

namespace State

/-! ### The Door Sequencer, the close deferral, evacuation -/

@[simp] theorem endDeferral_gap (s : State) (f : Face) (c : EndCause) : (s.endDeferral f c).gap = s.gap := by simp [endDeferral]

@[simp] theorem endWithClose_gap (s : State) (f : Face) (c : EndCause) : (s.endWithClose f c).gap = s.gap := by simp [endWithClose]

@[simp] theorem cancelDeferral_gap (s : State) (f : Face) : (s.cancelDeferral f).gap = s.gap := by
  simp [cancelDeferral, apply_ite State.gap]

@[simp] theorem partnerDwellLapse_gap (s : State) (f : Face) : (s.partnerDwellLapse f).gap = s.gap := by
  simp [partnerDwellLapse, apply_ite State.gap]

@[simp] theorem partnerEnters_gap (s : State) (f : Face) (x : Millis) : (s.partnerEnters f x).gap = s.gap := by simp [partnerEnters]

@[simp] theorem partnerExits_gap (s : State) (f : Face) : (s.partnerExits f).gap = s.gap := by
  simp [partnerExits, apply_ite State.gap]

@[simp] theorem enterDwelling_gap (s : State) (f : Face) : (s.enterDwelling f).gap = s.gap := by
  simp [enterDwelling, apply_ite State.gap]

@[simp] theorem evacuationOpening_gap (s : State) (f : Face) : (s.evacuationOpening f).gap = s.gap := by simp [evacuationOpening]

@[simp] theorem beginEvacuation_gap (s : State) (f : Face) : (s.beginEvacuation f).gap = s.gap := by
  simp [beginEvacuation, apply_ite State.gap]

@[simp] theorem testEvacuation_gap (s : State) (f : Face) : (s.testEvacuation f).gap = s.gap := by
  simp [testEvacuation, apply_ite State.gap]

/-! ### Replies, and the Door Line Controller -/

@[simp] theorem reply_gap (s : State) (k t : Byte) (r : Result) (d : List Byte) : (s.reply k t r d).gap = s.gap := rfl

@[simp] theorem answer_gap (s : State) (q : Request) (r : Result) (d : List Byte) : (s.answer q r d).gap = s.gap := rfl

@[simp] theorem done_gap (s : State) (q : Request) : (s.done q).gap = s.gap := rfl

@[simp] theorem refuse_gap (s : State) (q : Request) (r : Reason) : (s.refuse q r).gap = s.gap := rfl

@[simp] theorem beginTurn_gap (s : State) (f : Face) (k : TurnKind) (d : Nat) : (s.beginTurn f k d).gap = s.gap := rfl

@[simp] theorem nextTurn_gap (s : State) (f : Face) : (s.nextTurn f).gap = s.gap := by
  unfold nextTurn
  dsimp only
  split
  · split <;> simp
  · simp

@[simp] theorem startLine_gap (s : State) (f : Face) : (s.startLine f).gap = s.gap := by simp [startLine, apply_ite State.gap]

@[simp] theorem endTunnel_gap (s : State) (f : Face) (r : Result) (d : List Byte) : (s.endTunnel f r d).gap = s.gap := by
  unfold endTunnel
  split <;> simp

@[simp] theorem followLine_gap (s : State) (f : Face) (was : Bool) : (s.followLine f was).gap = s.gap := by
  unfold followLine
  dsimp only
  split
  · split
    · split <;> simp [apply_ite State.gap]
    · simp
  · simp [apply_ite State.gap]

@[simp] theorem accountSend_gap (s : State) (f : Face) (d : Door) : (s.accountSend f d).gap = s.gap := by
  simp [accountSend, apply_ite State.gap]

@[simp] theorem badFrame_gap (s : State) (f : Face) (t : Turn) : (s.badFrame f t).gap = s.gap := by
  unfold badFrame
  dsimp only
  split <;> simp [apply_ite State.gap]

/-! ### Adoption, release, the end of a turn -/

@[simp] theorem handOnAdoption_sensors (s : State) (f : Face) (was : Bool) : (s.handOnAdoption f was).gap.sensors = s.gap.sensors := by
  simp [handOnAdoption, GapMonitor.sensors]

@[simp] theorem adopt_sensors (s : State) (f : Face) (b : BankId) : (s.adopt f b).gap.sensors = s.gap.sensors := by
  simp [adopt, beginCopy, apply_ite State.gap]

@[simp] theorem testAdoption_sensors (s : State) (f : Face) : (s.testAdoption f).gap.sensors = s.gap.sensors := by
  unfold testAdoption
  split
  · rfl
  · split <;> simp

@[simp] theorem becomeNormal_sensors (s : State) (f : Face) : (s.becomeNormal f).gap.sensors = s.gap.sensors := by simp [becomeNormal]

@[simp] theorem testRestore_sensors (s : State) (f : Face) : (s.testRestore f).gap.sensors = s.gap.sensors := by
  unfold testRestore
  split <;> simp

@[simp] theorem applyDoorRestore_sensors (s : State) (f : Face) (n : Nat) (g : DoorContext → Door → DoorOutcome) :
    (s.applyDoorRestore f n g).gap.sensors = s.gap.sensors := by
  unfold applyDoorRestore
  split
  · rfl
  · dsimp only
    split <;> simp

@[simp] theorem tunnelAnswered_gap (s : State) (f : Face) (t : Turn) (r : Option (List Byte)) :
    (s.tunnelAnswered f t r).gap = s.gap := by simp [tunnelAnswered, apply_ite State.gap]

@[simp] theorem goodFrame_sensors (s : State) (f : Face) (t : Turn) (st : Status) (r : Option (List Byte)) :
    (s.goodFrame f t st r).gap.sensors = s.gap.sensors := by
  unfold goodFrame
  split
  · rfl
  · simp [apply_ite State.gap]

theorem takeAnswer_sensors (s : State) (f : Face) (bytes : List Byte) (ok : Bool) :
    (s.takeAnswer f bytes ok).gap.sensors = s.gap.sensors := by
  rcases takeAnswer_cases s f bytes ok with h | ⟨x, -, -, ⟨-, h⟩ | ⟨st, r, -, h⟩⟩ <;> simp [h]

theorem windowExpiry_sensors (s : State) (f : Face) : (s.windowExpiry f).gap.sensors = s.gap.sensors := by
  rcases windowExpiry_cases s f with h | ⟨x, -, -, h⟩ <;> simp [h]

/-! ### The Berth Tracker and the Alignment Engine -/

@[simp] theorem vacate_gap (s : State) (f : Face) : (s.vacate f).gap = s.gap := by simp [vacate]

@[simp] theorem becomeVacant_sensors (s : State) (f : Face) : (s.becomeVacant f).gap.sensors = s.gap.sensors := by simp [becomeVacant]

@[simp] theorem requestAlignment_gap (s : State) (f : Face) (n : BitVec 8) : (s.requestAlignment f n).gap = s.gap := by
  unfold requestAlignment
  split <;> simp

@[simp] theorem withdrawAlignment_gap (s : State) (f : Face) : (s.withdrawAlignment f).gap = s.gap := by
  simp [withdrawAlignment, apply_ite State.gap]

@[simp] theorem takeAlignment_gap (s : State) (f : Face) (n : BitVec 8) : (s.takeAlignment f n).gap = s.gap := rfl

@[simp] theorem acceptAlignment_gap (s : State) (f : Face) (r : AlignResult) : (s.acceptAlignment f r).gap = s.gap := by
  simp [acceptAlignment, apply_ite State.gap]

@[simp] theorem deliverAlignment_gap (s : State) (i : InFlight) : (s.deliverAlignment i).gap = s.gap := by
  simp [deliverAlignment, apply_ite State.gap]

@[simp] theorem completeAlignment_gap (s : State) : s.completeAlignment.gap = s.gap := by
  unfold completeAlignment
  split
  · rfl
  · dsimp only
    split <;> simp

@[simp] theorem startSupervision_gap (s : State) (f : Face) : (s.startSupervision f).gap = s.gap := by
  unfold startSupervision
  split <;> simp

@[simp] theorem refuseTelegram_gap (s : State) (f : Face) (k : TelegramKind) (r : Reason) : (s.refuseTelegram f k r).gap = s.gap := by
  simp [refuseTelegram]

theorem takeArrival_gap (s : State) (f : Face) (body : List Byte) : (s.takeArrival f body).gap = s.gap := by
  unfold takeArrival
  split
  · split
    · simp
    · split <;> simp [acceptArrival]
  · simp

@[simp] theorem becomeDeparting_gap (s : State) (f : Face) : (s.becomeDeparting f).gap = s.gap := by
  simp [becomeDeparting, apply_ite State.gap]

@[simp] theorem acceptDeparture_gap (s : State) (f : Face) : (s.acceptDeparture f).gap = s.gap := by
  simp [acceptDeparture, apply_ite State.gap]

theorem takeDeparture_gap (s : State) (f : Face) (body : List Byte) : (s.takeDeparture f body).gap = s.gap := by
  simp [takeDeparture, apply_ite State.gap]

theorem takeCleared_sensors (s : State) (f : Face) (body : List Byte) : (s.takeCleared f body).gap.sensors = s.gap.sensors := by
  simp [takeCleared, apply_ite State.gap, apply_ite GapMonitor.sensors]

@[simp] theorem returnToApproaching_gap (s : State) (f : Face) (x : Sample) : (s.returnToApproaching f x).gap = s.gap := by
  simp [returnToApproaching, apply_ite State.gap]

@[simp] theorem moveFromDwelling_gap (s : State) (f : Face) : (s.moveFromDwelling f).gap = s.gap := by
  simp [moveFromDwelling, apply_ite State.gap]

@[simp] theorem testSample_gap (s : State) (f : Face) (p : FaceParams) (x : Sample) : (s.testSample f p x).gap = s.gap := by
  unfold testSample
  dsimp only
  split <;> simp [detectStandstill, apply_ite State.gap]

theorem takePosition_gap (s : State) (f : Face) (body : List Byte) : (s.takePosition f body).gap = s.gap := by
  unfold takePosition
  split
  · simp
  · split
    · simp
    · split <;> simp [joinSample, refreshSupervision, apply_ite State.gap]

theorem supervisionLapse_sensors (s : State) (f : Face) : (s.supervisionLapse f).gap.sensors = s.gap.sensors := by
  unfold supervisionLapse
  dsimp only
  split
  · split <;> simp
  · rfl

/-! ### The Link Interface, the Table Store, the snapshot -/

@[simp] theorem degrade_gap (s : State) : s.degrade.gap = s.gap := by simp [degrade, apply_ite State.gap]

@[simp] theorem recover_gap (s : State) : s.recover.gap = s.gap := by simp [recover]

theorem damagedFrame_gap (s : State) : s.damagedFrame.gap = s.gap := by simp [damagedFrame, apply_ite State.gap]

@[simp] theorem intactFrame_gap (s : State) : s.intactFrame.gap = s.gap := by simp [intactFrame, apply_ite State.gap]

theorem silenceLapse_gap (s : State) : s.silenceLapse.gap = s.gap := by simp [silenceLapse, apply_ite State.gap]

theorem joinIntake_gap (s : State) (r : Request) : (s.joinIntake r).gap = s.gap := by simp [joinIntake, apply_ite State.gap]

theorem frameEnd_gap (s : State) : s.frameEnd.gap = s.gap := by
  unfold frameEnd
  split <;> rfl

theorem periodicExpiry_gap (s : State) (f : Face) : (s.periodicExpiry f).gap = s.gap := by simp [periodicExpiry, apply_ite State.gap]

theorem endValidation_sensors (s : State) : s.endValidation.gap.sensors = s.gap.sensors := by
  unfold endValidation
  split
  · rfl
  · dsimp only
    split
    · simp
    · split <;> simp [stage]

theorem endCopy_gap (s : State) : s.endCopy.gap = s.gap := by
  unfold endCopy
  split <;> simp

theorem snapshotDone_gap (s : State) : s.snapshotDone.gap = s.gap := by
  unfold snapshotDone
  split <;> rfl

/-! ### The timers -/

theorem tunnelLapse_gap (s : State) (f : Face) : (s.tunnelLapse f).gap = s.gap := by
  unfold tunnelLapse
  split <;> simp [apply_ite State.gap]

theorem doorTimeout_gap (s : State) (f : Face) (n : Nat) (k : TimerKind) : (s.doorTimeout f n k).gap = s.gap := by
  simp [doorTimeout, apply_ite State.gap]

theorem dwellLapse_gap (s : State) (f : Face) (n : Nat) : (s.dwellLapse f n).gap = s.gap := by simp [dwellLapse, apply_ite State.gap]

theorem holdMaximumLapse_gap (s : State) (f : Face) : (s.holdMaximumLapse f).gap = s.gap := by
  simp [holdMaximumLapse, apply_ite State.gap]

theorem takeObstruction_gap (s : State) (f : Face) (n : Nat) : (s.takeObstruction f n).gap = s.gap := by
  simp [takeObstruction, apply_ite State.gap]

/-! ### The requests -/

theorem withFace_sensors (s : State) (r : Request) (k : Face → State) (hk : ∀ f, (k f).gap.sensors = s.gap.sensors) :
    (s.withFace r k).gap.sensors = s.gap.sensors := by
  unfold withFace
  split
  · rfl
  · exact hk _

theorem withConfigured_sensors (s : State) (r : Request) (k : Face → State) (hk : ∀ f, (k f).gap.sensors = s.gap.sensors) :
    (s.withConfigured r k).gap.sensors = s.gap.sensors :=
  withFace_sensors s r _ fun f => by split <;> simp [hk]

theorem withNoFields_sensors (s : State) (r : Request) (k : State) (hk : k.gap.sensors = s.gap.sensors) :
    (s.withNoFields r k).gap.sensors = s.gap.sensors := by
  unfold withNoFields
  split <;> simp [hk]

theorem withDoor_sensors (s : State) (r : Request) (k : Face → Door → State) (hk : ∀ f d, (k f d).gap.sensors = s.gap.sensors) :
    (s.withDoor r k).gap.sensors = s.gap.sensors :=
  withConfigured_sensors s r _ fun f => by split <;> simp [hk]

theorem takeOpenFace_sensors (r : Request) (s : State) : (takeOpenFace r s).gap.sensors = s.gap.sensors :=
  withConfigured_sensors s r _ fun f => withNoFields_sensors s r _ <| by split <;> simp [acceptOpenFace]

theorem takeCloseFace_sensors (r : Request) (s : State) : (takeCloseFace r s).gap.sensors = s.gap.sensors :=
  withConfigured_sensors s r _ fun f => withNoFields_sensors s r _ <| by
    split
    · simp
    · split
      · simp
      · split <;> simp [beginDeferral]

theorem takeReopenDoor_sensors (r : Request) (s : State) : (takeReopenDoor r s).gap.sensors = s.gap.sensors :=
  withDoor_sensors s r _ fun f d => by split <;> simp

theorem takeCloseDoor_sensors (r : Request) (s : State) : (takeCloseDoor r s).gap.sensors = s.gap.sensors :=
  withDoor_sensors s r _ fun f d => by simp [apply_ite State.gap]

theorem takeIsolateDoor_sensors (r : Request) (s : State) : (takeIsolateDoor r s).gap.sensors = s.gap.sensors :=
  withDoor_sensors s r _ fun f d => by simp

theorem takeReturnDoor_sensors (r : Request) (s : State) : (takeReturnDoor r s).gap.sensors = s.gap.sensors :=
  withDoor_sensors s r _ fun f d => by split <;> simp

theorem takeHoldAdd_sensors (r : Request) (s : State) : (takeHoldAdd r s).gap.sensors = s.gap.sensors :=
  withConfigured_sensors s r _ fun f => by
    split
    · simp
    · split <;> simp

theorem takeHoldCancel_sensors (r : Request) (s : State) : (takeHoldCancel r s).gap.sensors = s.gap.sensors :=
  withFace_sensors s r _ fun f => by split <;> simp [apply_ite State.gap]

theorem acceptRestore_sensors (s : State) (f : Face) (q : Byte) : (s.acceptRestore f q).gap.sensors = s.gap.sensors := by
  unfold acceptRestore
  dsimp only
  split <;> simp

theorem takeRestore_sensors (r : Request) (s : State) : (takeRestore r s).gap.sensors = s.gap.sensors :=
  withFace_sensors s r _ fun f => by
    split
    · simp
    · simp [apply_ite State.gap, apply_ite GapMonitor.sensors, protectRestore, acceptRestore_sensors]

theorem takeEvacuate_sensors (r : Request) (s : State) : (takeEvacuate r s).gap.sensors = s.gap.sensors :=
  withFace_sensors s r _ fun f => withNoFields_sensors s r _ <| by simp [apply_ite State.gap]

theorem takeTunnel_sensors (r : Request) (s : State) : (takeTunnel r s).gap.sensors = s.gap.sensors :=
  withConfigured_sensors s r _ fun f => by
    split
    · simp
    · split <;> simp [apply_ite State.gap]

theorem takeWriteEntry_gap (r : Request) (s : State) : (takeWriteEntry r s).gap = s.gap := by
  unfold takeWriteEntry
  split
  · split
    · rfl
    · split
      · split <;> rfl
      · rfl
  · rfl

theorem takeReadEntry_gap (r : Request) (s : State) : (takeReadEntry r s).gap = s.gap := by
  unfold takeReadEntry
  split
  · split <;> simp [apply_ite State.gap]
  · rfl

theorem takeActivate_gap (r : Request) (s : State) : (takeActivate r s).gap = s.gap := by
  unfold takeActivate
  split <;> simp [apply_ite State.gap]

@[simp] theorem drawFree_gap (s : State) : s.drawFree.gap = s.gap := by simp [drawFree, apply_ite State.gap]

theorem takeReadStatus_gap (r : Request) (s : State) : (takeReadStatus r s).gap = s.gap := by
  unfold takeReadStatus
  split <;> simp

theorem takeReadDoor_sensors (r : Request) (s : State) : (takeReadDoor r s).gap.sensors = s.gap.sensors :=
  withDoor_sensors s r _ fun f d => by simp

theorem takeSetDevice_gap (r : Request) (s : State) : (takeSetDevice r s).gap = s.gap := by
  unfold takeSetDevice
  split
  · rfl
  · unfold installDevice
    dsimp only
    rw [done_gap, refreshAlerts_gap]
    split <;> simp

theorem takeReadEvents_gap (r : Request) (s : State) : (takeReadEvents r s).gap = s.gap := by
  unfold takeReadEvents
  split <;> simp [clearFlags]

theorem takeSnapshot_sensors (r : Request) (s : State) : (takeSnapshot r s).gap.sensors = s.gap.sensors :=
  withNoFields_sensors s r _ <| by simp [apply_ite State.gap]

theorem takeReadCounters_gap (r : Request) (s : State) : (takeReadCounters r s).gap = s.gap := by
  unfold takeReadCounters
  split
  · rfl
  · split
    · rfl
    · split <;> rfl

theorem takeClear_sensors (r : Request) (s : State) : (takeClear r s).gap.sensors = s.gap.sensors :=
  withNoFields_sensors s r _ <| by simp [apply_ite State.gap]

/-! ### SOFT_RESET -/

@[simp] theorem faceSoftReset_gap (s : State) (f : Face) : (s.faceSoftReset f).gap = s.gap := by simp [faceSoftReset]

@[simp] theorem lineSoftReset_gap (s : State) (f : Face) : (s.lineSoftReset f).gap = s.gap := by
  simp [lineSoftReset, apply_ite State.gap]

@[simp] theorem releaseSoftReset_gap (s : State) (f : Face) (l : Level) : (s.releaseSoftReset f l).gap = s.gap := by
  simp [releaseSoftReset, apply_ite State.gap]

/-- A soft reset restarts the Gap Monitor; an adoption that follows in the step leaves its heads and zones (R104, R119). -/
theorem softReset_sensors (s : State) (evac : PerFace Level) :
    (s.softReset evac).gap.sensors = (s.gap.restarted s.now).sensors := by
  have restarted : s.sharedRestarted.gap = s.gap.restarted s.now := congrArg Blocks.gap (sharedRestarted_blocks s)
  rw [← restarted]
  unfold softReset sharedRestarted tbsSoftReset
  simp

end State

end Sys2Proof.Machine
end

section
/-! PROOFS. Every step keeps a zone CLEAR only under a LIVE head, and a LIVE head's window full (R109, R113). Six operations write heads or
zones: a power-on, a soft reset, a scan's arrival, the cycle end, an adoption's rebuild in it, and a counter clear. -/

namespace Sys2Proof.Machine

/-! ### What is safe of heads and zones -/

/-- A head's good streak lies within its window, the window holds at most 8 scans, and that of a LIVE head is full (R108, R109). -/
def Head.Sound (h : Head) : Prop :=
  h.goodStreak ≤ h.window.length ∧ h.window.length ≤ 8 ∧ (h.state = .live → h.window.length = 8)

/-- The state of the head of a slot, where there is one. -/
def stateAt (heads : List Head) (slot : Nat) : Option HeadState := (heads.find? fun h => h.slot = slot).map fun h => h.state

/-- A zone is CLEAR only while its head is LIVE (R113). -/
def ZonesFollow (heads : List Head) (zones : PerFace (List Zone)) : Prop :=
  ∀ f, ∀ z ∈ zones.get f, z.state = .clear → stateAt heads z.head = some .live

theorem gapSafe_iff (s : State) :
    gapSafe s ↔ ZonesFollow s.gap.sensors.1 s.gap.sensors.2 ∧ ∀ h ∈ s.gap.sensors.1, h.Sound := Iff.rfl

/-- An operation keeps the Gap Monitor safe. -/
def GapKept (s u : State) : Prop := gapSafe s → gapSafe u

theorem GapKept.trans {s u v : State} (h : GapKept s u) (k : GapKept u v) : GapKept s v := k ∘ h

theorem GapKept.of_sensors {s u : State} (h : u.gap.sensors = s.gap.sensors) : GapKept s u := by
  unfold GapKept
  rw [gapSafe_iff, gapSafe_iff, h]
  exact id

theorem GapKept.of_gap {s u : State} (h : u.gap = s.gap) : GapKept s u := .of_sensors (by rw [h])

/-- The head of a slot after every head has changed, each in its slot. -/
theorem stateAt_map {heads : List Head} {g : Head → Head} (slot : ∀ h, (g h).slot = h.slot) (n : Nat) :
    stateAt (heads.map g) n = (heads.find? fun h => h.slot = n).map fun h => (g h).state := by
  simp [stateAt, List.find?_map, Function.comp_def, slot]

/-- Heads that keep slot and state. -/
theorem stateAt_map_same {heads : List Head} {g : Head → Head} (slot : ∀ h, (g h).slot = h.slot)
    (state : ∀ h, (g h).state = h.state) (n : Nat) : stateAt (heads.map g) n = stateAt heads n := by
  rw [stateAt_map slot]
  simp only [state]
  rfl

/-- A change of each zone that keeps it under its head and makes none CLEAR. -/
theorem ZonesFollow.map {heads : List Head} {zones : PerFace (List Zone)} (h : ZonesFollow heads zones) {g : Zone → Zone}
    (head : ∀ z, (g z).head = z.head) (clear : ∀ z, (g z).state = .clear → z.state = .clear) :
    ZonesFollow heads (zones.map fun zs => zs.map g) := by
  intro f z hz hc
  rw [PerFace.get_map] at hz
  obtain ⟨y, hy, rfl⟩ := List.mem_map.1 hz
  rw [head]
  exact h f y hy (clear y hc)

/-- Zones of which none is CLEAR. -/
theorem ZonesFollow.of_none {heads : List Head} {zones : PerFace (List Zone)} (h : ∀ f, ∀ z ∈ zones.get f, z.state ≠ .clear) :
    ZonesFollow heads zones := fun f z hz clear => absurd clear (h f z hz)

/-! ### One head, one zone -/

namespace Head

/-- A head without a window that is not LIVE. -/
theorem Sound.of_empty {h : Head} (window : h.window = []) (streak : h.goodStreak = 0) (state : h.state ≠ .live) : h.Sound := by
  unfold Sound
  rw [window, streak]
  exact ⟨Nat.le_refl 0, Nat.zero_le 8, fun live => absurd live state⟩

/-- A scan keeps a head sound: 8 good scans in a row fill its window (R108, R109). -/
theorem Sound.take {h : Head} (sound : h.Sound) (cycle : BitVec 8) (bump : Counter → Counter) : (h.take cycle bump).Sound := by
  obtain ⟨streak, short, full⟩ := sound
  rcases h.take_cases cycle bump with eq | ⟨v, -, eq⟩ | ⟨-, eq⟩ <;> rw [eq]
  · exact ⟨streak, short, full⟩
  · unfold Sound
    dsimp only
    rw [pushScan_length _ _ short, headNext_good]
    refine ⟨by omega, by omega, fun live => ?_⟩
    split at live
    · omega
    · have := full live
      omega
  · unfold Sound
    dsimp only
    rw [pushScan_length _ _ short, headNext_missing]
    refine ⟨by omega, by omega, fun live => ?_⟩
    split at live
    · cases live
    · have := full live
      omega

theorem Sound.rebuild {h : Head} (sound : h.Sound) (zones : PerFace (List Zone)) : (h.rebuild zones).Sound := by
  unfold Head.rebuild
  dsimp only
  split
  · split
    · exact sound
    · exact .of_empty rfl rfl nofun
  · exact .of_empty rfl rfl nofun

theorem Sound.softReset {h : Head} (sound : h.Sound) : h.softReset.Sound := by
  unfold Head.softReset
  split
  · exact .of_empty rfl rfl nofun
  · exact sound

end Head

namespace Zone

theorem evaluate_head (z : Zone) (h : Option Head) (bump : Counter → Counter) : (z.evaluate h bump).head = z.head := by
  unfold evaluate
  split
  · rfl
  · split <;> rfl

/-- Only a LIVE head's zone comes out CLEAR (R113). -/
theorem live_of_evaluate_clear {z : Zone} {h : Option Head} {bump : Counter → Counter} (clear : (z.evaluate h bump).state = .clear) :
    h.map (fun h => h.state) = some .live := by
  cases h with
  | none => cases clear
  | some h =>
    by_cases live : h.state = .live
    · exact congrArg some live
    · rw [evaluate_notLive live] at clear
      cases clear

end Zone

namespace State

/-! ### The operations that write heads or zones -/

/-- Each head changed in its slot, with its state, and kept sound. -/
theorem modHeads_gapKept (s : State) {g : Head → Head} (slot : ∀ h, (g h).slot = h.slot) (state : ∀ h, (g h).state = h.state)
    (sound : ∀ h, h.Sound → (g h).Sound) : GapKept s (s.modGap fun x => { x with heads := x.heads.map g }) := by
  intro safe
  obtain ⟨zones, heads⟩ := (gapSafe_iff s).1 safe
  refine (gapSafe_iff _).2 ⟨fun f z hz clear => (stateAt_map_same slot state z.head).trans (zones f z hz clear), fun h hh => ?_⟩
  obtain ⟨x, hx, rfl⟩ := List.mem_map.1 hh
  exact sound x (heads x hx)

theorem takeScan_gapKept (s : State) (bytes : List Byte) (ok : Bool) : GapKept s (s.takeScan bytes ok) := by
  unfold takeScan
  split
  · exact .of_gap rfl
  · refine modHeads_gapKept s (fun h => ?_) (fun h => ?_) fun h sound => ?_
    · split <;> rfl
    · split <;> rfl
    · split
      · exact sound
      · exact sound

theorem zeroCounters_gapKept (s : State) : GapKept s s.zeroCounters := by
  intro safe
  obtain ⟨zones, heads⟩ := (gapSafe_iff s).1 safe
  have follow : ZonesFollow s.gap.heads s.zeroCounters.gap.zones := zones.map (fun _ => rfl) fun _ => id
  refine (gapSafe_iff _).2 ⟨fun f z hz clear => ?_, fun h hh => ?_⟩
  · exact (stateAt_map_same (g := fun h => { h with missingScans := 0 }) (fun _ => rfl) (fun _ => rfl) z.head).trans
      (follow f z hz clear)
  · obtain ⟨x, hx, rfl⟩ := List.mem_map.1 hh
    exact heads x hx

theorem clearDone_gapKept (s : State) : GapKept s s.clearDone := by
  cases running : s.lif.clearing with
  | none => rw [clearDone, running]; exact .of_gap rfl
  | some x =>
    rw [clearDone_of_clearing running]
    exact (zeroCounters_gapKept s).trans (.of_gap (by simp))

/-- After a soft reset no zone is CLEAR (R119). -/
theorem softReset_gapKept (s : State) (evac : PerFace Level) : GapKept s (s.softReset evac) := by
  intro safe
  obtain ⟨-, heads⟩ := (gapSafe_iff s).1 safe
  rw [gapSafe_iff, softReset_sensors]
  refine ⟨.of_none fun f z hz => ?_, fun h hh => ?_⟩
  · change z ∈ (s.gap.zones.map _).get f at hz
    rw [PerFace.get_map] at hz
    obtain ⟨y, -, rfl⟩ := List.mem_map.1 hz
    exact nofun
  · obtain ⟨x, hx, rfl⟩ := List.mem_map.1 hh
    exact (heads x hx).softReset

/-- At power-on there is no zone, and every head's window is empty (R118). -/
theorem freshBlocks_gapKept (s : State) (cause : ResetCause) (evac : PerFace Level) : GapKept s (s.freshBlocks cause evac) := by
  intro _
  refine (gapSafe_iff _).2 ⟨.of_none fun f => by cases f <;> exact nofun, fun h hh => ?_⟩
  obtain ⟨n, -, rfl⟩ := List.mem_map.1 hh
  exact .of_empty rfl rfl nofun

/-! ### The cycle end (R114) -/

theorem followHeads_reported (s : State) (f : Face) (heads : List Head) : Reported s (s.followHeads f heads) := by
  unfold followHeads
  split
  · exact activate_reported s f _ _
  · exact setCondition_reported s f _ _

@[simp] theorem handOnZones_gap (s : State) (f : Face) (rebuilt : List Head) (held : Bool) (zs : List Zone) :
    (s.handOnZones f rebuilt held zs).gap = s.gap := by
  unfold handOnZones
  dsimp only
  split <;> simp [(followHeads_reported _ f _).gap]

theorem rebuildGap_sound (s : State) (h : ∀ x ∈ s.gap.heads, x.Sound) : ∀ x ∈ s.rebuildGap.gap.heads, x.Sound := by
  unfold rebuildGap
  dsimp only
  split
  · intro x hx
    obtain ⟨y, hy, rfl⟩ := List.mem_map.1 hx
    exact (h y hy).rebuild _
  · exact h

/-- Every zone in force is evaluated after the heads have taken their scans, so none is left CLEAR but under a LIVE head. -/
theorem evaluateZones_gapSafe (s : State) (h : ∀ x ∈ s.gap.heads, x.Sound) : gapSafe s.takeScans.evaluateZones := by
  refine (gapSafe_iff _).2 ⟨fun f z hz clear => ?_, fun x hx => ?_⟩
  · change z ∈ (PerFace.map _ _).get f at hz
    rw [PerFace.get_map] at hz
    obtain ⟨y, -, rfl⟩ := List.mem_map.1 hz
    rw [Zone.evaluate_head]
    exact Zone.live_of_evaluate_clear clear
  · obtain ⟨y, hy, rfl⟩ := List.mem_map.1 hx
    exact (h y hy).take _ _

theorem cycleEnd_gapKept (s : State) : GapKept s s.cycleEnd := by
  intro safe
  unfold cycleEnd
  split
  · have evaluated := evaluateZones_gapSafe s.rebuildGap (rebuildGap_sound s safe.2)
    exact GapKept.of_sensors (by simp [nextCycle, GapMonitor.sensors]) evaluated
  · exact safe

/-! ### A step -/

theorem event_gapKept (s : State) (t : Micros) {k : State → State} (hk : ∀ u, GapKept u (k u)) : GapKept s (s.event t k) := by
  have opened : GapKept s (s.opened t) := .of_gap (opened_gap s t)
  unfold event
  split
  · exact (opened.trans (hk _)).trans (.of_gap (arbitrate_gap _))
  · exact .of_gap rfl

theorem event_kept_of_sensors (s : State) (t : Micros) {k : State → State} (hk : ∀ u, (k u).gap.sensors = u.gap.sensors) :
    GapKept s (s.event t k) := event_gapKept s t fun u => .of_sensors (hk u)

theorem event_kept_of_gap (s : State) (t : Micros) {k : State → State} (hk : ∀ u, (k u).gap = u.gap) : GapKept s (s.event t k) :=
  event_gapKept s t fun u => .of_gap (hk u)

theorem request_gapKept (s : State) (t : Micros) (k : Option RequestKind) {h : Request → State → State}
    (hk : ∀ r u, GapKept u (h r u)) : GapKept s (s.event t fun s => s.takeRequest k h) :=
  event_gapKept s t fun u => by
    unfold takeRequest
    split
    · exact .of_gap rfl
    · split
      · exact (GapKept.of_gap (modLif_gap u _)).trans (hk _ _)
      · exact .of_gap rfl

theorem request_kept_of_sensors (s : State) (t : Micros) (k : Option RequestKind) {h : Request → State → State}
    (hk : ∀ r u, (h r u).gap.sensors = u.gap.sensors) : GapKept s (s.event t fun s => s.takeRequest k h) :=
  request_gapKept s t k fun r u => .of_sensors (hk r u)

theorem request_kept_of_gap (s : State) (t : Micros) (k : Option RequestKind) {h : Request → State → State}
    (hk : ∀ r u, (h r u).gap = u.gap) : GapKept s (s.event t fun s => s.takeRequest k h) :=
  request_gapKept s t k fun r u => .of_gap (hk r u)

theorem releasePin_gapKept (s : State) (evac : PerFace Level) : GapKept s (s.releasePin evac) := by
  unfold releasePin
  split
  · exact (freshBlocks_gapKept s .pin evac).trans (.of_gap rfl)
  · exact .of_gap rfl

end State

open State in
/-- A command keeps the Gap Monitor safe. -/
theorem exec_gapKept (c : Instr) (s u : State) (h : exec c s = .next u) : GapKept s u := by
  have next {v : State} (k : GapKept s v) (h : (.next v : Host.Outcome State Fault Refusal) = .next u) : GapKept s u := by cases h; exact k
  cases c
  case powerOn t evac =>
    exact next (v := (s.advance t).powerUp evac) ((freshBlocks_gapKept _ .powerOn evac).trans (.of_gap rfl) : GapKept (s.advance t) _) h
  case resetPinAssert t => exact next (v := (s.advance t).assertPin) (.of_gap rfl) h
  case resetPinRelease t evac => exact next (releasePin_gapKept (s.advance t) evac) h
  case powerLoss t => exact next (v := (s.advance t).powerDown) (.of_gap rfl) h
  case evacInputChange t f l => exact next (event_kept_of_gap s t fun u => by simp [takeInput]) h
  case inboundFrameDamaged t => exact next (event_kept_of_gap s t damagedFrame_gap) h
  case trainFrameDiscarded t => exact next (event_kept_of_gap s t (k := fun u => u.intactFrame.discardTrain) intactFrame_gap) h
  case arrival t f b => exact next (event_kept_of_gap s t fun u => (takeArrival_gap _ f b).trans (intactFrame_gap u)) h
  case position t f b => exact next (event_kept_of_gap s t fun u => (takePosition_gap _ f b).trans (intactFrame_gap u)) h
  case departure t f b => exact next (event_kept_of_gap s t fun u => (takeDeparture_gap _ f b).trans (intactFrame_gap u)) h
  case cleared t f b =>
    exact next (event_kept_of_sensors s t fun u => (takeCleared_sensors _ f b).trans (congrArg _ (intactFrame_gap u))) h
  case requestFrameReceived t r => exact next (event_kept_of_gap s t fun u => (joinIntake_gap _ r).trans (intactFrame_gap u)) h
  case transmitFrameEnd t => exact next (event_kept_of_gap s t frameEnd_gap) h
  case uplinkSilenceExpiry t => exact next (event_kept_of_gap s t silenceLapse_gap) h
  case requestUndefinedKind t => exact next (request_kept_of_gap s t none (h := fun r u => u.refuseUndefined r) fun _ _ => rfl) h
  case openFace t => exact next (request_kept_of_sensors s t _ takeOpenFace_sensors) h
  case closeFace t => exact next (request_kept_of_sensors s t _ takeCloseFace_sensors) h
  case reopenDoor t => exact next (request_kept_of_sensors s t _ takeReopenDoor_sensors) h
  case closeDoor t => exact next (request_kept_of_sensors s t _ takeCloseDoor_sensors) h
  case isolateDoor t => exact next (request_kept_of_sensors s t _ takeIsolateDoor_sensors) h
  case returnDoor t => exact next (request_kept_of_sensors s t _ takeReturnDoor_sensors) h
  case holdAdd t => exact next (request_kept_of_sensors s t _ takeHoldAdd_sensors) h
  case holdCancel t => exact next (request_kept_of_sensors s t _ takeHoldCancel_sensors) h
  case restore t => exact next (request_kept_of_sensors s t _ takeRestore_sensors) h
  case evacuate t => exact next (request_kept_of_sensors s t _ takeEvacuate_sensors) h
  case tunnel t => exact next (request_kept_of_sensors s t _ takeTunnel_sensors) h
  case writeEntry t => exact next (request_kept_of_gap s t _ takeWriteEntry_gap) h
  case readEntry t => exact next (request_kept_of_gap s t _ takeReadEntry_gap) h
  case activate t => exact next (request_kept_of_gap s t _ takeActivate_gap) h
  case readStatus t => exact next (request_kept_of_gap s t _ takeReadStatus_gap) h
  case readDoor t => exact next (request_kept_of_sensors s t _ takeReadDoor_sensors) h
  case setDevice t => exact next (request_kept_of_gap s t _ takeSetDevice_gap) h
  case readEvents t => exact next (request_kept_of_gap s t _ takeReadEvents_gap) h
  case snapshotCounters t => exact next (request_kept_of_sensors s t _ takeSnapshot_sensors) h
  case readCounters t => exact next (request_kept_of_gap s t _ takeReadCounters_gap) h
  case clearCounters t => exact next (request_kept_of_sensors s t _ takeClear_sensors) h
  case softReset t evac =>
    refine next (request_gapKept s t _ fun r u => ?_) h
    unfold takeSoftReset withNoFields
    split
    · exact softReset_gapKept u evac
    · exact .of_gap rfl
  case supervisionExpiry t f => exact next (event_kept_of_sensors s t fun u => supervisionLapse_sensors u f) h
  case alignmentComplete t => exact next (event_kept_of_gap s t completeAlignment_gap) h
  case openTimeoutExpiry t f n => exact next (event_kept_of_gap s t fun u => doorTimeout_gap u f n _) h
  case closeTimeoutExpiry t f n => exact next (event_kept_of_gap s t fun u => doorTimeout_gap u f n _) h
  case recycleDwellExpiry t f n => exact next (event_kept_of_gap s t fun u => dwellLapse_gap u f n) h
  case obstructionReport t f n => exact next (event_kept_of_gap s t fun u => takeObstruction_gap u f n) h
  case holdMaximumExpiry t f => exact next (event_kept_of_gap s t fun u => holdMaximumLapse_gap u f) h
  case partnerDwellExpiry t f => exact next (event_kept_of_gap s t fun u => partnerDwellLapse_gap u f) h
  case turnAnswer t f b p => exact next (event_kept_of_sensors s t fun u => takeAnswer_sensors u f b p) h
  case answerWindowExpiry t f => exact next (event_kept_of_sensors s t fun u => windowExpiry_sensors u f) h
  case lateFrameDiscarded t f => exact next (event_kept_of_gap s t fun _ => rfl) h
  case tunnelTimeout t f => exact next (event_kept_of_gap s t fun u => tunnelLapse_gap u f) h
  case scanFrameArrival t b p => exact next (event_gapKept s t fun u => takeScan_gapKept u b p) h
  case sensorCycleEnd t => exact next (event_gapKept s t cycleEnd_gapKept) h
  case periodicProofExpiry t f => exact next (event_kept_of_gap s t fun u => periodicExpiry_gap u f) h
  case validationComplete t => exact next (event_kept_of_sensors s t endValidation_sensors) h
  case copyComplete t => exact next (event_kept_of_gap s t endCopy_gap) h
  case snapshotReady t => exact next (event_kept_of_gap s t snapshotDone_gap) h
  case counterClearComplete t => exact next (event_gapKept s t clearDone_gapKept) h

/-- Settles O58: each command keeps the Gap Monitor safe; most leave its heads and zones as they stand. -/
theorem everyStepKeepsGapSafe : Obligations.EveryStepKeepsGapSafe := by
  intro s u safe h
  unfold step at h
  split at h
  · cases h
    exact safe
  next c rest _ =>
    have taken : GapKept s { s with pending := rest } := .of_gap rfl
    exact taken.trans (exec_gapKept c _ u h) safe

end Sys2Proof.Machine
end

section
/-! PROOFS. O43: what a cycle end hands on for one face: its zones, HEAD_SILENT, GAP_AFTER_CLOSE, the obstruction reports
(R110, R114 to R116). -/

namespace Sys2Proof.Machine

/-! ### The zones that entered OCCUPIED, and their reports (R115, R116) -/

theorem mem_entered {before after : List Zone} {z : Zone} :
    z ∈ entered before after ↔ z ∈ after ∧ z.state = .occupied ∧ ¬∃ y ∈ before, y.id = z.id ∧ y.state = .occupied := by
  simp [entered]

/-- The RECYCLE-policy zones of a door among some zones, by their ids. -/
def recycleZones (zs : List Zone) (n : Nat) : List Nat := (zs.filter fun z => z.door = n && z.policy = .recycle).map fun z => z.id

theorem mem_recycleZones {zs : List Zone} {n id : Nat} :
    id ∈ recycleZones zs n ↔ ∃ z ∈ zs, z.id = id ∧ z.door = n ∧ z.policy = .recycle := by
  simp only [recycleZones, List.mem_map, List.mem_filter, Bool.and_eq_true, decide_eq_true_eq]
  exact exists_congr fun z => by tauto

theorem mem_obstructionReports {zs : List Zone} {r : ObstructionReport} :
    r ∈ obstructionReports zs ↔ r.door ≤ 32 ∧ r.zones = recycleZones zs r.door ∧ r.zones ≠ [] := by
  unfold obstructionReports
  rw [List.mem_filter, List.mem_map, decide_eq_true_iff]
  constructor
  · rintro ⟨⟨n, hn, rfl⟩, some⟩
    exact ⟨Nat.le_of_lt_succ (List.mem_range.1 hn), rfl, some⟩
  · rintro ⟨hn, same, some⟩
    refine ⟨⟨r.door, List.mem_range.2 (Nat.lt_succ_of_le hn), ?_⟩, some⟩
    change ObstructionReport.mk r.door (recycleZones zs r.door) = r
    rw [← same]

/-- One report for each door, in increasing door number. -/
theorem obstructionReports_ordered (zs : List Zone) : ((obstructionReports zs).map fun r => r.door).Pairwise (· < ·) := by
  unfold obstructionReports
  rw [List.pairwise_map]
  refine List.Pairwise.filter _ (List.pairwise_map.2 ?_)
  exact List.pairwise_lt_range

theorem reported_iff {zs : List Zone} {n id : Nat} :
    (∃ r ∈ obstructionReports zs, r.door = n ∧ id ∈ r.zones) ↔
      n ≤ 32 ∧ ∃ z ∈ zs, z.id = id ∧ z.door = n ∧ z.policy = .recycle := by
  rw [← mem_recycleZones]
  constructor
  · rintro ⟨r, hr, rfl, hid⟩
    obtain ⟨small, same, -⟩ := mem_obstructionReports.1 hr
    exact ⟨small, same ▸ hid⟩
  · rintro ⟨small, hid⟩
    exact ⟨⟨n, recycleZones zs n⟩, mem_obstructionReports.2 ⟨small, rfl, List.ne_nil_of_mem hid⟩, rfl, hid⟩

/-! ### HEAD_SILENT (R110) -/

/-- A SILENT head serves a face. -/
def servedBySilent (heads : List Head) (f : Face) : Bool := heads.any fun h => h.serves.get f && h.state = .silent

theorem servedBySilent_iff (heads : List Head) (f : Face) :
    servedBySilent heads f = true ↔ ∃ h ∈ heads, h.serves.get f = true ∧ h.state = .silent := by simp [servedBySilent]

namespace State

theorem followHeads_eq (s : State) (f : Face) (heads : List Head) : s.followHeads f heads =
    if servedBySilent heads f then s.activate f .headSilent .headSilent else s.setCondition f .headSilent false := rfl

theorem followHeads_quiet (s : State) (f : Face) (heads : List Head) : Quiet s (s.followHeads f heads) := by
  rw [followHeads_eq]
  split
  · exact activate_quiet s f _ _
  · exact setCondition_quiet s f _ _

theorem setCondition_apart (s : State) (f : Face) (c : Condition) (on : Bool) : Apart f s (s.setCondition f.partner c on) := by
  unfold setCondition
  split
  · exact .refl f s
  · exact setActive_apart s f _

theorem followHeads_apart (s : State) (f : Face) (heads : List Head) : Apart f s (s.followHeads f.partner heads) := by
  rw [followHeads_eq]
  split
  · unfold activate
    split
    · exact .refl f s
    · exact (raise_apart s f _ _).trans (setCondition_apart _ f _ _)
  · exact setCondition_apart s f _ _

/-- HEAD_SILENT is active exactly while a SILENT head serves the face. -/
theorem followHeads_active (s : State) (f : Face) (heads : List Head) :
    ((s.followHeads f heads).face f).proof.active.headSilent = servedBySilent heads f := by
  rw [followHeads_eq]
  split
  next silent => exact (activate_active s f .headSilent .headSilent).1.trans silent.symm
  next none => exact (setCondition_active s f .headSilent false).trans (Bool.eq_false_of_not_eq_true none).symm

/-- HEAD_SILENT's flag is raised as the condition becomes active. -/
theorem followHeads_raises {s : State} {f : Face} {heads : List Head} (inactive : (s.face f).proof.active.headSilent = false)
    (silent : servedBySilent heads f = true) : EventKind.headSilent ∈ (s.followHeads f heads).lif.flags.get (.face f) := by
  rw [followHeads_eq, if_pos silent]
  exact (activate_active s f .headSilent .headSilent).2 inactive

/-! ### The zones' requirement of face proof (R154) -/

/-- What a face's zones ask of its proof fails, as its blockers say. -/
def ZonesJudged (s : State) (f : Face) : Prop :=
  (s.face f).proof.blockers.zones = !((s.gap.zones.get f).all fun z => z.state = .clear)

theorem decide_zonesJudged (s : State) (f : Face) : (s.decide f).ZonesJudged f := by
  unfold ZonesJudged
  rw [decide_proof, decide_gap]
  rfl

theorem setCondition_zonesJudged {s : State} {f : Face} (h : s.ZonesJudged f) (c : Condition) (on : Bool) :
    (s.setCondition f c on).ZonesJudged f := by
  unfold setCondition
  split
  · exact h
  · unfold setActive
    split
    · exact decide_zonesJudged s f
    · exact decide_zonesJudged _ f

theorem raise_blockers (s : State) (c : Scope) (k : EventKind) (f : Face) :
    ((s.raise c k).face f).proof.blockers = (s.face f).proof.blockers := by
  unfold raise
  split
  · rfl
  · unfold joinNotice
    split <;> cases f <;> rfl

theorem raiseFace_zonesJudged {s : State} {f : Face} (h : s.ZonesJudged f) (g : Face) (k : EventKind) :
    (s.raiseFace g k).ZonesJudged f := by
  unfold ZonesJudged
  rw [raiseFace_gap, raiseFace, raise_blockers]
  exact h

theorem followHeads_zonesJudged {s : State} {f : Face} (h : s.ZonesJudged f) (heads : List Head) :
    (s.followHeads f heads).ZonesJudged f := by
  rw [followHeads_eq]
  split
  · unfold activate
    split
    · exact h
    · exact setCondition_zonesJudged (raiseFace_zonesJudged h f _) _ _
  · exact setCondition_zonesJudged h _ _

/-! ### All that is handed on for a face -/

/-- The Proof Unit of a face once the zones and both changes of HEAD_SILENT have been handed to it (notes/assumptions/44.md). -/
def zonesProved (s : State) (f : Face) (rebuilt : List Head) : State := ((s.decide f).followHeads f rebuilt).followHeads f s.gap.heads

theorem handOnZones_eq (s : State) (f : Face) (rebuilt : List Head) (held : Bool) (zs : List Zone) :
    s.handOnZones f rebuilt held zs =
      (if held = true ∧ zs ≠ [] then (s.zonesProved f rebuilt).raiseFace f .gapAfterClose
        else s.zonesProved f rebuilt).modReports f fun l => l ++ obstructionReports zs := rfl

theorem zonesProved_reported (s : State) (f : Face) (rebuilt : List Head) : Reported s (s.zonesProved f rebuilt) :=
  ((decide_reported s f).trans (followHeads_reported _ f _)).trans (followHeads_reported _ f _)

theorem zonesProved_quiet (s : State) (f : Face) (rebuilt : List Head) : Quiet s (s.zonesProved f rebuilt) :=
  ((decide_calm s f).toQuiet.trans (followHeads_quiet _ f _)).trans (followHeads_quiet _ f _)

theorem modReports_calm (s : State) (f : Face) (g : List ObstructionReport → List ObstructionReport) : Calm s (s.modReports f g) :=
  .of_eq rfl rfl fun _ => by simp

theorem handOnZones_quiet (s : State) (f : Face) (rebuilt : List Head) (held : Bool) (zs : List Zone) :
    Quiet s (s.handOnZones f rebuilt held zs) := by
  rw [handOnZones_eq]
  exact (zonesProved_quiet s f rebuilt).trans ((Calm.opt (raiseFace_calm _ f _)).trans (modReports_calm _ f _)).toQuiet

theorem modReports_apart (s : State) (f : Face) (g : List ObstructionReport → List ObstructionReport) :
    Apart f s (s.modReports f.partner g) := .of_face (by simp) rfl

theorem handOnZones_apart (s : State) (f : Face) (rebuilt : List Head) (held : Bool) (zs : List Zone) :
    Apart f s (s.handOnZones f.partner rebuilt held zs) := by
  rw [handOnZones_eq]
  have proved : Apart f s (s.zonesProved f.partner rebuilt) :=
    ((decide_apart s f).trans (followHeads_apart _ f _)).trans (followHeads_apart _ f _)
  exact (proved.trans (.opt (raise_apart _ f _ _))).trans (modReports_apart _ f _)

theorem handOnZones_blocks (s : State) (f : Face) (rebuilt : List Head) (held : Bool) (zs : List Zone) :
    (s.handOnZones f rebuilt held zs).blocks =
      s.blocks.modFace f fun b => { b with reports := b.reports ++ obstructionReports zs } := by
  rw [handOnZones_eq, modReports_blocks]
  split
  · rw [raiseFace_blocks, reported_blocks (zonesProved_reported s f rebuilt)]
  · rw [reported_blocks (zonesProved_reported s f rebuilt)]

end State

/-- From `s` to `u` the results of a cycle end were handed on for a face (R110, R114 to R116). -/
structure ZonesHanded (f : Face) (rebuilt : List Head) (held : Bool) (zs : List Zone) (s u : State) : Prop where
  headSilent : (u.face f).proof.active.headSilent = servedBySilent s.gap.heads f
  silentFlag : (s.face f).proof.active.headSilent = false →
    servedBySilent rebuilt f = true ∨ servedBySilent s.gap.heads f = true → EventKind.headSilent ∈ u.lif.flags.get (.face f)
  closeFlag : held = true → zs ≠ [] → EventKind.gapAfterClose ∈ u.lif.flags.get (.face f)
  zones : (u.face f).proof.blockers.zones = !((s.gap.zones.get f).all fun z => z.state = .clear)
  reports : (u.face f).reports = (s.face f).reports ++ obstructionReports zs

namespace ZonesHanded

variable {f : Face} {rebuilt : List Head} {held : Bool} {zs : List Zone} {r s u v : State}

/-- What is done for the other face before makes no difference. -/
theorem before (h : ZonesHanded f rebuilt held zs s u) (apart : Apart f r s) (gap : s.gap = r.gap) :
    ZonesHanded f rebuilt held zs r u := by
  have active : (s.face f).proof.active = (r.face f).proof.active := congrArg (fun x => x.proof.active) apart.face
  have reports : (s.face f).reports = (r.face f).reports := congrArg FaceBlocks.reports apart.blocks
  obtain ⟨silent, flag, close, zones, added⟩ := h
  rw [gap] at silent flag zones
  rw [active] at flag
  rw [reports] at added
  exact ⟨silent, flag, close, zones, added⟩

/-- What is done for the other face after leaves it standing. -/
theorem after (h : ZonesHanded f rebuilt held zs s u) (apart : Apart f u v) (quiet : Quiet u v) : ZonesHanded f rebuilt held zs s v where
  headSilent := (congrArg (fun x => x.proof.active.headSilent) apart.face).trans h.headSilent
  silentFlag := fun inactive silent => quiet.flags _ _ (h.silentFlag inactive silent)
  closeFlag := fun proven entered => quiet.flags _ _ (h.closeFlag proven entered)
  zones := (congrArg (fun x => x.proof.blockers.zones) apart.face).trans h.zones
  reports := (congrArg FaceBlocks.reports apart.blocks).trans h.reports

end ZonesHanded

namespace State

theorem zonesProved_judged (s : State) (f : Face) (rebuilt : List Head) : (s.zonesProved f rebuilt).ZonesJudged f :=
  followHeads_zonesJudged (followHeads_zonesJudged (decide_zonesJudged s f) _) _

/-- A SILENT head, of those that the rebuild left or of those that took their scans, raises the flag where the condition was inactive. -/
theorem zonesProved_raises {s : State} {f : Face} {rebuilt : List Head} (inactive : (s.face f).proof.active.headSilent = false)
    (silent : servedBySilent rebuilt f = true ∨ servedBySilent s.gap.heads f = true) :
    EventKind.headSilent ∈ (s.zonesProved f rebuilt).lif.flags.get (.face f) := by
  have decided : ((s.decide f).face f).proof.active.headSilent = false := by rw [decide_active]; exact inactive
  by_cases first : servedBySilent rebuilt f = true
  · exact (followHeads_quiet _ f _).flags _ _ (followHeads_raises decided first)
  · have still : (((s.decide f).followHeads f rebuilt).face f).proof.active.headSilent = false :=
      (followHeads_active _ f rebuilt).trans (Bool.eq_false_of_not_eq_true first)
    exact followHeads_raises still (silent.resolve_left first)

theorem handOnZones_handed (s : State) (f : Face) (rebuilt : List Head) (held : Bool) (zs : List Zone) :
    ZonesHanded f rebuilt held zs s (s.handOnZones f rebuilt held zs) := by
  have active : ((s.zonesProved f rebuilt).face f).proof.active.headSilent = servedBySilent s.gap.heads f := followHeads_active _ f _
  have gap : (s.zonesProved f rebuilt).gap = s.gap := (zonesProved_reported s f rebuilt).gap
  have judged := zonesProved_judged s f rebuilt
  have raised := zonesProved_raises (s := s) (f := f) (rebuilt := rebuilt)
  have reports : ((s.handOnZones f rebuilt held zs).face f).reports = (s.face f).reports ++ obstructionReports zs := by
    obtain ⟨-, -, -, reports, -⟩ := face_records_of (handOnZones_blocks s f rebuilt held zs) f
    rw [reports, Blocks.get_modFace, blocks_get]
    rfl
  have zones (v : State) (hv : v.ZonesJudged f) (hg : v.gap = s.gap) :
      (v.face f).proof.blockers.zones = !((s.gap.zones.get f).all fun z => z.state = .clear) := hg ▸ hv
  rw [handOnZones_eq] at reports ⊢
  generalize s.zonesProved f rebuilt = v at *
  split at reports
  next occupied =>
    rw [if_pos occupied]
    refine ⟨?_, fun inactive silent => ?_, fun _ _ => ?_, ?_, reports⟩
    · rw [modReports_proof, raiseFace, raise_active]
      exact active
    · exact (raiseFace_calm v f _).flags _ _ (raised inactive silent)
    · exact raise_flag v (.face f) .gapAfterClose
    · rw [modReports_proof]
      exact zones _ (raiseFace_zonesJudged judged f _) ((raiseFace_gap v f _).trans gap)
  next no =>
    rw [if_neg no]
    refine ⟨?_, raised, fun proven entered => absurd ⟨proven, entered⟩ no, ?_, reports⟩
    · rw [modReports_proof]
      exact active
    · rw [modReports_proof]
      exact zones v judged gap

end State
end Sys2Proof.Machine
end

section
/-! PROOFS. O43: the cycle end as a step, on the records as they stand and on those that an adoption has rebuilt (R104, R107, R110, R113 to
R116, R120, R121). -/

namespace Sys2Proof.Machine

namespace State

/-! ### Every head's scan and every zone's evaluation (R114, steps 2 to 4) -/

/-- The heads after their scans of the cycle. -/
def scannedHeads (s : State) : List Head := s.gap.heads.map fun h => h.take s.gap.cycle s.bump

/-- The zones evaluated with the heads after their scans. -/
def evaluatedZones (s : State) : PerFace (List Zone) :=
  s.gap.zones.map fun zs => zs.map fun z => z.evaluate (s.scannedHeads.find? fun h => h.slot = z.head) s.bump

theorem evaluateZones_gap (s : State) :
    s.takeScans.evaluateZones.gap = { s.gap with heads := s.scannedHeads, zones := s.evaluatedZones } := rfl

/-! ### The cycle end on records that stand (R104, R114) -/

/-- A cycle end whose results are handed on for face A and then for face B; the next cycle follows. -/
theorem cycleEnd_due {s : State} (due : s.gap.cycleStart + 20000 ≤ s.now) (settled : s.rebuildGap = s) :
    s.cycleEnd = ((s.takeScans.evaluateZones.handOnZones .A s.gap.heads (s.face .A).proof.held
      (entered s.gap.zones.a s.evaluatedZones.a)).handOnZones .B s.gap.heads (s.face .B).proof.held
        (entered s.gap.zones.b s.evaluatedZones.b)).nextCycle (s.gap.cycleStart + 20000) := by
  unfold cycleEnd
  rw [if_pos due, settled]
  rfl

theorem modGap_calm (s : State) (g : GapMonitor → GapMonitor) : Calm s (s.modGap g) := .of_eq rfl rfl fun _ => rfl

theorem modGap_quiet (s : State) (g : GapMonitor → GapMonitor) : Quiet s (s.modGap g) := (modGap_calm s g).toQuiet

theorem evaluateZones_quiet (s : State) : Quiet s s.takeScans.evaluateZones := (modGap_quiet s _).trans (modGap_quiet _ _)

section

variable {s : State} (due : s.gap.cycleStart + 20000 ≤ s.now) (settled : s.rebuildGap = s)
include due settled

theorem cycleEnd_quiet : Quiet s s.cycleEnd := by
  rw [cycleEnd_due due settled]
  exact (((evaluateZones_quiet s).trans (handOnZones_quiet _ .A _ _ _)).trans (handOnZones_quiet _ .B _ _ _)).trans (modGap_quiet _ _)

theorem cycleEnd_gap : s.cycleEnd.gap =
    { s.gap with
      heads := s.scannedHeads, zones := s.evaluatedZones, cycle := s.gap.cycle + 1, cycleStart := s.gap.cycleStart + 20000 } := by
  rw [cycleEnd_due due settled, nextCycle, modGap_gap, handOnZones_gap, handOnZones_gap, evaluateZones_gap]

/-- What was handed on for each face, whatever was for the other. -/
theorem cycleEnd_handed (f : Face) :
    ZonesHanded f s.gap.heads (s.face f).proof.held (entered (s.gap.zones.get f) (s.evaluatedZones.get f))
      s.takeScans.evaluateZones s.cycleEnd := by
  rw [cycleEnd_due due settled]
  cases f with
  | A =>
    exact (handOnZones_handed _ .A _ _ _).after ((handOnZones_apart _ .A _ _ _).trans (modGap_apart _ .A _))
      ((handOnZones_quiet _ .B _ _ _).trans (modGap_quiet _ _))
  | B =>
    exact ((handOnZones_handed _ .B _ _ _).before (handOnZones_apart _ .B _ _ _) (handOnZones_gap _ _ _ _ _)).after
      (modGap_apart _ .B _) (modGap_quiet _ _)

theorem cycleEnd_blocks : s.cycleEnd.blocks = { s.blocks with
    gap := s.cycleEnd.gap
    faces := ⟨{ s.blocks.faces.a with reports := (s.cycleEnd.face .A).reports },
      { s.blocks.faces.b with reports := (s.cycleEnd.face .B).reports }⟩ } := by
  rw [(cycleEnd_handed due settled .A).reports, (cycleEnd_handed due settled .B).reports]
  have next (v : State) (start : Micros) :
      (v.nextCycle start).blocks = { v.blocks with gap := (v.nextCycle start).gap } := rfl
  rw [cycleEnd_due due settled, next, handOnZones_blocks, handOnZones_blocks]
  rfl

end

/-- No adoption noted leaves nothing to rebuild (R114, step 1). -/
theorem rebuildGap_settled {s : State} (h : s.gap.adopted = ⟨false, false⟩) : s.rebuildGap = s := by
  unfold rebuildGap
  rw [h]
  rfl

theorem exec_sensorCycleEnd_runs {s : State} (hr : s.running = true) (t : Micros) :
    exec (.sensorCycleEnd t) s = .next (s.opened t).cycleEnd.arbitrate := by
  rw [← event_running hr t cycleEnd]
  rfl

end State

/-! ### The rebuild after an adoption (R107, R120, R121) -/

/-- The zone records of a face are those of its entries. -/
theorem mem_rebuildZones {tb : Tables} {f : Face} {old : List Zone} {z : Zone} :
    z ∈ rebuildZones tb f old ↔ ∃ (i : Fin 64) (e : ZoneEntry), tb.zones[i] = some e ∧ e.face = f ∧ z = rebuildZone old i e := by
  unfold rebuildZones
  rw [List.mem_filterMap]
  constructor
  · rintro ⟨⟨entry, i⟩, member, built⟩
    obtain ⟨hi, present⟩ := List.getElem?_eq_some_iff.1 (List.mem_zipIdx_iff_getElem?.1 member)
    cases entry with
    | none => cases built
    | some e =>
      obtain ⟨face, same⟩ := Option.ite_none_right_eq_some.1 built
      exact ⟨⟨i, by simpa using hi⟩, e, by simpa using present, face, (Option.some.inj same).symm⟩
  · rintro ⟨i, e, present, rfl, rfl⟩
    refine ⟨(some e, i), List.mem_zipIdx_iff_getElem?.2 ?_, by simp⟩
    rw [List.getElem?_eq_some_iff]
    exact ⟨by simp, by simpa using present⟩

namespace State

/-- The zones that are in force on a face once an adoption noted there has rebuilt them. -/
def zonesInForce (s : State) (f : Face) : List Zone :=
  if s.gap.adopted.get f = true then
    match s.tables? f, s.params? f with
    | some tb, some _ => rebuildZones tb f (s.gap.zones.get f)
    | _, _ => []
  else s.gap.zones.get f

/-- The zones that the face's active bank gives it; none for a face without a Face Parameter Record (R120). -/
def freshZones (s : State) (f : Face) : List Zone :=
  match s.tables? f with
  | some tb => if s.configured f then rebuildZones tb f (s.gap.zones.get f) else []
  | none => []

theorem zonesInForce_eq (s : State) (f : Face) :
    s.zonesInForce f = if s.gap.adopted.get f = true then s.freshZones f else s.gap.zones.get f := by
  unfold zonesInForce freshZones configured
  cases s.tables? f with
  | none => rfl
  | some tb => cases s.params? f <;> rfl

theorem rebuildGap_adopted {s : State} (h : s.gap.adopted ≠ ⟨false, false⟩) : s.rebuildGap = s.modGap fun g =>
    { g with
      adopted := ⟨false, false⟩, zones := ⟨s.zonesInForce .A, s.zonesInForce .B⟩
      heads := g.heads.map fun h => h.rebuild ⟨s.zonesInForce .A, s.zonesInForce .B⟩ } := by
  have noted : (s.gap.adopted.a || s.gap.adopted.b) = true := by
    rw [Bool.or_eq_true]
    by_contra none
    obtain ⟨a, b⟩ := not_or.1 none
    exact h (congrArg₂ PerFace.mk (Bool.eq_false_of_not_eq_true a) (Bool.eq_false_of_not_eq_true b))
  unfold rebuildGap
  dsimp only
  rw [if_pos noted, zonesInForce_eq, zonesInForce_eq]
  rfl

/-- The rebuild notes no adoption any more. -/
theorem rebuildGap_rebuilt (s : State) : s.rebuildGap.rebuildGap = s.rebuildGap := by
  by_cases h : s.gap.adopted = ⟨false, false⟩
  · rw [rebuildGap_settled h, rebuildGap_settled h]
  · exact rebuildGap_settled (by rw [rebuildGap_adopted h]; rfl)

theorem rebuildGap_now (s : State) : s.rebuildGap.now = s.now := (rebuildGap_kept s).now

theorem rebuildGap_cycleStart (s : State) : s.rebuildGap.gap.cycleStart = s.gap.cycleStart := by
  unfold rebuildGap
  dsimp only
  split <;> rfl

/-- The cycle end works on the rebuilt records. -/
theorem cycleEnd_rebuilt (s : State) (due : s.gap.cycleStart + 20000 ≤ s.now) : s.cycleEnd = s.rebuildGap.cycleEnd := by
  unfold cycleEnd
  rw [rebuildGap_cycleStart, rebuildGap_now, rebuildGap_rebuilt, if_pos due, if_pos due]

/-- The arbiter does not read the Gap Monitor. -/
theorem arbitrate_modGap (s : State) (g : GapMonitor → GapMonitor) : (s.modGap g).arbitrate = s.arbitrate.modGap g := by
  unfold arbitrate
  rw [modGap_lif]
  split
  · rfl
  · split
    · rfl
    · rfl
    · split
      · rfl
      · have same : (s.modGap g).periodicFace = s.periodicFace := rfl
        rw [same]
        split
        · unfold sendPeriodic
          rw [modGap_face]
          split <;> rfl
        · rfl

theorem opened_modGap (s : State) (t : Micros) (g : GapMonitor → GapMonitor) : (s.modGap g).opened t = (s.opened t).modGap g :=
  arbitrate_modGap (s.advance t) g

@[simp] theorem opened_scannedHeads (s : State) (t : Micros) : (s.opened t).scannedHeads = s.scannedHeads := by
  simp [scannedHeads, funext (opened_bump s t)]

@[simp] theorem opened_evaluatedZones (s : State) (t : Micros) : (s.opened t).evaluatedZones = s.evaluatedZones := by
  simp [evaluatedZones, funext (opened_bump s t)]

@[simp] theorem opened_zonesInForce (s : State) (t : Micros) (f : Face) : (s.opened t).zonesInForce f = s.zonesInForce f := by
  simp [zonesInForce]

end State

/-- A head's use follows the zones in force: a head that stays in use keeps its window, any other starts empty (R107, R120). -/
theorem Head.rebuild_eq (h : Head) (zones : PerFace (List Zone)) : h.rebuild zones =
    let serves := fun f => (zones.get f).any fun z => z.head = h.slot
    if (serves .A || serves .B) = true ∧ (h.serves.a || h.serves.b) = true then { h with serves := ⟨serves .A, serves .B⟩ }
    else
      { h with
        serves := ⟨serves .A, serves .B⟩, window := [], missingStreak := 0, goodStreak := 0
        state := if (serves .A || serves .B) = true then .unknown else .unused } := by
  have spelled : (zones.map fun zs => zs.any fun z => z.head = h.slot) =
      ⟨(zones.get .A).any fun z => z.head = h.slot, (zones.get .B).any fun z => z.head = h.slot⟩ := rfl
  unfold rebuild inUse
  rw [spelled]
  dsimp only
  split
  next serves =>
    split
    next used => rw [if_pos ⟨serves, used⟩]
    next unused => rw [if_neg fun both => unused both.2]
  next idle => rw [if_neg fun both => idle both.1]

/-- A zone record as its entry brings it into force, a zone id in force before with its counter (R120). -/
theorem rebuildZone_eq (old : List Zone) (id : Nat) (e : ZoneEntry) : rebuildZone old id e =
    { id := id, door := e.door, head := e.head, beams := e.beams, kOn := e.kOn, kOff := e.kOff, policy := e.policy
      state := .unknown, metric := none
      entries := match old.find? fun y => y.id = id with | some y => y.entries | none => 0 } := by
  unfold rebuildZone
  cases old.find? fun y => y.id = id <;> rfl

/-- The step that a cycle end makes after an adoption is the one it makes on the rebuilt records. -/
theorem exec_sensorCycleEnd_rebuilt {s : State} {t : Micros} (hr : s.running = true) (due : s.gap.cycleStart + 20000 ≤ max s.now t)
    (adopted : s.gap.adopted ≠ ⟨false, false⟩) : exec (.sensorCycleEnd t) s = exec (.sensorCycleEnd t) (s.modGap fun g =>
      { g with
        adopted := ⟨false, false⟩, zones := ⟨s.zonesInForce .A, s.zonesInForce .B⟩
        heads := g.heads.map fun h => h.rebuild ⟨s.zonesInForce .A, s.zonesInForce .B⟩ }) := by
  rw [State.exec_sensorCycleEnd_runs hr, State.exec_sensorCycleEnd_runs (s := s.modGap _) hr, State.opened_modGap,
    State.cycleEnd_rebuilt (s.opened t) (by simpa using due), State.rebuildGap_adopted (by simpa using adopted)]
  simp only [State.opened_zonesInForce]

/-- Settles O43: the step on records that stand by what is handed on for each face, and after an adoption by the rebuilt records. -/
theorem cycleEndEvaluatesTheGap : Obligations.CycleEndEvaluatesTheGap := by
  refine ⟨fun s t hr hd settled => ?_, fun tb f old z => ?_, fun s t hr hd adopted => ?_⟩
  · intro heads zones enters
    have due : (s.opened t).gap.cycleStart + 20000 ≤ (s.opened t).now := by simpa using hd
    have stands : (s.opened t).rebuildGap = s.opened t := State.rebuildGap_settled (by simpa using settled)
    have gap : (s.opened t).cycleEnd.gap =
        { s.gap with heads := heads, zones := zones, cycle := s.gap.cycle + 1, cycleStart := s.gap.cycleStart + 20000 } := by
      rw [State.cycleEnd_gap due stands, State.opened_scannedHeads, State.opened_evaluatedZones, State.opened_gap]
      rfl
    have quiet := State.cycleEnd_quiet due stands
    have handed (f : Face) : ZonesHanded f s.gap.heads (s.face f).proof.held (entered (s.gap.zones.get f) (zones.get f))
        (s.opened t).takeScans.evaluateZones (s.opened t).cycleEnd := by
      have h := State.cycleEnd_handed due stands f
      rw [State.opened_gap, State.opened_proof_held, State.opened_evaluatedZones] at h
      exact h
    have enters_iff (f : Face) (z : Zone) : enters f z ↔ z ∈ entered (s.gap.zones.get f) (zones.get f) := mem_entered.symm
    have before : (s.opened t).takeScans.evaluateZones.gap = { s.gap with heads := heads, zones := zones } := by
      rw [State.evaluateZones_gap, State.opened_scannedHeads, State.opened_evaluatedZones, State.opened_gap]
      rfl
    refine ⟨_, State.exec_sensorCycleEnd_runs hr t, ?_, ?_, ?_, fun f => ?_, fun f held entry => ?_, fun f => ?_,
      fun f inactive silent => ?_, fun f => ?_, ?_⟩
    · rw [State.arbitrate_lif_intake, quiet.intake, State.opened_lif_intake]
    · rw [State.arbitrate_lif_replies, quiet.replies, State.opened_lif_replies]
    · rw [State.arbitrate_gap, gap]
    · refine ⟨obstructionReports (entered (s.gap.zones.get f) (zones.get f)), ?_, obstructionReports_ordered _,
        fun r hr => (mem_obstructionReports.1 hr).2.2, fun n id => ?_⟩
      · rw [State.arbitrate_reports, (handed f).reports]
        exact congrArg (· ++ _) (State.opened_reports s t f)
      · simp only [enters_iff, reported_iff]
    · obtain ⟨z, entered⟩ := entry
      rw [State.arbitrate_lif_flags]
      exact (handed f).closeFlag held (List.ne_nil_of_mem ((enters_iff f z).1 entered))
    · rw [State.arbitrate_proof_active, (handed f).headSilent, before]
      rfl
    · have clear : ((s.opened t).face f).proof.active.headSilent = false := by rw [State.opened_proof_active]; exact inactive
      rw [State.arbitrate_lif_flags]
      refine (handed f).silentFlag clear ?_
      rw [before]
      obtain ⟨h, stood | scanned, serves, state⟩ := silent
      · exact .inl ((servedBySilent_iff _ f).2 ⟨h, stood, serves, state⟩)
      · exact .inr ((servedBySilent_iff _ f).2 ⟨h, scanned, serves, state⟩)
    · rw [State.arbitrate_proof_blockers, (handed f).zones, before]
    · rw [State.arbitrate_blocks, State.arbitrate_gap, State.arbitrate_reports, State.arbitrate_reports,
        State.cycleEnd_blocks due stands, State.opened_blocks]
  · have built := mem_rebuildZones (tb := tb) (f := f) (old := old) (z := z)
    simp only [rebuildZone_eq] at built
    exact built
  · have rebuilt := exec_sensorCycleEnd_rebuilt hr hd adopted
    simp only [Head.rebuild_eq] at rebuilt
    exact rebuilt

end Sys2Proof.Machine
end

section
/-! PROOFS. The close deferral's end from a record that its own step has just changed, and the partner dwell timer's expiry (R127, R128). -/

namespace Sys2Proof.Machine

namespace State

theorem modDeferral_congr {s : State} {f : Face} {g h : Deferral → Deferral} (e : g (s.face f).deferral = h (s.face f).deferral) :
    s.modDeferral f g = s.modDeferral f h := by
  rw [modDeferral, modDeferral, e]

theorem due_some {s : State} {e : Millis} (h : e ≤ s.ms) : s.due (some e) = true := by simpa [due] using h

/-- Nothing expires where no deferral is in progress (R127). -/
theorem partnerDwellLapse_unused {s : State} {f : Face} (h : (s.face f).deferral.used = none) : s.partnerDwellLapse f = s :=
  if_neg (by simp [h])

/-- Nothing expires before the partner dwell timer's time. -/
theorem partnerDwellLapse_early {s : State} {f : Face} (h : ∀ e, (s.face f).deferral.partnerTimer = some e → s.ms < e) :
    s.partnerDwellLapse f = s := by
  refine if_neg fun ⟨_, due⟩ => ?_
  unfold State.due at due
  split at due
  next => exact absurd due (by simp)
  next e timer => exact Nat.not_le.2 (h e timer) (by simpa using due)

theorem partnerDwellLapse_due {s : State} {f : Face} {e : Millis} (used : (s.face f).deferral.used ≠ none)
    (timer : (s.face f).deferral.partnerTimer = some e) (late : e ≤ s.ms) :
    s.partnerDwellLapse f = s.endWithClose f .partnerDwell :=
  if_pos ⟨Option.isSome_iff_ne_none.2 used, by rw [timer]; exact due_some late⟩

theorem holdMaximumLapse_due {s : State} {f : Face} {e : Millis} (used : (s.face f).deferral.used ≠ none)
    (timer : (s.face f).deferral.maximum = some e) (late : e ≤ s.ms) :
    s.holdMaximumLapse f = s.endWithClose f .maximum :=
  if_pos ⟨Option.isSome_iff_ne_none.2 used, by rw [timer]; exact due_some late⟩

/-- HOLD_ENDED stays raised through the held close (R127). -/
theorem endWithClose_flag (s : State) (f : Face) (c : EndCause) : .holdEnded ∈ (s.endWithClose f c).lif.flags.get (.face f) :=
  (applyDoors_calm _ f _ _).flags _ _ (endDeferral_flag s f c)

/-- A deferral whose record the step has just changed ends on the doors that the step found. -/
theorem modDeferral_endWithClose_blocks (s : State) (f : Face) (g : Deferral → Deferral) (c : EndCause) (hn : DistinctDoors (s.face f)) :
    ((s.modDeferral f g).endWithClose f c).blocks = s.blocks.modFace f fun b =>
      { b with
        deferral := (g b.deferral).ended c s.ms
        doors := b.doors.map fun d => if d.closable then (d.startClose (s.doorContext f d.number) .routine).door else d } := by
  have context (n : Nat) : (s.modDeferral f g).doorContext f n = s.doorContext f n :=
    doorContext_eq f n (modDeferral_calm s f g).toQuiet rfl rfl (by simp)
  rw [endWithClose_blocks _ f c (hn.of_doors (modDeferral_doors s f f g)), modDeferral_blocks, Blocks.modFace_modFace]
  simp only [context]
  rfl

theorem modDeferral_endWithClose_face (s : State) (f : Face) (g : Deferral → Deferral) (c : EndCause) (hn : DistinctDoors (s.face f)) :
    let u := (s.modDeferral f g).endWithClose f c
    (u.face f).deferral = (g (s.face f).deferral).ended c s.ms ∧
      (u.face f).doors = (s.face f).doors.map fun d =>
        if d.closable then (d.startClose (s.doorContext f d.number) .routine).door else d := by
  obtain ⟨-, doors, deferral, -⟩ := face_records_of (modDeferral_endWithClose_blocks s f g c hn) f
  rw [Blocks.get_modFace, blocks_get] at doors deferral
  exact ⟨deferral, doors⟩

end State

end Sys2Proof.Machine
end

section
/-! PROOFS. O37: the ends of a deferral with its held close, and what it makes of the partner's entry to DWELLING and exit from it
(R127 to R129). -/

namespace Sys2Proof.Machine

theorem exec_holdMaximumExpiry {s : State} (h : s.running = true) (t : Micros) (f : Face) :
    exec (.holdMaximumExpiry t f) s = .next ((s.opened t).holdMaximumLapse f).arbitrate := by
  rw [← State.event_running h t fun s => s.holdMaximumLapse f]; rfl

theorem exec_partnerDwellExpiry {s : State} (h : s.running = true) (t : Micros) (f : Face) :
    exec (.partnerDwellExpiry t f) s = .next ((s.opened t).partnerDwellLapse f).arbitrate := by
  rw [← State.event_running h t fun s => s.partnerDwellLapse f]; rfl

namespace State

/-- A timer's event that ends a deferral: its flag, its held close, and nothing else of the lists and the blocks (R127, R128). -/
theorem opened_endWithClose (s : State) (t : Micros) (f : Face) (cause : EndCause) (hn : DistinctDoors (s.face f)) :
    let u := ((s.opened t).endWithClose f cause).arbitrate
    u.lif.intake = s.lif.intake ∧ u.lif.replies = s.lif.replies ∧ EventKind.holdEnded ∈ u.lif.flags.get (.face f) ∧
      u.blocks = s.blocks.modFace f fun b =>
        { b with
          deferral := b.deferral.ended cause (s.advance t).ms
          doors := b.doors.map fun d =>
            if d.closable then (d.startClose ((s.advance t).doorContext f d.number) .routine).door else d } := by
  intro u
  have opening := (opened_calm s t).toQuiet
  have quiet : Quiet (s.advance t) u :=
    (opening.trans (endWithClose_calm _ f cause).toQuiet).trans (arbitrate_calm _).toQuiet
  have context (n : Nat) : (s.opened t).doorContext f n = (s.advance t).doorContext f n := arbitrate_doorContext _ f n
  refine ⟨quiet.intake, quiet.replies, (arbitrate_calm _).flags _ _ (endWithClose_flag _ f cause), ?_⟩
  rw [arbitrate_blocks, endWithClose_blocks _ f cause (hn.of_doors (by simp)), opened_blocks, opening.ms]
  simp only [context]

/-- The partner's exit ends a deferral that has seen it dwell (R127). -/
theorem partnerExits_seen {s : State} {f : Face} (used : (s.face f).deferral.used ≠ none)
    (seen : (s.face f).deferral.partnerSeen = true) :
    s.partnerExits f =
      (s.modDeferral f fun d => { d with partnerView := .notDwelling, partnerTimer := none }).endWithClose f .partnerLeft :=
  if_pos ⟨Option.isSome_iff_ne_none.2 used, seen⟩

/-- The partner's exit is only noted where no deferral has seen it dwell (R127). -/
theorem partnerExits_noted {s : State} {f : Face}
    (h : (s.face f).deferral.used = none ∨ (s.face f).deferral.partnerSeen = false) :
    s.partnerExits f = s.modDeferral f fun d => { d with partnerView := .notDwelling, partnerTimer := none } :=
  if_neg fun ⟨used, seen⟩ => h.elim (fun unused => by simp [unused] at used) (fun unseen => by simp [unseen] at seen)

theorem partnerExits_partnerTimer (s : State) (f : Face) : ((s.partnerExits f).face f).deferral.partnerTimer = none := by
  unfold partnerExits
  dsimp only
  split
  · simp [endWithClose, endDeferral, closeFaceNow]
  · simp

/-- The partner's entry is only noted where no deferral is in progress (R127). -/
theorem partnerEnters_unused {s : State} {f : Face} (h : (s.face f).deferral.used = none) (start : Millis) :
    s.partnerEnters f start = s.modDeferral f fun d => { d with partnerView := .dwelling start } := by
  rw [partnerEnters, modDeferral_congr (h := fun d => { d with partnerView := .dwelling start }) (by simp only [h])]
  exact partnerDwellLapse_unused (by simpa using h)

/-- A deferral in progress sees the partner's entry, and its partner dwell timer starts (R127). -/
theorem partnerEnters_used {s : State} {f : Face} {y : HoldUsed} (h : (s.face f).deferral.used = some y) (start : Millis) :
    s.partnerEnters f start = (s.modDeferral f fun d =>
      { d with partnerView := .dwelling start, partnerSeen := true
               partnerTimer := some (start + y.entry.minDwell) }).partnerDwellLapse f := by
  refine congrArg (fun v : State => v.partnerDwellLapse f) (modDeferral_congr ?_)
  simp only [h]

theorem partnerEnters_early {s : State} {f : Face} {y : HoldUsed} {start : Millis} (h : (s.face f).deferral.used = some y)
    (early : s.ms < start + y.entry.minDwell) :
    s.partnerEnters f start = s.modDeferral f fun d =>
      { d with partnerView := .dwelling start, partnerSeen := true, partnerTimer := some (start + y.entry.minDwell) } := by
  rw [partnerEnters_used h]
  exact partnerDwellLapse_early fun e timer => by simp only [modDeferral_same, Option.some.injEq] at timer; exact timer ▸ early

theorem partnerEnters_due {s : State} {f : Face} {y : HoldUsed} {start : Millis} (h : (s.face f).deferral.used = some y)
    (late : start + y.entry.minDwell ≤ s.ms) :
    s.partnerEnters f start = (s.modDeferral f fun d =>
      { d with partnerView := .dwelling start, partnerSeen := true
               partnerTimer := some (start + y.entry.minDwell) }).endWithClose f .partnerDwell := by
  rw [partnerEnters_used h]
  exact partnerDwellLapse_due (by simp [h]) (by rw [modDeferral_same]) late

end State

/-- Settles O37: each end is `endWithClose`, and the partner's changes of view are changes of the deferral record. -/
theorem deferralEndsWithItsClose : Obligations.DeferralEndsWithItsClose := by
  refine ⟨fun s t f c cause ordered running used expires => ?_, fun s f ordered => ?_, fun s f start ordered => ?_⟩
  · have distinct := State.DistinctDoors.of_ordered ordered f
    have inUse : ((s.opened t).face f).deferral.used ≠ none := by simpa using used
    have now : (s.opened t).ms = (s.advance t).ms := (State.opened_calm s t).ms
    obtain ⟨rfl, rfl, e, timer, late⟩ | ⟨rfl, rfl, e, timer, late⟩ := expires
    · refine ⟨_, exec_holdMaximumExpiry running t f, ?_⟩
      rw [State.holdMaximumLapse_due inUse (by simpa using timer) (now ▸ late)]
      exact State.opened_endWithClose s t f _ distinct
    · refine ⟨_, exec_partnerDwellExpiry running t f, ?_⟩
      rw [State.partnerDwellLapse_due inUse (by simpa using timer) (now ▸ late)]
      exact State.opened_endWithClose s t f _ distinct
  · intro u
    have distinct := State.DistinctDoors.of_ordered ordered f
    refine ⟨State.partnerExits_partnerView s f, State.partnerExits_partnerTimer s f, fun used seen => ?_, fun unseen => ?_⟩
    · rw [show u = _ from State.partnerExits_seen used seen]
      obtain ⟨deferral, doors⟩ := State.modDeferral_endWithClose_face s f
        (fun d => { d with partnerView := .notDwelling, partnerTimer := none }) .partnerLeft distinct
      exact ⟨congrArg Deferral.used deferral, congrArg Deferral.lastEnd deferral, State.endWithClose_flag _ f _, doors⟩
    · rw [show u = _ from State.partnerExits_noted unseen]
      exact ⟨rfl, State.modDeferral_blocks s f _⟩
  · intro u
    have distinct := State.DistinctDoors.of_ordered ordered f
    refine ⟨fun unused => ?_, fun y used => ⟨fun early => ?_, fun late => ?_⟩⟩
    · rw [show u = _ from State.partnerEnters_unused unused start]
      exact ⟨rfl, State.modDeferral_blocks s f _⟩
    · rw [show u = _ from State.partnerEnters_early used early]
      exact ⟨rfl, State.modDeferral_blocks s f _⟩
    · rw [show u = _ from State.partnerEnters_due used late]
      exact ⟨State.endWithClose_flag _ f _, State.modDeferral_endWithClose_blocks s f _ _ distinct⟩

end Sys2Proof.Machine
end

section
/-! PROOFS. O26: HOLD_ADD and HOLD_CANCEL, and the lowest slot of the list that a search finds (R122 to R124). -/

namespace Sys2Proof.Machine

/-- A search of an indexed list finds the lowest place that passes. -/
theorem find?_indexed {α : Type} {l : List α} {p : Nat × α → Bool} {i : Nat} {a : α} (at_i : l[i]? = some a) (passes : p (i, a) = true)
    (lowest : ∀ j < i, ∀ b, l[j]? = some b → p (j, b) = false) : (indexed l).find? p = some (i, a) := by
  obtain ⟨bound, rfl⟩ := List.getElem?_eq_some_iff.1 at_i
  refine List.find?_eq_some_iff_getElem.2 ⟨passes, i, by simpa [indexed] using bound, by simp [indexed], fun j before => ?_⟩
  simpa [indexed] using lowest j before l[j] (List.getElem?_eq_getElem (before.trans bound))

/-- The slot that HOLD_ADD fills (R123). -/
theorem emptyHold_lowest {holds : Vector (Option HoldEntry) 8} {i : Fin 8} (empty : holds[i] = none)
    (lowest : ∀ j : Fin 8, j < i → holds[j] ≠ none) : emptyHold holds = some i.val := by
  have found := find?_indexed (l := holds.toList) (p := fun p => p.2.isNone) (i := i) (a := none) (by simpa using empty) rfl
    fun j before b held => ?_
  · rw [emptyHold, found]; rfl
  · obtain ⟨bound, rfl⟩ := List.getElem?_eq_some_iff.1 held
    have full := lowest ⟨j, before.trans i.isLt⟩ before
    simpa [Option.isSome_iff_ne_none] using full

/-- A full list has no empty slot (R123). -/
theorem emptyHold_full {holds : Vector (Option HoldEntry) 8} (full : ∀ i : Fin 8, holds[i] ≠ none) : emptyHold holds = none := by
  refine Option.map_eq_none_iff.2 (List.find?_eq_none.2 fun p hp => ?_)
  obtain ⟨bound, held⟩ := List.getElem?_eq_some_iff.1 (mem_indexed.1 hp)
  have taken := full ⟨p.1, by simpa using bound⟩
  rw [← held]
  simpa using taken

theorem setIfInBounds_fin {α : Type} {n : Nat} (v : Vector α n) (i : Fin n) (a : α) : v.setIfInBounds i a = v.set i a := by
  ext j hj
  simp [Vector.getElem_setIfInBounds, Vector.getElem_set]

/-- The slot byte of HOLD_CANCEL, 0 to 7 (R124). -/
theorem parseHoldSlot_slot (i : Fin 8) : parseHoldSlot [BitVec.ofNat 8 i] = some i.val := by
  have small : i.val % 256 = i.val := Nat.mod_eq_of_lt (by omega)
  simp [parseHoldSlot, parseByte, small, Option.filter]

theorem parseHoldSlot_none {body : List Byte} (h : ∀ b, body = [b] → 8 ≤ b.toNat) : parseHoldSlot body = none := by
  unfold parseHoldSlot parseByte
  split
  next b => simp [Option.filter, h b rfl]
  · rfl

namespace State

/-! ### HOLD_ADD (R123) -/

variable {s : State} {r : Request} {f : Face}

theorem takeHoldAdd_malformed (hf : r.face? = some f) (hc : s.configured f = true) (h : parseHold f r.body = none) :
    s.takeHoldAdd r = s.refuse r .badArgument := by
  rw [takeHoldAdd, withConfigured_of hf hc]
  simp only [h]

theorem takeHoldAdd_full {h : HoldEntry} (hf : r.face? = some f) (hc : s.configured f = true) (parsed : parseHold f r.body = some h)
    (full : ∀ i : Fin 8, s.holds[i] ≠ none) : s.takeHoldAdd r = s.refuse r .full := by
  rw [takeHoldAdd, withConfigured_of hf hc]
  simp only [parsed, emptyHold_full full]

theorem takeHoldAdd_placed {h : HoldEntry} {i : Fin 8} (hf : r.face? = some f) (hc : s.configured f = true)
    (parsed : parseHold f r.body = some h) (empty : s.holds[i] = none) (lowest : ∀ j : Fin 8, j < i → s.holds[j] ≠ none) :
    s.takeHoldAdd r = { s with holds := s.holds.set i (some h) }.answer r .done [BitVec.ofNat 8 i] := by
  rw [takeHoldAdd, withConfigured_of hf hc]
  simp only [parsed, emptyHold_lowest empty lowest, setIfInBounds_fin]
  rfl

/-! ### HOLD_CANCEL (R124) -/

theorem takeHoldCancel_malformed (hf : r.face? = some f) (h : parseHoldSlot r.body = none) :
    s.takeHoldCancel r = s.refuse r .badArgument := by
  rw [takeHoldCancel, withFace_of hf]
  simp only [h]

/-- HOLD_CANCEL of a slot of the list, by the face of the entry that the slot holds. -/
theorem takeHoldCancel_slot {i : Fin 8} (hf : r.face? = some f) (h : r.body = [BitVec.ofNat 8 i]) :
    s.takeHoldCancel r =
      if s.holds[i].map (fun h => h.face) = some f then { s with holds := s.holds.set i none }.done r else s.refuse r .badState := by
  rw [takeHoldCancel, withFace_of hf, h]
  simp only [parseHoldSlot_slot, setIfInBounds_fin]
  simp

end State

/-- Settles O26: each case by the rule of its request above, read at the state that the request's block finds. -/
theorem holdsAreAddedAndCancelled : Obligations.HoldsAreAddedAndCancelled := by
  intro s t r rest f hf
  have holds := State.handed_holds s t rest
  refine ⟨fun takes hc => ?_, fun takes => ⟨fun outside => ?_, fun i hb => ?_⟩⟩
  · have configured : (s.handed t rest).configured f = true := by simpa using hc
    refine ⟨fun malformed => refuses_of_takes rfl takes (State.takeHoldAdd_malformed hf configured malformed),
      fun h parsed => ⟨fun full => ?_, fun i empty lowest => ?_⟩⟩
    · exact refuses_of_takes rfl takes (State.takeHoldAdd_full (s := s.handed t rest) hf configured parsed (by rwa [holds]))
    · have placed := State.takeHoldAdd_placed hf configured parsed (by rwa [holds]) (by rwa [holds])
      rw [Answers, exec_of_takes (c := .holdAdd t) rfl takes, placed, holds]
      rfl
  · exact refuses_of_takes rfl takes (State.takeHoldCancel_malformed hf (parseHoldSlot_none outside))
  · have carried := State.takeHoldCancel_slot (s := s.handed t rest) hf hb
    rw [holds] at carried
    refine ⟨fun foreign => ?_, fun h held own => ?_⟩
    · rw [if_neg fun e => ?_] at carried
      · exact refuses_of_takes rfl takes carried
      · obtain ⟨h, held, own⟩ := Option.map_eq_some_iff.1 e
        exact foreign h held own
    · rw [if_pos (by rw [held]; exact congrArg some own)] at carried
      rw [Answers, exec_of_takes (c := .holdCancel t) rfl takes, carried]
      rfl

end Sys2Proof.Machine
end

section
/-! PROOFS. O23: CLOSE_FACE with a matching hold begins a deferral, which ends at once where the partner has dwelt long enough (R122, R125
to R127). -/

namespace Sys2Proof.Machine

/-- The entry that a CLOSE_FACE uses: of the face's entries that match unit 1, the one of lowest slot (R122, R126). -/
theorem matchingHold_lowest {holds : Vector (Option HoldEntry) 8} {f : Face} {x : Word32} {i : Fin 8} {h : HoldEntry}
    (held : holds[i] = some h) (own : h.face = f) (hits : x &&& h.mask = h.key &&& h.mask)
    (lowest : ∀ j : Fin 8, j < i → ∀ g, holds[j] = some g → g.face = f → x &&& g.mask ≠ g.key &&& g.mask) :
    matchingHold holds f x = some (i.val, h) := by
  rw [matchingHold, List.find?_filterMap, find?_indexed (i := i) (a := some h) (by simpa using held)]
  · rfl
  · simp [own, HoldEntry.hits, hits]
  · intro j before b at_j
    obtain ⟨bound, rfl⟩ := List.getElem?_eq_some_iff.1 at_j
    cases entry : holds[j]'(before.trans i.isLt) with
    | none => simp [entry]
    | some g =>
      have misses := lowest ⟨j, before.trans i.isLt⟩ before g entry
      simpa [entry, HoldEntry.hits] using misses

/-- The deferral record as a deferral begins: the hold used, both timers, and what the partner view says of the partner (R126, R127). -/
def Deferral.begun (x : HoldUsed) (now : Millis) (bump : Counter → Counter) (d : Deferral) : Deferral :=
  { d with
    used := some x, start := some now, maximum := some (now + x.entry.maxHold)
    partnerSeen := match d.partnerView with | .dwelling _ => true | .notDwelling => false
    partnerTimer := match d.partnerView with | .dwelling p => some (p + x.entry.minDwell) | .notDwelling => none
    count := bump d.count }

namespace State

/-- A slot of the one list emptied (R124, R126). -/
def emptied (s : State) (i : Fin 8) : State := { s with holds := s.holds.set i none }

theorem emptied_calm (s : State) (i : Fin 8) : Calm s (s.emptied i) := .of_eq rfl rfl fun _ => rfl

theorem emptied_blocks (s : State) (i : Fin 8) : (s.emptied i).blocks = { s.blocks with holds := s.holds.set i none } := rfl

theorem beginDeferral_eq (s : State) (f : Face) (i : Fin 8) (h : HoldEntry) :
    s.beginDeferral f i h = ((s.emptied i).modDeferral f (Deferral.begun ⟨i, h⟩ s.ms s.bump)).partnerDwellLapse f := by
  rw [beginDeferral, setIfInBounds_fin]
  rfl

theorem beginDeferral_calm (s : State) (f : Face) (i : Fin 8) (h : HoldEntry) : Calm s (s.beginDeferral f i h) := by
  rw [beginDeferral_eq]
  exact ((emptied_calm s i).trans (modDeferral_calm _ f _)).trans (partnerDwellLapse_calm _ f)

theorem beginDeferral_holds (s : State) (f : Face) (i : Fin 8) (h : HoldEntry) : (s.beginDeferral f i h).holds = s.holds.set i none := by
  rw [beginDeferral_eq]
  exact (partnerDwellLapse_local _ f).shared.1

/-- Where the partner has dwelt for T the deferral ends as it begins (R127). -/
theorem beginDeferral_ends {s : State} {f : Face} {h : HoldEntry} {p : Millis}
    (view : (s.face f).deferral.partnerView = .dwelling p) (late : p + h.minDwell ≤ s.ms) (i : Fin 8) :
    s.beginDeferral f i h = ((s.emptied i).modDeferral f (Deferral.begun ⟨i, h⟩ s.ms s.bump)).endWithClose f .partnerDwell := by
  have same : ((s.emptied i).face f).deferral = (s.face f).deferral := rfl
  rw [beginDeferral_eq]
  refine partnerDwellLapse_due (e := p + h.minDwell) ?_ ?_ late <;> simp [same, Deferral.begun, view]

/-- Where the partner does not dwell, or has not dwelt for T, the deferral stands (R126, R127). -/
theorem beginDeferral_stands {s : State} {f : Face} {h : HoldEntry}
    (view : (s.face f).deferral.partnerView = .notDwelling ∨
      ∃ p, (s.face f).deferral.partnerView = .dwelling p ∧ s.ms < p + h.minDwell) (i : Fin 8) :
    s.beginDeferral f i h = (s.emptied i).modDeferral f (Deferral.begun ⟨i, h⟩ s.ms s.bump) := by
  have same : ((s.emptied i).face f).deferral = (s.face f).deferral := rfl
  rw [beginDeferral_eq]
  refine partnerDwellLapse_early fun e timer => ?_
  rw [modDeferral_same, same] at timer
  obtain away | ⟨p, dwells, early⟩ := view
  · simp [Deferral.begun, away] at timer
  · simp only [Deferral.begun, dwells, Option.some.injEq] at timer
    exact timer ▸ early

/-- A deferral that ends as it begins: its record, the held close and its flag (R126 to R128). -/
theorem beginDeferral_ended {s : State} {f : Face} {h : HoldEntry} {p : Millis}
    (view : (s.face f).deferral.partnerView = .dwelling p) (late : p + h.minDwell ≤ s.ms) (i : Fin 8) (hn : DistinctDoors (s.face f)) :
    let u := s.beginDeferral f i h
    (u.face f).deferral = ((s.face f).deferral.begun ⟨i, h⟩ s.ms s.bump).ended .partnerDwell s.ms ∧
      (u.face f).doors = ((s.face f).doors.map fun d =>
        if d.closable then (d.startClose (s.doorContext f d.number) .routine).door else d) ∧
      .holdEnded ∈ u.lif.flags.get (.face f) := by
  intro u
  rw [show u = _ from beginDeferral_ends view late i]
  obtain ⟨deferral, doors⟩ := modDeferral_endWithClose_face (s.emptied i) f (Deferral.begun ⟨i, h⟩ s.ms s.bump) .partnerDwell hn
  exact ⟨deferral, doors, endWithClose_flag _ f _⟩

/-- The hold that a CLOSE_FACE uses in DWELLING (R126). -/
theorem closeFaceHold_dwelling {s : State} {f : Face} {x : Word32} (dwelling : (s.face f).berth.state = .dwelling)
    (unit : s.firstUnit f = some x) : s.closeFaceHold f = matchingHold s.holds f x := by
  rw [closeFaceHold, if_pos dwelling, unit]
  rfl

/-- CLOSE_FACE with a hold to use, where no deferral is in progress (R126). -/
theorem takeCloseFace_defers {s : State} {r : Request} {f : Face} {i : Fin 8} {h : HoldEntry} (hf : r.face? = some f)
    (hc : s.configured f = true) (hb : r.body = []) (hr : (s.face f).release.state ≠ .evacuating)
    (unused : (s.face f).deferral.used = none) (hold : s.closeFaceHold f = some (i.val, h)) :
    s.takeCloseFace r = (s.beginDeferral f i h).answer r .deferred [] := by
  rw [takeCloseFace, withConfigured_of hf hc, withNoFields_of hb, if_neg hr, if_neg (by simp [unused]), hold]

end State

theorem State.handed_bump (s : State) (t : Micros) (rest : List Request) : (s.handed t rest).bump = s.bump := by
  funext c
  simp [bump]

/-- What a request carried out comes to, whatever its answer. -/
theorem answered_of_takes {c : Instr} {s v : State} {t : Micros} {r : Request} {rest : List Request} {k : Option RequestKind}
    {g : Request → State → State} {result : Result} {data : List Byte}
    (hc : exec c s = .next (s.event t fun s => s.takeRequest k g)) (h : Takes s r rest k)
    (hg : g r (s.handed t rest) = v.answer r result data) (q : Quiet (s.handed t rest) v) :
    ∃ u, exec c s = .next u ∧ Answered s u r rest result data ∧ u.blocks = v.blocks ∧
      ∀ c k, k ∈ v.lif.flags.get c → k ∈ u.lif.flags.get c := by
  have quiet := (State.arbitrate_calm (v.answer r result data)).toQuiet
  have replies : (v.answer r result data).lif.replies = v.lif.replies ++ [replyTo r result data] := rfl
  refine ⟨(v.answer r result data).arbitrate, by rw [exec_of_takes hc h, hg], ⟨?_, ?_⟩, State.arbitrate_blocks _, quiet.flags⟩
  · exact quiet.intake.trans q.intake
  · rw [quiet.replies, replies, q.replies, State.handed_lif_replies]

/-- Settles O23: the deferral begins with the lowest matching entry, and stands or ends at once by the partner view. -/
theorem closeFaceBeginsADeferral : Obligations.CloseFaceBeginsADeferral := by
  intro s t r rest f x i h ordered takes hf hb hc hr unused dwelling unit held own hits lowest now
  have holds := State.handed_holds s t rest
  have deferral := State.handed_deferral s t rest f
  have doors := State.handed_doors s t rest f
  have ms : (s.handed t rest).ms = now := State.handed_ms s t rest
  have hold : (s.handed t rest).closeFaceHold f = some (i.val, h) := by
    rw [State.closeFaceHold_dwelling (x := x) (by simpa using dwelling) (by simpa [State.firstUnit] using unit), holds]
    exact matchingHold_lowest held own hits lowest
  have defers := State.takeCloseFace_defers (s := s.handed t rest) hf (by simpa using hc) hb (by simpa using hr)
    (by rw [deferral]; exact unused) hold
  obtain ⟨u, hu, answered, blocks, flags⟩ := answered_of_takes (c := .closeFace t) rfl takes defers
    (State.beginDeferral_calm _ f i h).toQuiet
  refine ⟨u, hu, answered, ?_, fun p view late => ?_, fun view => ?_⟩
  · rw [show u.holds = _ from congrArg Blocks.holds blocks]
    exact (State.beginDeferral_holds _ f i h).trans (by rw [holds])
  · obtain ⟨ended, closed, flag⟩ := State.beginDeferral_ended (by rw [deferral]; exact view) (by rw [ms]; exact late) i
      ((State.DistinctDoors.of_ordered ordered f).of_doors doors)
    obtain ⟨-, uDoors, uDeferral, -⟩ := State.face_records_of blocks f
    rw [State.blocks_get] at uDoors uDeferral
    have record := uDeferral.trans ended
    rw [deferral, ms, State.handed_bump] at record
    refine ⟨congrArg Deferral.used record, congrArg Deferral.lastEnd record, congrArg Deferral.count record, flags _ _ flag, ?_⟩
    have shut := uDoors.trans closed
    simp only [doors, State.handed_doorContext] at shut
    exact shut
  · rw [blocks, State.beginDeferral_stands (by rw [deferral, ms]; exact view), State.modDeferral_blocks, State.emptied_blocks,
      State.handed_blocks, holds, ms, State.handed_bump]
    rfl

end Sys2Proof.Machine
end

section
/-! PROOFS. The two marks of a door, as its record bears them and as the release set holds them (R132, R134): what each report makes of the
release set, and which events of a door tell every mark that they change. -/

namespace Sys2Proof.Machine

/-- The two marks that put a door into the release set (R132). -/
inductive Mark where
  | latch
  | evac

namespace Mark

/-- The report that sets a mark (R132). -/
def setBy : Mark → DoorReport
  | .latch => .latchSet
  | .evac => .evacSet

/-- The report that clears a mark (R132). -/
def clearedBy : Mark → DoorReport
  | .latch => .latchCleared
  | .evac => .evacCleared

@[simp] theorem setBy_clears (k : Mark) : k.setBy.clears = false := by cases k <;> rfl

@[simp] theorem clearedBy_clears (k : Mark) : k.clearedBy.clears = true := by cases k <;> rfl

end Mark

/-- Whether a member of a release set has a mark. -/
def ReleaseMember.bears (m : ReleaseMember) : Mark → Bool
  | .latch => m.latched
  | .evac => m.evacOpened

/-- Whether a door record has a mark. -/
def Door.bears (d : Door) : Mark → Bool
  | .latch => d.latched
  | .evac => d.evacOpened

/-- A release set holds a door with a mark. -/
def Holds (l : List ReleaseMember) (n : Nat) (k : Mark) : Prop := ∃ m ∈ l, m.door = n ∧ m.bears k = true

theorem holds_nil (n : Nat) (k : Mark) : ¬Holds [] n k := fun ⟨_, hm, _⟩ => List.not_mem_nil hm

theorem holds_cons (m : ReleaseMember) (l : List ReleaseMember) (n : Nat) (k : Mark) :
    Holds (m :: l) n k ↔ (m.door = n ∧ m.bears k = true) ∨ Holds l n k := List.exists_mem_cons_iff _ m l

/-- A release set in increasing door number, each member with a mark (R132). -/
structure SetFormed (l : List ReleaseMember) : Prop where
  ordered : (l.map fun m => m.door).Pairwise (· < ·)
  marked : ∀ m ∈ l, m.latched = true ∨ m.evacOpened = true

theorem SetFormed.nil : SetFormed [] := ⟨.nil, fun _ h => absurd h List.not_mem_nil⟩

/-! ### A mark set, a mark cleared (R132) -/

theorem holds_setMark (n : Nat) (a b : Bool) (l : List ReleaseMember) (j : Nat) (k : Mark) :
    Holds (setMark n a b l) j k ↔ Holds l j k ∨ (j = n ∧ (⟨n, a, b⟩ : ReleaseMember).bears k = true) := by
  induction l with
  | nil => simp only [setMark, holds_cons, holds_nil, false_or, or_false, eq_comm (a := n)]
  | cons m rest ih =>
    unfold setMark
    split
    next same =>
      rw [holds_cons, holds_cons]
      cases k <;> simp only [ReleaseMember.bears, same, Bool.or_eq_true, and_or_left, eq_comm (a := n), or_right_comm]
    · split
      · rw [holds_cons, or_comm, eq_comm (a := n)]
      · rw [holds_cons, holds_cons, ih, or_assoc]

theorem mem_setMark_door {n : Nat} {a b : Bool} {l : List ReleaseMember} {m : ReleaseMember} (h : m ∈ setMark n a b l) :
    m.door = n ∨ m.door ∈ l.map fun m => m.door := by
  induction l with
  | nil => exact .inl (by simp_all [setMark])
  | cons x rest ih =>
    unfold setMark at h
    split at h
    · rcases List.mem_cons.1 h with rfl | h
      · exact .inr (by simp)
      · exact .inr (List.mem_map_of_mem (List.mem_cons_of_mem x h))
    · split at h
      · rcases List.mem_cons.1 h with rfl | h
        · exact .inl rfl
        · exact .inr (List.mem_map_of_mem h)
      · rcases List.mem_cons.1 h with rfl | h
        · exact .inr (by simp)
        · exact (ih h).imp_right (List.mem_cons_of_mem _)

theorem setMark_ordered (n : Nat) (a b : Bool) {l : List ReleaseMember} (h : (l.map fun m => m.door).Pairwise (· < ·)) :
    ((setMark n a b l).map fun m => m.door).Pairwise (· < ·) := by
  induction l with
  | nil => simp [setMark]
  | cons m rest ih =>
    obtain ⟨least, tail⟩ := List.pairwise_cons.1 h
    unfold setMark
    split
    · exact h
    next other =>
      split
      next before =>
        refine List.pairwise_cons.2 ⟨fun j hj => ?_, h⟩
        rcases List.mem_cons.1 hj with rfl | hj
        · exact before
        · exact before.trans (least j hj)
      next after =>
        refine List.pairwise_cons.2 ⟨fun j hj => ?_, ih tail⟩
        obtain ⟨x, hx, rfl⟩ := List.mem_map.1 hj
        rcases mem_setMark_door hx with same | known
        · exact same ▸ Nat.lt_of_le_of_ne (Nat.le_of_not_lt after) other
        · exact least _ known

theorem setMark_marked {n : Nat} {a b : Bool} (hab : a = true ∨ b = true) {l : List ReleaseMember}
    (h : ∀ m ∈ l, m.latched = true ∨ m.evacOpened = true) : ∀ m ∈ setMark n a b l, m.latched = true ∨ m.evacOpened = true := by
  induction l with
  | nil => simpa [setMark] using hab
  | cons x rest ih =>
    obtain ⟨first, others⟩ := List.forall_mem_cons.1 h
    unfold setMark
    split
    · exact List.forall_mem_cons.2 ⟨by rcases hab with rfl | rfl <;> simp, others⟩
    · split
      · exact List.forall_mem_cons.2 ⟨hab, h⟩
      · exact List.forall_mem_cons.2 ⟨first, ih others⟩

theorem SetFormed.setMark {l : List ReleaseMember} (h : SetFormed l) (n : Nat) {a b : Bool} (hab : a = true ∨ b = true) :
    SetFormed (setMark n a b l) := ⟨setMark_ordered n a b h.ordered, setMark_marked hab h.marked⟩

theorem holds_clearMark (n : Nat) (a b : Bool) (l : List ReleaseMember) (j : Nat) (k : Mark) :
    Holds (clearMark n a b l) j k ↔ Holds l j k ∧ ¬(j = n ∧ (⟨n, a, b⟩ : ReleaseMember).bears k = true) := by
  have kept (m : ReleaseMember) (h : m.bears k = true) : (m.latched || m.evacOpened) = true := by
    cases k <;> simp_all [ReleaseMember.bears]
  constructor
  · rintro ⟨m, hm, rfl, bears⟩
    obtain ⟨x, hx, rfl⟩ := List.mem_map.1 (List.mem_filter.1 hm).1
    by_cases same : x.door = n
    · rw [if_pos same] at bears ⊢
      refine ⟨⟨x, hx, rfl, ?_⟩, ?_⟩ <;> cases k <;> simp_all [ReleaseMember.bears]
    · rw [if_neg same] at bears ⊢
      exact ⟨⟨x, hx, rfl, bears⟩, fun h => same h.1⟩
  · rintro ⟨⟨x, hx, rfl, bears⟩, stays⟩
    refine ⟨_, List.mem_filter.2 ⟨List.mem_map_of_mem hx, kept _ ?_⟩, ?_, ?_⟩ <;> by_cases same : x.door = n <;>
      cases k <;> simp_all [ReleaseMember.bears]

theorem clearMark_doors (n : Nat) (a b : Bool) (l : List ReleaseMember) :
    ((clearMark n a b l).map fun m => m.door).Sublist (l.map fun m => m.door) := by
  have same : (l.map fun m => if m.door = n then
      { m with latched := m.latched && !a, evacOpened := m.evacOpened && !b } else m).map (fun m => m.door) =
      l.map fun m => m.door := by
    rw [List.map_map]
    refine List.map_congr_left fun m _ => ?_
    simp only [Function.comp]
    split <;> rfl
  exact same ▸ List.filter_sublist.map _

theorem SetFormed.clearMark {l : List ReleaseMember} (h : SetFormed l) (n : Nat) (a b : Bool) : SetFormed (clearMark n a b l) :=
  ⟨h.ordered.sublist (clearMark_doors n a b l), fun _ hm => by simpa using (List.mem_filter.1 hm).2⟩

/-! ### The reports of one event (R132, R134) -/

namespace State

theorem releaseAfter_formed {r : Release} (h : SetFormed r.set) (n : Nat) (x : DoorReport) : SetFormed (releaseAfter r n x).set := by
  cases x with
  | latchSet => exact h.setMark n (.inl rfl)
  | evacSet => exact h.setMark n (.inr rfl)
  | latchCleared => exact h.clearMark n true false
  | evacCleared => exact h.clearMark n false true

theorem foldl_releaseAfter_formed {r : Release} (h : SetFormed r.set) (n : Nat) (l : List DoorReport) :
    SetFormed (l.foldl (fun r x => releaseAfter r n x) r).set := by
  induction l generalizing r with
  | nil => exact h
  | cons x rest ih => exact ih (releaseAfter_formed h n x)

theorem releaseAfter_holds (r : Release) (n : Nat) (x : DoorReport) (j : Nat) (k : Mark) :
    Holds (releaseAfter r n x).set j k ↔ (Holds r.set j k ∨ (j = n ∧ x = k.setBy)) ∧ ¬(j = n ∧ x = k.clearedBy) := by
  cases x <;> cases k <;> simp [releaseAfter, holds_setMark, holds_clearMark, ReleaseMember.bears, Mark.setBy, Mark.clearedBy]

/-- The marks set by an event's reports. -/
theorem foldl_sets_holds {l : List DoorReport} (h : ∀ x ∈ l, x.clears = false) (r : Release) (n j : Nat) (k : Mark) :
    Holds (l.foldl (fun r x => releaseAfter r n x) r).set j k ↔ Holds r.set j k ∨ (j = n ∧ k.setBy ∈ l) := by
  induction l generalizing r with
  | nil => simp
  | cons x rest ih =>
    have other : x ≠ k.clearedBy := fun e => by simpa [e] using h x List.mem_cons_self
    rw [List.foldl_cons, ih fun y hy => h y (List.mem_cons_of_mem x hy), releaseAfter_holds]
    simp [other, eq_comm (a := x), and_or_left, or_assoc]

/-- The marks cleared by an event's reports. -/
theorem foldl_clears_holds {l : List DoorReport} (h : ∀ x ∈ l, x.clears = true) (r : Release) (n j : Nat) (k : Mark) :
    Holds (l.foldl (fun r x => releaseAfter r n x) r).set j k ↔ Holds r.set j k ∧ ¬(j = n ∧ k.clearedBy ∈ l) := by
  induction l generalizing r with
  | nil => simp
  | cons x rest ih =>
    have other : x ≠ k.setBy := fun e => by simpa [e] using h x List.mem_cons_self
    rw [List.foldl_cons, ih fun y hy => h y (List.mem_cons_of_mem x hy), releaseAfter_holds]
    simp only [other, and_false, or_false, List.mem_cons, eq_comm (a := x), and_or_left, not_or, and_assoc]

/-- The marks of the release set after an event's reports: those it sets join before those it clears leave. -/
theorem foldl_inOrder_holds (l : List DoorReport) (r : Release) (n j : Nat) (k : Mark) :
    Holds ((inOrder l).foldl (fun r x => releaseAfter r n x) r).set j k ↔
      (Holds r.set j k ∨ (j = n ∧ k.setBy ∈ l)) ∧ ¬(j = n ∧ k.clearedBy ∈ l) := by
  rw [inOrder, List.foldl_append, foldl_clears_holds (by simp), foldl_sets_holds (by simp)]
  simp

end State

/-! ### Events that tell the marks they change -/

/-- What the release set knows of a door record: its number and its two marks. -/
def Door.marks (d : Door) : Nat × Bool × Bool := (d.number, d.latched, d.evacOpened)

theorem Door.marks_eq_iff {d e : Door} : e.marks = d.marks ↔ e.number = d.number ∧ ∀ k, e.bears k = d.bears k := by
  simp only [marks, Prod.mk.injEq]
  exact and_congr_right fun _ => ⟨fun ⟨l, v⟩ k => by cases k <;> assumption, fun h => ⟨h .latch, h .evac⟩⟩

/-- An event keeps the door's number, and its reports tell every mark that it sets or clears. -/
structure Door.Tells (d : Door) (o : DoorOutcome) : Prop where
  number : o.door.number = d.number
  bears : ∀ k, o.door.bears k = true ↔ (d.bears k = true ∨ k.setBy ∈ o.reports) ∧ k.clearedBy ∉ o.reports

/-- An event whose reports tell every mark it changes, none of them a mark of evacuation set. -/
structure Door.Latches (d : Door) (o : DoorOutcome) : Prop extends d.Tells o where
  noEvac : .evacSet ∉ o.reports

/-- An event whose reports tell every mark it changes, all of them cleared. -/
structure Door.Sheds (d : Door) (o : DoorOutcome) : Prop extends d.Tells o where
  clears : ∀ x ∈ o.reports, x.clears = true

namespace Door

theorem Sheds.latches {d : Door} {o : DoorOutcome} (h : d.Sheds o) : d.Latches o :=
  ⟨h.toTells, fun e => by simpa [DoorReport.clears] using h.clears _ e⟩

/-- An event that reports nothing and leaves the marks. -/
theorem Sheds.of_silent {d : Door} {o : DoorOutcome} (hr : o.reports = []) (hm : o.door.marks = d.marks) : d.Sheds o := by
  obtain ⟨number, bears⟩ := marks_eq_iff.1 hm
  exact ⟨⟨number, fun k => by simp [bears, hr]⟩, by simp [hr]⟩

theorem Sheds.plain {d e : Door} (h : e.marks = d.marks) : d.Sheds (plain e) := .of_silent rfl h

/-- What an event does to one record it does to every record with the same number and marks. -/
theorem Sheds.of_marks {d e : Door} {o : DoorOutcome} (h : e.Sheds o) (hm : e.marks = d.marks) : d.Sheds o := by
  obtain ⟨number, bears⟩ := marks_eq_iff.1 hm
  exact ⟨⟨h.number.trans number, fun k => by rw [h.bears, bears]⟩, h.clears⟩

theorem Latches.of_marks {d e : Door} {o : DoorOutcome} (h : e.Latches o) (hm : e.marks = d.marks) : d.Latches o := by
  obtain ⟨number, bears⟩ := marks_eq_iff.1 hm
  exact ⟨⟨h.number.trans number, fun k => by rw [h.bears, bears]⟩, h.noEvac⟩

theorem Sheds.ite {d : Door} {a b : DoorOutcome} {c : Prop} {_ : Decidable c} (h : d.Sheds a) (k : d.Sheds b) :
    d.Sheds (if c then a else b) := by
  split
  · exact h
  · exact k

theorem Latches.ite {d : Door} {a b : DoorOutcome} {c : Prop} {_ : Decidable c} (h : d.Latches a) (k : d.Latches b) :
    d.Latches (if c then a else b) := by
  split
  · exact h
  · exact k

/-- One event after another, where the second sets no mark that the first may have cleared. -/
theorem Tells.andThen {d : Door} {o : DoorOutcome} {g : Door → DoorOutcome} (h : d.Tells o) (k : o.door.Sheds (g o.door)) :
    d.Tells (o.andThen g) := by
  refine ⟨k.number.trans h.number, fun m => ?_⟩
  have unset : m.setBy ∉ (g o.door).reports := fun x => by simpa using k.clears _ x
  simp only [DoorOutcome.andThen, k.bears, h.bears, List.mem_append, unset, not_or, or_false, and_assoc]

theorem Latches.andThen {d : Door} {o : DoorOutcome} {g : Door → DoorOutcome} (h : d.Latches o) (k : ∀ e : Door, e.Sheds (g e)) :
    d.Latches (o.andThen g) :=
  ⟨h.toTells.andThen (k _), fun x => (List.mem_append.1 x).elim h.noEvac (k o.door).latches.noEvac⟩

theorem Sheds.andThen {d : Door} {o : DoorOutcome} {g : Door → DoorOutcome} (h : d.Sheds o) (k : ∀ e : Door, e.Sheds (g e)) :
    d.Sheds (o.andThen g) :=
  ⟨h.toTells.andThen (k _), fun x hx => (List.mem_append.1 hx).elim (h.clears x) ((k o.door).clears x)⟩

/-- An event after one that reported nothing and left the marks. -/
theorem Latches.after_silent {d : Door} {o : DoorOutcome} {g : Door → DoorOutcome} (hr : o.reports = [])
    (hm : o.door.marks = d.marks) (k : o.door.Latches (g o.door)) : d.Latches (o.andThen g) := by
  have same : o.andThen g = ⟨(g o.door).door, o.events ++ (g o.door).events, (g o.door).reports⟩ := by
    simp [DoorOutcome.andThen, hr]
  have told := k.of_marks hm
  exact same ▸ ⟨⟨told.number, told.bears⟩, told.noEvac⟩

/-! ### The rules of one door, in the order of the model -/

@[simp] theorem setSlot_marks (d : Door) (c : Option SlotCommand) : (d.setSlot c).marks = d.marks := rfl

@[simp] theorem goTo_marks (d : Door) (st : DoorState) : (d.goTo st).marks = d.marks := rfl

@[simp] theorem place_marks (d : Door) (ctx : DoorContext) (cmd : DoorCommand) (u : Urgency) : (d.place ctx cmd u).marks = d.marks := by
  unfold place
  split <;> rfl

@[simp] theorem startOpen_marks (d : Door) (ctx : DoorContext) (u : Urgency) : (d.startOpen ctx u).marks = d.marks := by
  simp [startOpen]

@[simp] theorem obstruct_marks (d : Door) (ctx : DoorContext) : (d.obstruct ctx).door.marks = d.marks := by
  unfold obstruct
  dsimp only
  split
  · exact (place_marks _ ctx .openCmd .urgent)
  · exact (place_marks _ ctx .haltCmd .urgent)

@[simp] theorem enterClosing_marks (d : Door) (ctx : DoorContext) : (d.enterClosing ctx).door.marks = d.marks := by
  unfold enterClosing
  dsimp only
  split
  · exact obstruct_marks _ ctx
  · rfl

@[simp] theorem startClose_marks (d : Door) (ctx : DoorContext) (u : Urgency) : (d.startClose ctx u).door.marks = d.marks :=
  (enterClosing_marks _ ctx).trans (place_marks _ ctx .closeCmd u)

@[simp] theorem takeAck_marks (d : Door) (ctx : DoorContext) (cmd : DoorCommand) (pos : Position) :
    (d.takeAck ctx cmd pos).marks = d.marks := by
  unfold takeAck
  split
  iterate 3 split <;> rfl
  rfl

@[simp] theorem acknowledge_marks (d : Door) (ctx : DoorContext) (st : Status) : (d.acknowledge ctx st).marks = d.marks := by
  unfold acknowledge
  split
  · split
    · exact takeAck_marks _ ctx _ _
    · rfl
  · rfl

theorem dropOpen_marks (d : Door) : d.dropOpen.marks = d.marks := by
  unfold dropOpen
  split <;> rfl

theorem obstruct_sheds (d : Door) (ctx : DoorContext) : d.Sheds (d.obstruct ctx) :=
  .of_silent (d.obstruct_reports ctx) (d.obstruct_marks ctx)

theorem enterClosing_sheds (d : Door) (ctx : DoorContext) : d.Sheds (d.enterClosing ctx) :=
  .of_silent (d.enterClosing_reports ctx) (d.enterClosing_marks ctx)

theorem startClose_sheds (d : Door) (ctx : DoorContext) (u : Urgency) : d.Sheds (d.startClose ctx u) :=
  .of_silent (d.startClose_reports ctx u) (d.startClose_marks ctx u)

theorem departureClose_sheds (d : Door) (ctx : DoorContext) : d.Sheds (d.departureClose ctx) :=
  .ite (.plain (place_marks d ctx _ _)) (d.startClose_sheds ctx _)

theorem restoreClose_sheds (d : Door) (ctx : DoorContext) : d.Sheds (d.restoreClose ctx) :=
  .ite (.plain (place_marks d ctx _ _)) (d.startClose_sheds ctx _)

theorem stall_sheds (d : Door) : d.Sheds d.stall := .of_silent rfl rfl

theorem mem_clearings {d : Door} {x : DoorReport} : x ∈ d.clearings ↔ ∃ k : Mark, x = k.clearedBy ∧ d.bears k = true := by
  constructor
  · intro h
    rcases List.mem_append.1 h with h | h
    · split at h
      next l => exact ⟨.latch, List.mem_singleton.1 h, l⟩
      next => cases h
    · split at h
      next v => exact ⟨.evac, List.mem_singleton.1 h, v⟩
      next => cases h
  · rintro ⟨k, rfl, bears⟩
    cases k with
    | latch => exact List.mem_append_left _ ((if_pos (show d.latched = true from bears)).symm ▸ List.mem_singleton_self _)
    | evac => exact List.mem_append_right _ ((if_pos (show d.evacOpened = true from bears)).symm ▸ List.mem_singleton_self _)

/-- An event that takes both marks off a door and reports each that was set (R58, R76). -/
theorem Sheds.of_clearings {d e : Door} (events : List EventKind) (number : e.number = d.number)
    (bare : ∀ k, e.bears k = false) : d.Sheds ⟨e, events, d.clearings⟩ := by
  refine ⟨⟨number, fun k => ?_⟩, fun x hx => ?_⟩
  · have unset : k.setBy ∉ d.clearings := fun h => by
      obtain ⟨j, same, -⟩ := mem_clearings.1 h
      cases j <;> cases k <;> cases same
    have cleared (h : d.bears k = true) : k.clearedBy ∈ d.clearings := mem_clearings.2 ⟨k, rfl, h⟩
    simp only [bare, Bool.false_eq_true, false_iff, unset, or_false, not_and, not_not]
    exact cleared
  · obtain ⟨k, rfl, -⟩ := mem_clearings.1 hx
    exact k.clearedBy_clears

theorem enterClosed_sheds (d : Door) : d.Sheds d.enterClosed := .of_clearings [] rfl fun k => by cases k <;> rfl

theorem isolate_sheds (d : Door) : d.Sheds d.isolate :=
  .ite (.plain rfl) (.of_clearings [] rfl fun k => by cases k <;> rfl)

theorem latch_latches (d : Door) : d.Latches d.latch :=
  ⟨⟨rfl, fun k => by cases k <;> simp [latch, bears, goTo, setSlot, Mark.setBy, Mark.clearedBy]⟩, by simp [latch]⟩

theorem takeSettled_sheds (d : Door) (st : Status) : d.Sheds (d.takeSettled st) := by
  unfold takeSettled
  split
  · exact .plain rfl
  · exact .of_silent rfl rfl
  · exact d.enterClosed_sheds
  · exact .plain rfl
  · exact .plain rfl

theorem mapPosition_sheds (d : Door) (ctx : DoorContext) (st : Status) : d.Sheds (d.mapPosition ctx st) := by
  unfold mapPosition
  split
  case h_1 | h_7 | h_8 | h_9 => exact d.enterClosed_sheds
  case h_3 => exact (stall_sheds _).of_marks rfl
  case h_5 => exact d.stall_sheds
  case h_10 => exact .ite (.plain rfl) (.plain rfl)
  all_goals exact .plain rfl

theorem localRule_sheds (d : Door) (st : Status) : d.Sheds (d.localRule st) :=
  .ite (.ite (.plain rfl) (.plain rfl)) (.ite ((takeSettled_sheds _ st).of_marks rfl) (.plain rfl))

theorem mapStatus_sheds (d : Door) (ctx : DoorContext) (st : Status) : d.Sheds (d.mapStatus ctx st) :=
  .ite (.ite (.plain rfl) ((stall_sheds _).of_marks rfl))
    ((d.mapPosition_sheds ctx st).andThen fun e => .ite (e.obstruct_sheds ctx) (.plain rfl))

theorem returnDecision_latches (d : Door) (ctx : DoorContext) (st : Status) : d.Latches (d.returnDecision ctx st) := by
  unfold returnDecision
  refine Latches.andThen (.ite (.after_silent rfl rfl d.latch_latches) (Sheds.of_silent (d := d) rfl rfl).latches) fun e => ?_
  refine .ite (.ite (.ite ((enterClosed_sheds _).of_marks rfl) (e.enterClosing_sheds ctx)) (.plain rfl)) ?_
  have same : (if e.isolation = .localSwitch ∧ ¬st.localIsolation then { e with isolation := .none } else e).marks = e.marks := by
    split <;> rfl
  dsimp only
  generalize (if e.isolation = .localSwitch ∧ ¬st.localIsolation then { e with isolation := .none } else e) = x at same ⊢
  refine Sheds.of_marks (.ite (x.takeSettled_sheds st) ?_) same
  split
  · exact x.takeSettled_sheds st
  · exact .ite (.plain rfl) (.plain rfl)
  · exact .ite ((enterClosed_sheds _).of_marks rfl) (x.enterClosing_sheds ctx)
  · exact .of_silent rfl rfl

theorem takeStatus_latches (d : Door) (ctx : DoorContext) (st : Status) (returned : Bool) :
    d.Latches (d.takeStatus ctx st returned) := by
  have acked : (({ d with lastStatus := some st } : Door).acknowledge ctx st).marks = d.marks := acknowledge_marks _ ctx st
  unfold takeStatus
  refine .ite (((returnDecision_latches _ ctx st).andThen fun e => .plain (e.acknowledge_marks ctx st)).of_marks rfl) ?_
  dsimp only
  have silent (events : List EventKind) : d.Sheds ⟨({ d with lastStatus := some st } : Door).acknowledge ctx st, events, []⟩ :=
    .of_silent rfl acked
  refine .ite (silent _).latches (.ite (.after_silent rfl acked (latch_latches _)) (Sheds.latches ?_))
  exact ((silent _).andThen fun e => e.localRule_sheds st).andThen fun e => .ite (.plain rfl) (e.mapStatus_sheds ctx st)

theorem exhausted_sheds (d : Door) : d.Sheds d.exhausted := (stall_sheds _).of_marks rfl

theorem loseContact_sheds (d : Door) : d.Sheds d.loseContact := by
  refine .of_silent rfl ?_
  unfold loseContact
  split <;> rfl

theorem returnToService_sheds (d : Door) : d.Sheds d.returnToService := by
  unfold returnToService
  refine .ite (.plain rfl) ?_
  split
  · exact (takeSettled_sheds _ _).of_marks rfl
  · exact .plain rfl

theorem timeout_sheds (d : Door) (kind : TimerKind) : d.Sheds (d.timeout kind) := by
  unfold timeout
  dsimp only
  split
  case h_4 => exact .plain rfl
  all_goals exact (stall_sheds _).of_marks rfl

theorem dwellOver_sheds (d : Door) (ctx : DoorContext) : d.Sheds (d.dwellOver ctx) :=
  .ite ((enterClosing_sheds _ ctx).of_marks (place_marks _ ctx .closeCmd .routine)) (.plain rfl)

/-- The evacuation opening tells the mark it sets (R74). -/
theorem evacuationOpen_tells (d : Door) (ctx : DoorContext) : d.Tells (d.evacuationOpen ctx) := by
  have marked {e : Door} (same : e.marks = d.marks) : d.Tells ⟨{ e with evacOpened := true }, [], [.evacSet]⟩ := by
    obtain ⟨number, bears⟩ := marks_eq_iff.1 same
    refine ⟨number, fun k => ?_⟩
    cases k with
    | latch => simpa [Door.bears, Mark.setBy, Mark.clearedBy] using congrArg (· = true) (bears .latch)
    | evac => simp [Door.bears, Mark.setBy, Mark.clearedBy]
  unfold evacuationOpen
  split
  case h_1 | h_2 => exact marked rfl
  case h_3 =>
    split
    · exact marked (e := d.goTo .opened) rfl
    · exact marked (e := { d with state := .opening }) rfl
  case h_9 | h_10 | h_11 => exact (Sheds.plain rfl).toTells
  all_goals exact marked (startOpen_marks d ctx .urgent)

end Door

end Sys2Proof.Machine
end

section
/-! PROOFS. Every step keeps NORMAL free of marks and latch, and the release set the mirror of the doors' marks (R132, R133, R145): what
each operation keeps on the two faces, in the order of the model's files. -/

namespace Sys2Proof.Machine

/-- NORMAL has neither marks nor latch, RESTORING no latch (R133, R145). -/
def Release.Safe (r : Release) : Prop :=
  (r.state = .normal → r.set = [] ∧ r.latch = false) ∧ (r.state = .restoring → r.latch = false)

theorem Release.Safe.of_same {r r' : Release} (h : r.Safe) (state : r'.state = r.state) (latch : r'.latch = r.latch)
    (set : r'.set = r.set) : r'.Safe := by
  unfold Safe
  rw [state, latch, set]
  exact h

theorem releaseSafe_iff (s : State) : releaseSafe s ↔ ∀ f, (s.face f).release.Safe := Iff.rfl

/-- Some door record of a number has a mark. -/
def Borne (ds : List Door) (n : Nat) (k : Mark) : Prop := ∃ d ∈ ds, d.number = n ∧ d.bears k = true

theorem Borne.of_marks {ds es : List Door} {n : Nat} {k : Mark} (h : Borne ds n k) (e : es.map Door.marks = ds.map Door.marks) :
    Borne es n k := by
  obtain ⟨d, hd, rfl, bears⟩ := h
  obtain ⟨x, hx, same⟩ := List.mem_map.1 (e ▸ List.mem_map_of_mem (f := Door.marks) hd)
  obtain ⟨number, marks⟩ := Door.marks_eq_iff.1 same
  exact ⟨x, hx, number, (marks k).trans bears⟩

/-- A face's release set mirrors the marks of its door records (R132). -/
structure Mirrored (x : FaceState) : Prop where
  formed : SetFormed x.release.set
  agree : ∀ n k, Holds x.release.set n k ↔ Borne x.doors n k

theorem marksMirrored_iff (s : State) : marksMirrored s ↔ ∀ f, Mirrored (s.face f) := by
  refine forall_congr' fun f => ⟨fun ⟨ordered, marked, agree⟩ => ⟨⟨ordered, marked⟩, fun n k => ?_⟩,
    fun h => ⟨h.formed.ordered, h.formed.marked, fun n => ⟨h.agree n .latch, h.agree n .evac⟩⟩⟩
  cases k with
  | latch => exact (agree n).1
  | evac => exact (agree n).2

/-- A face whose doors are told apart by number, whose release record is safe, and whose release set mirrors the doors' marks. -/
structure MarksSound (x : FaceState) : Prop where
  distinct : State.DistinctDoors x
  safe : x.release.Safe
  mirrored : Mirrored x

/-- What an operation keeps on a face. The two stand apart because a safe release record is kept safe whatever the doors are. -/
structure MarksKept (x y : FaceState) : Prop where
  safe : x.release.Safe → y.release.Safe
  sound : MarksSound x → MarksSound y

namespace MarksKept

theorem refl (x : FaceState) : MarksKept x x := ⟨id, id⟩

theorem trans {x y z : FaceState} (h : MarksKept x y) (k : MarksKept y z) : MarksKept x z :=
  ⟨k.safe ∘ h.safe, k.sound ∘ h.sound⟩

/-- An operation that leaves the release set and the doors' numbers and marks. -/
theorem of_set {x y : FaceState} (safe : x.release.Safe → y.release.Safe) (set : y.release.set = x.release.set)
    (doors : y.doors.map Door.marks = x.doors.map Door.marks) : MarksKept x y := by
  refine ⟨safe, fun h => ⟨?_, safe h.safe, ⟨set ▸ h.mirrored.formed, fun n k => ?_⟩⟩⟩
  · have numbers (ds : List Door) : ds.map (fun d => d.number) = (ds.map Door.marks).map Prod.fst := by simp [Door.marks]
    have distinct := h.distinct
    unfold State.DistinctDoors at distinct ⊢
    rwa [numbers, doors, ← numbers]
  · rw [set, h.mirrored.agree]
    exact ⟨fun b => b.of_marks doors, fun b => b.of_marks doors.symm⟩

theorem of_eq {x y : FaceState} (release : y.release = x.release) (doors : y.doors = x.doors) : MarksKept x y :=
  .of_set (release ▸ id) (release ▸ rfl) (doors ▸ rfl)

end MarksKept

/-- What an operation keeps on both faces. -/
def ReleaseKept (s u : State) : Prop := ∀ f, MarksKept (s.face f) (u.face f)

namespace ReleaseKept

theorem refl (s : State) : ReleaseKept s s := fun _ => .refl _

theorem trans {s u v : State} (h : ReleaseKept s u) (k : ReleaseKept u v) : ReleaseKept s v :=
  fun f => (h f).trans (k f)

theorem ite {s a b : State} {c : Prop} {_ : Decidable c} (h : ReleaseKept s a) (k : ReleaseKept s b) :
    ReleaseKept s (if c then a else b) := by
  split
  · exact h
  · exact k

theorem opt {s a : State} {c : Prop} {_ : Decidable c} (h : ReleaseKept s a) : ReleaseKept s (if c then a else s) :=
  .ite h (.refl s)

/-- What is done only where a test is passed may use that it was. -/
theorem guarded {s a : State} {c : Prop} {_ : Decidable c} (h : c → ReleaseKept s a) : ReleaseKept s (if c then a else s) := by
  split
  next hc => exact h hc
  · exact .refl s

/-- An operation that leaves the release records and the door records. -/
theorem of_records {s u : State} (release : ∀ f, (u.face f).release = (s.face f).release)
    (doors : ∀ f, (u.face f).doors = (s.face f).doors) : ReleaseKept s u := fun f => .of_eq (release f) (doors f)

/-- An operation that leaves the faces. -/
theorem of_faces {s u : State} (h : ∀ f, u.face f = s.face f) : ReleaseKept s u := fun f => h f ▸ .refl _

/-- An operation on one face that leaves the other's release record and door records. -/
theorem of_face {s u : State} (f : Face) (h : MarksKept (s.face f) (u.face f))
    (release : (u.face f.partner).release = (s.face f.partner).release)
    (doors : (u.face f.partner).doors = (s.face f.partner).doors) : ReleaseKept s u := fun g => by
  obtain rfl | rfl := Face.eq_or_partner f g
  · exact h
  · exact .of_eq release doors

theorem safe {s u : State} (h : ReleaseKept s u) (hs : releaseSafe s) : releaseSafe u := fun f => (h f).safe (hs f)

theorem mirrored {s u : State} (h : ReleaseKept s u) (ordered : doorsOrdered s) (hs : releaseSafe s) (hm : marksMirrored s) :
    marksMirrored u :=
  (marksMirrored_iff u).2 fun f =>
    ((h f).sound ⟨.of_ordered ordered f, hs f, (marksMirrored_iff s).1 hm f⟩).mirrored

end ReleaseKept

theorem Reported.releaseKept {s u : State} (h : Reported s u) : ReleaseKept s u := .of_records h.release h.doors

theorem Arbitrated.releaseKept {s u : State} (h : Arbitrated s u) : ReleaseKept s u := .of_records h.release h.doors

/-! ### The release record after the reports of an event (R132, R134) -/

namespace State

/-- A face that is not in NORMAL does not come to it by a report. -/
theorem releaseAfter_notNormal {r : Release} (h : r.state ≠ .normal) (n : Nat) (x : DoorReport) :
    (releaseAfter r n x).state ≠ .normal := by
  cases x with
  | latchSet =>
    simp only [releaseAfter]
    split
    · exact nofun
    · exact h
  | evacSet | latchCleared | evacCleared => exact h

/-- A latch ends NORMAL and RESTORING, and nothing is cleared from an empty set; a mark of evacuation needs a face out of NORMAL. -/
theorem releaseAfter_safe {r : Release} (h : r.Safe) (n : Nat) {x : DoorReport} (hx : x = .evacSet → r.state ≠ .normal) :
    (releaseAfter r n x).Safe := by
  cases x with
  | latchSet =>
    simp only [releaseAfter, Release.Safe]
    split
    · exact ⟨nofun, nofun⟩
    next other => exact ⟨fun normal => absurd (.inl normal) other, fun restoring => absurd (.inr restoring) other⟩
  | evacSet => exact ⟨fun normal => absurd normal (hx rfl), h.2⟩
  | latchCleared | evacCleared =>
    refine ⟨fun normal => ?_, h.2⟩
    obtain ⟨empty, latch⟩ := h.1 normal
    exact ⟨by simp [releaseAfter, empty, clearMark], latch⟩

theorem foldl_releaseAfter_safe {r : Release} (h : r.Safe) (n : Nat) (l : List DoorReport) (hl : .evacSet ∈ l → r.state ≠ .normal) :
    (l.foldl (fun r x => releaseAfter r n x) r).Safe := by
  induction l generalizing r with
  | nil => exact h
  | cons x rest ih =>
    exact ih (releaseAfter_safe h n fun e => hl (e ▸ List.mem_cons_self)) fun m =>
      releaseAfter_notNormal (hl (List.mem_cons_of_mem x m)) n x

/-! ### One event of one door -/

/-- Where no two doors share a number, a door is borne by its own record. -/
theorem borne_of_found {s : State} {f : Face} {n : Nat} {d : Door} (hn : DistinctDoors (s.face f)) (hd : s.findDoor f n = some d)
    (k : Mark) : Borne (s.face f).doors n k ↔ d.bears k = true := by
  obtain ⟨hm, rfl⟩ := findDoor_some hd
  refine ⟨fun ⟨e, he, same, bears⟩ => ?_, fun bears => ⟨d, hm, rfl, bears⟩⟩
  rwa [← List.inj_on_of_nodup_map hn he hm same]

/-- The marks of the door records after an event of one of them. -/
theorem borne_after {ds : List Door} {n : Nat} {d : Door} (hd : ∃ x ∈ ds, x.number = n) (hn : d.number = n) (j : Nat) (k : Mark) :
    Borne (ds.map fun x => if x.number = n then d else x) j k ↔ if j = n then d.bears k = true else Borne ds j k := by
  constructor
  · rintro ⟨e, he, rfl, bears⟩
    obtain ⟨x, hx, rfl⟩ := List.mem_map.1 he
    by_cases same : x.number = n
    · rw [if_pos same] at bears ⊢
      rwa [if_pos hn]
    · rw [if_neg same] at bears ⊢
      rw [if_neg same]
      exact ⟨x, hx, rfl, bears⟩
  · split
    next same =>
      obtain ⟨x, hx, known⟩ := hd
      exact fun bears => ⟨d, List.mem_map.2 ⟨x, hx, if_pos known⟩, hn.trans same.symm, bears⟩
    next other =>
      rintro ⟨x, hx, rfl, bears⟩
      exact ⟨x, List.mem_map.2 ⟨x, hx, if_neg other⟩, rfl, bears⟩

/-- An event of one door whose reports tell the marks that it changes; a mark of evacuation needs a face out of NORMAL. -/
theorem applyDoor_releaseKept_of_tells (s : State) (f : Face) (n : Nat) (g : DoorContext → Door → DoorOutcome)
    (h : ∀ c (d : Door), d.Tells (g c d)) (he : ∀ c d, .evacSet ∈ (g c d).reports → (s.face f).release.state ≠ .normal) :
    ReleaseKept s (s.applyDoor f n g) := by
  cases hd : s.findDoor f n with
  | none => rw [applyDoor_absent s f n g hd]; exact .refl s
  | some d =>
    refine .of_face f ?_ (applyDoor_release_ne s (Face.partner_ne f) n g) (applyDoor_doors_ne s (Face.partner_ne f) n g)
    obtain ⟨hm, number⟩ := findDoor_some hd
    have told := h (s.doorContext f n) d
    have safe : (s.face f).release.Safe → ((s.applyDoor f n g).face f).release.Safe := fun safe => by
      rw [applyDoor_release s f n g d hd]
      exact foldl_releaseAfter_safe safe n _ fun m => he _ d (by simpa [inOrder, DoorReport.clears] using m)
    refine ⟨safe, fun sound => ⟨?_, safe sound.safe, ⟨?_, fun j k => ?_⟩⟩⟩
    · have distinct := sound.distinct
      unfold DistinctDoors at distinct ⊢
      rwa [applyDoor_numbers s f n g fun c d => (h c d).number]
    · rw [applyDoor_release s f n g d hd]
      exact foldl_releaseAfter_formed sound.mirrored.formed n _
    · rw [applyDoor_release s f n g d hd, applyDoor_doors s f n g d hd, foldl_inOrder_holds,
        borne_after ⟨d, hm, number⟩ (told.number.trans number), sound.mirrored.agree]
      by_cases same : j = n
      · subst same
        rw [if_pos rfl, told.bears, borne_of_found sound.distinct hd]
        simp
      · simp [same]

theorem applyDoor_releaseKept (s : State) (f : Face) (n : Nat) (g : DoorContext → Door → DoorOutcome)
    (h : ∀ c (d : Door), d.Latches (g c d)) : ReleaseKept s (s.applyDoor f n g) :=
  applyDoor_releaseKept_of_tells s f n g (fun c d => (h c d).toTells) fun c d m => absurd m (h c d).noEvac

theorem applyDoors_releaseKept (s : State) (f : Face) (p : Door → Bool) (g : DoorContext → Door → DoorOutcome)
    (h : ∀ c (d : Door), d.Sheds (g c d)) : ReleaseKept s (s.applyDoors f p g) := by
  unfold applyDoors
  generalize ((s.face f).doors.filter p).map (fun d => d.number) = ns
  induction ns generalizing s with
  | nil => exact .refl s
  | cons n rest ih => exact (applyDoor_releaseKept s f n g fun c d => (h c d).latches).trans (ih _)

/-- The evacuation opening of the doors of a face under evacuation (R74). -/
theorem evacDoors_releaseKept (s : State) (f : Face) (h : (s.face f).release.state = .evacuating) : ReleaseKept s (s.evacDoors f) := by
  unfold evacDoors applyDoors
  generalize ((s.face f).doors.filter Door.evacuable).map (fun d => d.number) = ns
  induction ns generalizing s with
  | nil => exact .refl s
  | cons n rest ih =>
    have opened : ReleaseKept s (s.evacDoor f n) :=
      applyDoor_releaseKept_of_tells s f n _ (fun c d => d.evacuationOpen_tells c) fun _ _ _ => by simp [h]
    exact opened.trans (ih _ ((applyDoor_releaseState s f f n _ evacuationOpen_steady.quiet).trans h))

/-! ### The parts of an operation -/

theorem modBerth_releaseKept (s : State) (f : Face) (g : Berth → Berth) : ReleaseKept s (s.modBerth f g) :=
  .of_records (by simp) (by simp)

/-- Each door record of a face changed, but for its number and its marks. -/
theorem modDoors_map_releaseKept (s : State) (f : Face) (g : Door → Door) (h : ∀ d, (g d).marks = d.marks) :
    ReleaseKept s (s.modDoors f fun ds => ds.map g) :=
  .of_face f (.of_set (by simp) (by simp) (by simp [Function.comp_def, h])) (by simp) (by simp)

theorem modLif_releaseKept (s : State) (g : LinkInterface → LinkInterface) : ReleaseKept s (s.modLif g) :=
  .of_faces fun _ => rfl

theorem modTbs_releaseKept (s : State) (g : TableStore → TableStore) : ReleaseKept s (s.modTbs g) :=
  .of_faces fun _ => rfl

theorem modGap_releaseKept (s : State) (g : GapMonitor → GapMonitor) : ReleaseKept s (s.modGap g) :=
  .of_faces fun _ => rfl

theorem modAln_releaseKept (s : State) (g : Engine → Engine) : ReleaseKept s (s.modAln g) := .of_faces fun _ => rfl

theorem modDeferral_releaseKept (s : State) (f : Face) (g : Deferral → Deferral) : ReleaseKept s (s.modDeferral f g) :=
  .of_records (by simp) (by simp)

theorem modReports_releaseKept (s : State) (f : Face) (g : List ObstructionReport → List ObstructionReport) :
    ReleaseKept s (s.modReports f g) := .of_records (by simp) (by simp)

theorem modLine_releaseKept (s : State) (f : Face) (g : DoorLine → DoorLine) : ReleaseKept s (s.modLine f g) :=
  .of_records (by simp) (by simp)

/-- A release record changed, but for its set, to one that is safe if it was. -/
theorem modRelease_releaseKept (s : State) (f : Face) (g : Release → Release) (set : (g (s.face f).release).set = (s.face f).release.set)
    (safe : (s.face f).release.Safe → (g (s.face f).release).Safe) : ReleaseKept s (s.modRelease f g) :=
  .of_face f (.of_set (by simpa using safe) (by simpa using set) (by simp)) (by simp) (by simp)

/-- A release record changed in what neither its safety nor its marks look at. -/
theorem modRelease_releaseKept_of_same (s : State) (f : Face) (g : Release → Release)
    (h : ∀ r, (g r).state = r.state ∧ (g r).latch = r.latch ∧ (g r).set = r.set) : ReleaseKept s (s.modRelease f g) :=
  have ⟨state, latch, set⟩ := h (s.face f).release
  modRelease_releaseKept s f g set fun safe => safe.of_same state latch set

theorem modProof_releaseKept (s : State) (f : Face) (g : ProofRecord → ProofRecord) : ReleaseKept s (s.modProof f g) :=
  .of_records (by simp) (by simp)

theorem raiseFace_releaseKept (s : State) (f : Face) (k : EventKind) : ReleaseKept s (s.raiseFace f k) :=
  (raiseFace_reported s f k).releaseKept

theorem raiseDevice_releaseKept (s : State) (k : EventKind) : ReleaseKept s (s.raiseDevice k) :=
  (raiseDevice_reported s k).releaseKept

theorem setRelease_releaseKept (s : State) (f : Face) (st : ReleaseState)
    (safe : (s.face f).release.Safe → Release.Safe { (s.face f).release with state := st }) : ReleaseKept s (s.setRelease f st) :=
  (modRelease_releaseKept s f _ rfl safe).trans (decide_reported _ f).releaseKept

theorem answer_releaseKept (s : State) (q : Request) (r : Result) (d : List Byte) : ReleaseKept s (s.answer q r d) :=
  modLif_releaseKept s _

theorem refuse_releaseKept (s : State) (q : Request) (r : Reason) : ReleaseKept s (s.refuse q r) :=
  modLif_releaseKept s _

/-- What is done and then answered. -/
theorem done_releaseKept {s u : State} (h : ReleaseKept s u) (q : Request) : ReleaseKept s (u.done q) :=
  h.trans (answer_releaseKept u q _ _)

/-! ### The Door Sequencer -/

theorem closeFaceNow_releaseKept (s : State) (f : Face) : ReleaseKept s (s.closeFaceNow f) :=
  applyDoors_releaseKept s f _ _ fun c d => d.startClose_sheds c _

theorem movementClose_releaseKept (s : State) (f : Face) : ReleaseKept s (s.movementClose f) :=
  applyDoors_releaseKept s f _ _ fun c d => d.startClose_sheds c _

theorem departureClose_releaseKept (s : State) (f : Face) : ReleaseKept s (s.departureClose f) :=
  applyDoors_releaseKept s f _ _ fun c d => d.departureClose_sheds c

theorem restoreClose_releaseKept (s : State) (f : Face) : ReleaseKept s (s.restoreClose f) :=
  applyDoors_releaseKept s f _ _ fun c d => d.restoreClose_sheds c

theorem followEnable_releaseKept (s : State) (f : Face) : ReleaseKept s (s.followEnable f) :=
  modDoors_map_releaseKept s f _ fun _ => rfl

theorem dropOpens_releaseKept (s : State) (f : Face) : ReleaseKept s (s.dropOpens f) :=
  modDoors_map_releaseKept s f _ Door.dropOpen_marks

theorem endDeferral_releaseKept (s : State) (f : Face) (c : EndCause) : ReleaseKept s (s.endDeferral f c) :=
  (modDeferral_releaseKept s f _).trans (raiseFace_releaseKept _ f _)

theorem endWithClose_releaseKept (s : State) (f : Face) (c : EndCause) : ReleaseKept s (s.endWithClose f c) :=
  (endDeferral_releaseKept s f c).trans (closeFaceNow_releaseKept _ f)

theorem cancelDeferral_releaseKept (s : State) (f : Face) : ReleaseKept s (s.cancelDeferral f) :=
  .opt (endDeferral_releaseKept s f _)

theorem partnerDwellLapse_releaseKept (s : State) (f : Face) : ReleaseKept s (s.partnerDwellLapse f) :=
  .opt (endWithClose_releaseKept s f _)

theorem partnerExits_releaseKept (s : State) (f : Face) : ReleaseKept s (s.partnerExits f) :=
  (modDeferral_releaseKept s f _).trans (.opt (endWithClose_releaseKept _ f _))

theorem enterDwelling_releaseKept (s : State) (f : Face) : ReleaseKept s (s.enterDwelling f) :=
  .opt ((modBerth_releaseKept s f _).trans ((modDeferral_releaseKept _ _ _).trans (partnerDwellLapse_releaseKept _ _)))

theorem cancelDeferral_release (s : State) (f : Face) : ((s.cancelDeferral f).face f).release = (s.face f).release := by
  simp [cancelDeferral, endDeferral, apply_ite (fun s : State => (s.face f).release)]

/-- The evacuation opening marks doors, so the face is under evacuation when it is carried out (R74, R133). -/
theorem evacuationOpening_releaseKept (s : State) (f : Face) (h : (s.face f).release.state = .evacuating) :
    ReleaseKept s (s.evacuationOpening f) :=
  ((cancelDeferral_releaseKept s f).trans (evacDoors_releaseKept _ f (by rw [cancelDeferral_release, h]))).trans
    (enterDwelling_releaseKept _ f)

/-- Once a face is EVACUATING, its opening or close keeps what the entry to EVACUATING has kept. -/
theorem beginEvacuation_releaseKept {s u : State} (f : Face) (h : ReleaseKept s (u.setRelease f .evacuating)) :
    ReleaseKept s (u.beginEvacuation f) := by
  have entered : (((u.setRelease f .evacuating).raiseFace f .evacuationStart).face f).release.state = .evacuating := by
    simp [setRelease_release]
  exact (h.trans (raiseFace_releaseKept _ f _)).trans
    (.ite (evacuationOpening_releaseKept _ f entered) (departureClose_releaseKept _ f))

theorem testEvacuation_releaseKept (s : State) (f : Face) : ReleaseKept s (s.testEvacuation f) :=
  .opt (beginEvacuation_releaseKept f (setRelease_releaseKept s f _ fun _ => ⟨nofun, nofun⟩))

/-! ### The Door Line Controller -/

/-- A unit's link record bears no number and no mark of its door. -/
theorem modDropLink_releaseKept (s : State) (f : Face) (drop : Nat) (g : UnitLink → UnitLink) : ReleaseKept s (s.modDropLink f drop g) :=
  modDoors_map_releaseKept s f _ fun d => by split <;> rfl

theorem nextTurn_releaseKept (s : State) (f : Face) : ReleaseKept s (s.nextTurn f) := by
  refine (modLine_releaseKept s f fun l => { l with turn := none }).trans (.ite ?_ (modLine_releaseKept _ f _))
  split
  · exact (modDropLink_releaseKept _ f _ _).trans (modLine_releaseKept _ f _)
  · exact .refl _

theorem startLine_releaseKept (s : State) (f : Face) : ReleaseKept s (s.startLine f) :=
  (modLine_releaseKept s f _).trans (.ite (.refl _) (nextTurn_releaseKept _ f))

theorem endTunnel_releaseKept (s : State) (f : Face) (r : Result) (d : List Byte) : ReleaseKept s (s.endTunnel f r d) := by
  unfold endTunnel
  split
  · exact .refl s
  · exact (modLine_releaseKept s f _).trans (modLif_releaseKept _ _)

theorem followLine_releaseKept (s : State) (f : Face) (was : Bool) : ReleaseKept s (s.followLine f was) := by
  unfold followLine
  refine ReleaseKept.trans (modLine_releaseKept s f _) (.ite (.ite ?_ (startLine_releaseKept _ f)) ?_)
  · split
    · exact .ite (.refl _) (endTunnel_releaseKept _ f _ _)
    · exact .refl _
  · exact (endTunnel_releaseKept _ f _ _).trans (.ite (.refl _) (modLine_releaseKept _ f _))

theorem accountSend_releaseKept (s : State) (f : Face) (d : Door) : ReleaseKept s (s.accountSend f d) :=
  (modDropLink_releaseKept s f d.drop _).trans (.opt (applyDoor_releaseKept _ f _ _ fun _ d => d.exhausted_sheds.latches))

theorem badFrame_releaseKept (s : State) (f : Face) (t : Turn) : ReleaseKept s (s.badFrame f t) := by
  unfold badFrame
  generalize hu : (if t.kind = .tunnel ∧ ¬t.orphan then
      s.modLine f fun l => { l with tunnel := l.tunnel.map fun x => { x with sent := false } } else s) = u
  have unsent : ReleaseKept s u := hu ▸ .opt (modLine_releaseKept s f _)
  dsimp only
  split
  · exact unsent
  · exact (unsent.trans (modDropLink_releaseKept _ f _ _)).trans
      (.ite (applyDoor_releaseKept _ f _ _ fun _ d => d.loseContact_sheds.latches)
        (.ite (accountSend_releaseKept _ f _) (.refl _)))

/-! ### Adoption, release, the end of a turn -/

/-- An adoption rebuilds the doors of a face in NORMAL: no old record is marked, and so no new one is (R79, R133). -/
theorem rebuildDoors_releaseKept (s : State) (f : Face) (h : (s.face f).release.state = .normal) :
    ReleaseKept s (s.modDoors f fun ds => rebuildDoors ds (s.faceEntries f)) := by
  refine .of_face f ⟨by simp, fun sound => ?_⟩ (by simp) (by simp)
  have empty : (s.face f).release.set = [] := (sound.safe.1 h).1
  have bare (n : Nat) (k : Mark) : ¬Borne (s.face f).doors n k := fun borne => by
    have held := (sound.mirrored.agree n k).2 borne
    exact holds_nil n k (empty ▸ held)
  refine ⟨?_, by simpa using sound.safe, ⟨by simpa using sound.mirrored.formed, fun n k => ?_⟩⟩
  · have ordered := (rebuildDoors_ordered s f (s.face f).doors).1
    unfold DistinctDoors
    rw [modDoors_same]
    exact ordered.imp Nat.ne_of_lt
  · rw [modDoors_release, modDoors_same, empty]
    refine iff_of_false (holds_nil n k) fun ⟨d, hd, _, bears⟩ => ?_
    obtain ⟨p, -, rfl⟩ := List.mem_map.1 hd
    split at bears
    next old found => exact bare old.number k ⟨old, List.mem_of_find?_eq_some found, rfl, by cases k <;> exact bears⟩
    · cases k <;> cases bears

theorem handOnAdoption_releaseKept (s : State) (f : Face) (was : Bool) (h : (s.face f).release.state = .normal) :
    ReleaseKept s (s.handOnAdoption f was) :=
  (((((rebuildDoors_releaseKept s f h).trans (doorsHandOn_reported _ f).releaseKept).trans (followLine_releaseKept _ f was)).trans
    (modGap_releaseKept _ _)).trans ((formSets_reported _ f).trans (decide_reported _ f)).releaseKept).trans
    (testEvacuation_releaseKept _ f)

theorem testAdoption_releaseKept (s : State) (f : Face) : ReleaseKept s (s.testAdoption f) := by
  have adopted (b : BankId) (h : (s.face f).release.state = .normal) : ReleaseKept s (s.adopt f b) :=
    (((modTbs_releaseKept s fun t => { t with active := t.active.set f (some b) }).trans
      (handOnAdoption_releaseKept _ f (s.configured f) h)).trans (raiseFace_releaseKept _ f .bankAdopted)).trans
      (.opt (modTbs_releaseKept _ _))
  unfold testAdoption
  split
  · exact .refl s
  · exact .guarded fun ⟨_, _, normal⟩ => adopted _ normal

/-- A face returns to NORMAL with an empty release set and a clear latch (R145, R146). -/
theorem becomeNormal_releaseKept (s : State) (f : Face) (set : (s.face f).release.set = [])
    (latch : (s.face f).release.Safe → (s.face f).release.latch = false) : ReleaseKept s (s.becomeNormal f) :=
  ((setRelease_releaseKept s f .normal fun safe => ⟨fun _ => ⟨set, latch safe⟩, nofun⟩).trans (raiseFace_releaseKept _ f _)).trans
    (testAdoption_releaseKept _ f)

theorem testRestore_releaseKept (s : State) (f : Face) : ReleaseKept s (s.testRestore f) :=
  .guarded fun ⟨restoring, empty⟩ => becomeNormal_releaseKept s f empty fun safe => safe.2 restoring

theorem applyDoorRestore_releaseKept (s : State) (f : Face) (n : Nat) (g : DoorContext → Door → DoorOutcome)
    (h : ∀ c (d : Door), d.Latches (g c d)) : ReleaseKept s (s.applyDoorRestore f n g) := by
  unfold applyDoorRestore
  split
  · exact .refl s
  · have applied := applyDoor_releaseKept s f n g h
    exact .ite (applied.trans (testRestore_releaseKept _ f)) applied

theorem goodFrame_releaseKept (s : State) (f : Face) (t : Turn) (st : Status) (r : Option (List Byte)) :
    ReleaseKept s (s.goodFrame f t st r) := by
  unfold goodFrame
  split
  · exact .refl s
  · exact (((modDropLink_releaseKept s f t.drop _).trans (.opt (accountSend_releaseKept _ f _))).trans
      (applyDoorRestore_releaseKept _ f _ _ fun c d => d.takeStatus_latches c st _)).trans
      (.opt (endTunnel_releaseKept _ f _ _))

theorem takeAnswer_releaseKept (s : State) (f : Face) (bytes : List Byte) (ok : Bool) : ReleaseKept s (s.takeAnswer f bytes ok) := by
  rcases takeAnswer_cases s f bytes ok with h | ⟨x, -, -, ⟨-, h⟩ | ⟨st, r, -, h⟩⟩ <;> rw [h]
  · exact .refl s
  · exact (badFrame_releaseKept s f x).trans (nextTurn_releaseKept _ f)
  · exact (goodFrame_releaseKept s f x st r).trans (nextTurn_releaseKept _ f)

theorem windowExpiry_releaseKept (s : State) (f : Face) : ReleaseKept s (s.windowExpiry f) := by
  rcases windowExpiry_cases s f with h | ⟨x, -, -, h⟩ <;> rw [h]
  · exact .refl s
  · exact (badFrame_releaseKept s f x).trans (nextTurn_releaseKept _ f)

/-! ### The Berth Tracker and the Alignment Engine -/

theorem becomeVacant_releaseKept (s : State) (f : Face) : ReleaseKept s (s.becomeVacant f) :=
  ((((modBerth_releaseKept s f _).trans ((setCondition_reported _ f .positionStale false).trans
    (setCondition_reported _ f .noProfile false)).releaseKept).trans (followEnable_releaseKept _ f)).trans
    (dropOpens_releaseKept _ f)).trans (testAdoption_releaseKept _ f)

theorem requestAlignment_releaseKept (s : State) (f : Face) (n : BitVec 8) : ReleaseKept s (s.requestAlignment f n) := by
  unfold requestAlignment
  split <;> exact modAln_releaseKept s _

theorem withdrawAlignment_releaseKept (s : State) (f : Face) : ReleaseKept s (s.withdrawAlignment f) :=
  .opt (modAln_releaseKept s _)

theorem acceptAlignment_releaseKept (s : State) (f : Face) (r : AlignResult) : ReleaseKept s (s.acceptAlignment f r) := by
  rw [acceptAlignment_eq]
  have taken : ReleaseKept s (s.aligned f r) :=
    (((modBerth_releaseKept s f _).trans (raiseFindings_reported _ f r).releaseKept).trans (followEnable_releaseKept _ f)).trans
      (dropOpens_releaseKept _ f)
  exact taken.trans (.guarded (evacuationOpening_releaseKept _ f))

theorem completeAlignment_releaseKept (s : State) : ReleaseKept s s.completeAlignment := by
  unfold completeAlignment
  split
  · exact .refl s
  next i _ =>
    have delivered : ReleaseKept s (s.deliverAlignment i) := .opt (acceptAlignment_releaseKept s _ _)
    dsimp only
    split
    · exact delivered.trans (modAln_releaseKept _ _)
    · exact (delivered.trans (modAln_releaseKept _ _)).trans (modAln_releaseKept _ _)

theorem refuseTelegram_releaseKept (s : State) (f : Face) (k : TelegramKind) (r : Reason) :
    ReleaseKept s (s.refuseTelegram f k r) := modBerth_releaseKept s f _

theorem startSupervision_releaseKept (s : State) (f : Face) : ReleaseKept s (s.startSupervision f) := by
  unfold startSupervision
  split
  · exact .refl s
  · exact modBerth_releaseKept s f _

theorem takeArrival_releaseKept (s : State) (f : Face) (body : List Byte) : ReleaseKept s (s.takeArrival f body) := by
  have refused (r : Reason) := refuseTelegram_releaseKept s f .arrival r
  unfold takeArrival
  split
  · split
    · exact refused _
    split
    · exact refused _
    · exact (modBerth_releaseKept s f _).trans (startSupervision_releaseKept _ f)
  · exact refused _

theorem becomeDeparting_releaseKept (s : State) (f : Face) : ReleaseKept s (s.becomeDeparting f) :=
  ((((((modBerth_releaseKept s f _).trans (startSupervision_releaseKept _ f)).trans
    (setCondition_reported _ f .positionStale false).releaseKept).trans (followEnable_releaseKept _ f)).trans
    (cancelDeferral_releaseKept _ f)).trans (.opt (partnerExits_releaseKept _ _))).trans (.opt (withdrawAlignment_releaseKept _ f))

theorem takeDeparture_releaseKept (s : State) (f : Face) (body : List Byte) : ReleaseKept s (s.takeDeparture f body) := by
  have accepted : ReleaseKept s (s.acceptDeparture f) :=
    (((becomeDeparting_releaseKept s f).trans (.opt (raiseFace_releaseKept _ f _))).trans (departureClose_releaseKept _ f)).trans
      (dropOpens_releaseKept _ f)
  have refused (r : Reason) := refuseTelegram_releaseKept s f .departure r
  exact .ite (.ite (refused _) (.ite (refused _) accepted)) (refused _)

theorem takeCleared_releaseKept (s : State) (f : Face) (body : List Byte) : ReleaseKept s (s.takeCleared f body) := by
  have refused (r : Reason) := refuseTelegram_releaseKept s f .cleared r
  exact .ite (.ite (refused _) (.ite (refused _) (becomeVacant_releaseKept s f))) (refused _)

theorem returnToApproaching_releaseKept (s : State) (f : Face) (x : Sample) : ReleaseKept s (s.returnToApproaching f x) :=
  ((((modBerth_releaseKept s f _).trans (setCondition_reported _ f .noProfile false).releaseKept).trans
    (followEnable_releaseKept _ f)).trans (dropOpens_releaseKept _ f)).trans (.opt (withdrawAlignment_releaseKept _ f))

theorem testSample_releaseKept (s : State) (f : Face) (p : FaceParams) (x : Sample) : ReleaseKept s (s.testSample f p x) := by
  unfold testSample
  dsimp only
  split
  · exact .opt ((modBerth_releaseKept s f _).trans (requestAlignment_releaseKept _ f _))
  · exact .opt (returnToApproaching_releaseKept s f x)
  · exact .opt (returnToApproaching_releaseKept s f x)
  · exact .opt (((becomeDeparting_releaseKept s f).trans
      (.ite (.refl _) ((raiseFace_releaseKept _ f _).trans (movementClose_releaseKept _ f)))).trans (dropOpens_releaseKept _ f))
  · exact .refl s
  · exact .refl s

theorem takePosition_releaseKept (s : State) (f : Face) (body : List Byte) : ReleaseKept s (s.takePosition f body) := by
  have refused (r : Reason) := refuseTelegram_releaseKept s f .position r
  unfold takePosition
  split
  · exact refused _
  refine .ite (refused _) ?_
  split
  · exact refused _
  · exact .ite (modBerth_releaseKept s f _) (((modBerth_releaseKept s f _).trans (testSample_releaseKept _ f _ _)).trans
      ((startSupervision_releaseKept _ f).trans (setCondition_reported _ f _ _).releaseKept))

theorem supervisionLapse_releaseKept (s : State) (f : Face) : ReleaseKept s (s.supervisionLapse f) := by
  unfold supervisionLapse
  refine .opt ((modBerth_releaseKept s f fun b => { b with supervision := none }).trans ?_)
  dsimp only
  split
  · exact becomeVacant_releaseKept _ f
  · exact .refl _
  all_goals exact (activate_reported _ f _ _).releaseKept

/-! ### The Link Interface, the Gap Monitor, the Table Store -/

theorem degrade_releaseKept (s : State) : ReleaseKept s s.degrade := by
  rcases degrade_blocks s with h | h
  · exact (modLif_releaseKept s _).trans h.releaseKept
  · rw [h]; exact .refl s

theorem intactFrame_releaseKept (s : State) : ReleaseKept s s.intactFrame :=
  (modLif_releaseKept s _).trans (.opt ((modLif_releaseKept _ _).trans (recover_reported _).releaseKept))

theorem joinIntake_releaseKept (s : State) (r : Request) : ReleaseKept s (s.joinIntake r) :=
  .ite (modLif_releaseKept s _) ((modLif_releaseKept s _).trans (raiseDevice_releaseKept _ _))

theorem frameEnd_releaseKept (s : State) : ReleaseKept s s.frameEnd := by
  unfold frameEnd
  split
  · exact .refl s
  · exact modLif_releaseKept s _

theorem handOnZones_releaseKept (s : State) (f : Face) (r : List Head) (h : Bool) (zs : List Zone) :
    ReleaseKept s (s.handOnZones f r h zs) :=
  have heads (u : State) (l : List Head) : ReleaseKept u (u.followHeads f l) :=
    .ite (activate_reported u f _ _).releaseKept (setCondition_reported u f _ _).releaseKept
  ((((decide_reported s f).releaseKept.trans (heads _ r)).trans (heads _ _)).trans
    (.opt (raiseFace_releaseKept _ f _))).trans (modReports_releaseKept _ f _)

theorem cycleEnd_releaseKept (s : State) : ReleaseKept s s.cycleEnd := by
  have rebuilt : ReleaseKept s s.rebuildGap := .opt (modGap_releaseKept s _)
  exact .opt (((((rebuilt.trans (modGap_releaseKept _ _)).trans (modGap_releaseKept _ _)).trans
    (handOnZones_releaseKept _ .A _ _ _)).trans (handOnZones_releaseKept _ .B _ _ _)).trans (modGap_releaseKept _ _))

theorem takeScan_releaseKept (s : State) (bytes : List Byte) (ok : Bool) : ReleaseKept s (s.takeScan bytes ok) := by
  unfold takeScan
  split
  · exact .refl s
  · exact modGap_releaseKept s _

theorem takeObstruction_releaseKept (s : State) (f : Face) (n : Nat) : ReleaseKept s (s.takeObstruction f n) :=
  .opt ((modReports_releaseKept s f _).trans (applyDoor_releaseKept _ f n _ fun c d => by
    split
    · exact (d.obstruct_sheds c).latches
    · exact (Door.Sheds.plain rfl).latches))

theorem endValidation_releaseKept (s : State) : ReleaseKept s s.endValidation := by
  unfold endValidation
  split
  · exact .refl s
  dsimp only
  split
  · exact (modTbs_releaseKept s _).trans (modLif_releaseKept _ _)
  split
  · exact (modTbs_releaseKept s _).trans (modLif_releaseKept _ _)
  · exact ((((modTbs_releaseKept s _).trans (modTbs_releaseKept _ _)).trans (modLif_releaseKept _ _)).trans
      (testAdoption_releaseKept _ .A)).trans (testAdoption_releaseKept _ .B)

theorem endCopy_releaseKept (s : State) : ReleaseKept s s.endCopy := by
  unfold endCopy
  split
  · exact .refl s
  · exact (modTbs_releaseKept s _).trans (raiseDevice_releaseKept _ _)

theorem snapshotDone_releaseKept (s : State) : ReleaseKept s s.snapshotDone := by
  unfold snapshotDone
  split
  · exact .refl s
  · exact (modLif_releaseKept s _).trans (modLif_releaseKept _ _)

/-- A counter clear leaves the doors' numbers and marks. -/
theorem clearDone_releaseKept (s : State) : ReleaseKept s s.clearDone := by
  have cleared (x : Clearing) : ReleaseKept s (s.cleared x) := fun f => by
    rw [cleared_face]
    exact .of_set (fun safe => safe.of_same rfl rfl rfl) rfl (by simp [zeroFace, zeroDoor, Function.comp_def, Door.marks])
  cases h : s.lif.clearing with
  | none => rw [clearDone, h]; exact .refl s
  | some x => rw [clearDone_of_clearing h]; exact (cleared x).trans (raiseDevice_releaseKept _ _)

/-! ### SOFT_RESET -/

theorem faceSoftReset_releaseKept (s : State) (f : Face) : ReleaseKept s (s.faceSoftReset f) :=
  (((modBerth_releaseKept s f _).trans (modDeferral_releaseKept _ f _)).trans (modReports_releaseKept _ f _)).trans
    ((modDoors_map_releaseKept _ f Door.softReset fun _ => rfl).trans (doorsHandOn_reported _ f).releaseKept)

theorem lineSoftReset_releaseKept (s : State) (f : Face) : ReleaseKept s (s.lineSoftReset f) :=
  (modLine_releaseKept s f _).trans (.opt (nextTurn_releaseKept _ f))

theorem releaseSoftReset_releaseKept (s : State) (f : Face) (level : Level) : ReleaseKept s (s.releaseSoftReset f level) :=
  (modRelease_releaseKept_of_same s f (fun r => { r with input := level }) fun _ => ⟨rfl, rfl, rfl⟩).trans
    (.opt (restoreClose_releaseKept _ f))

/-- The reset's blocks in their order (notes/assumptions/25.md). -/
theorem softReset_releaseKept (s : State) (evac : PerFace Level) : ReleaseKept s (s.softReset evac) := by
  have link : ReleaseKept s (s.lifSoftReset.raiseDevice .reset) := (modLif_releaseKept s _).trans (raiseDevice_releaseKept _ .reset)
  have proof (u : State) : ReleaseKept u ((u.proofSoftReset .A).proofSoftReset .B) :=
    ((modProof_releaseKept u .A _).trans (modProof_releaseKept _ .A _)).trans
      ((modProof_releaseKept _ .B _).trans (modProof_releaseKept _ .B _))
  have gap (u : State) : ReleaseKept u u.alnSoftReset.gapSoftReset :=
    (modAln_releaseKept u _).trans ((modGap_releaseKept _ _).trans (modGap_releaseKept _ _))
  have faces (u : State) : ReleaseKept u ((u.faceSoftReset .A).faceSoftReset .B) :=
    (faceSoftReset_releaseKept u .A).trans (faceSoftReset_releaseKept _ .B)
  have lines (u : State) : ReleaseKept u ((u.lineSoftReset .A).lineSoftReset .B) :=
    (lineSoftReset_releaseKept u .A).trans (lineSoftReset_releaseKept _ .B)
  have decided (u : State) : ReleaseKept u ((u.decide .A).decide .B) := ((decide_reported u .A).trans (decide_reported _ .B)).releaseKept
  have releases (u : State) : ReleaseKept u ((u.releaseSoftReset .A evac.a).releaseSoftReset .B evac.b) :=
    (releaseSoftReset_releaseKept u .A _).trans (releaseSoftReset_releaseKept _ .B _)
  have tables (u : State) : ReleaseKept u ((u.tbsSoftReset.testAdoption .A).testAdoption .B) :=
    ((modTbs_releaseKept u _).trans (testAdoption_releaseKept _ .A)).trans (testAdoption_releaseKept _ .B)
  have evacuations (u : State) : ReleaseKept u ((u.testEvacuation .A).testEvacuation .B).refreshAlerts :=
    ((testEvacuation_releaseKept u .A).trans (testEvacuation_releaseKept _ .B)).trans (refreshAlerts_reported _).releaseKept
  exact ((((((((link.trans (proof _)).trans (gap _)).trans (faces _)).trans (lines _)).trans (decided _)).trans (releases _)).trans
    (tables _)).trans (evacuations _))

/-! ### The requests -/

theorem withFace_releaseKept (s : State) (r : Request) (k : Face → State) (hk : ∀ f, ReleaseKept s (k f)) :
    ReleaseKept s (s.withFace r k) := by
  unfold withFace
  split
  · exact refuse_releaseKept s r _
  · exact hk _

theorem withConfigured_releaseKept (s : State) (r : Request) (k : Face → State) (hk : ∀ f, ReleaseKept s (k f)) :
    ReleaseKept s (s.withConfigured r k) := withFace_releaseKept s r _ fun f => .ite (hk f) (refuse_releaseKept s r _)

theorem withNoFields_releaseKept (s : State) (r : Request) (k : State) (hk : ReleaseKept s k) :
    ReleaseKept s (s.withNoFields r k) := .ite hk (refuse_releaseKept s r _)

theorem withDoor_releaseKept (s : State) (r : Request) (k : Face → Door → State) (hk : ∀ f d, ReleaseKept s (k f d)) :
    ReleaseKept s (s.withDoor r k) :=
  withConfigured_releaseKept s r _ fun f => by
    split
    · exact refuse_releaseKept s r _
    · exact hk f _

theorem takeOpenFace_releaseKept (r : Request) (s : State) : ReleaseKept s (takeOpenFace r s) :=
  withConfigured_releaseKept s r _ fun f => withNoFields_releaseKept s r _ <| by
    split
    · exact refuse_releaseKept s r _
    · exact done_releaseKept (((cancelDeferral_releaseKept s f).trans
        (applyDoors_releaseKept _ f _ _ fun c d => .plain (d.startOpen_marks c .routine))).trans (enterDwelling_releaseKept _ f)) r

theorem takeCloseFace_releaseKept (r : Request) (s : State) : ReleaseKept s (takeCloseFace r s) :=
  withConfigured_releaseKept s r _ fun f => withNoFields_releaseKept s r _ <| by
    refine .ite (refuse_releaseKept s r _) (.ite (answer_releaseKept s r _ _) ?_)
    split
    next i h _ =>
      have emptied : ReleaseKept s { s with holds := s.holds.setIfInBounds i none } := .of_faces fun _ => rfl
      exact ((emptied.trans (modDeferral_releaseKept _ f _)).trans (partnerDwellLapse_releaseKept _ f)).trans (answer_releaseKept _ r _ _)
    · exact done_releaseKept (closeFaceNow_releaseKept s f) r

theorem takeReopenDoor_releaseKept (r : Request) (s : State) : ReleaseKept s (takeReopenDoor r s) :=
  withDoor_releaseKept s r _ fun f d => by
    split
    · exact refuse_releaseKept s r _
    · exact done_releaseKept (applyDoor_releaseKept s f _ _ fun c d => (Door.Sheds.plain (d.startOpen_marks c .routine)).latches) r

theorem takeCloseDoor_releaseKept (r : Request) (s : State) : ReleaseKept s (takeCloseDoor r s) :=
  withDoor_releaseKept s r _ fun f _ => .ite (refuse_releaseKept s r _)
    (.ite (done_releaseKept (applyDoor_releaseKept s f _ _ fun c d => (d.startClose_sheds c _).latches) r) (refuse_releaseKept s r _))

theorem takeIsolateDoor_releaseKept (r : Request) (s : State) : ReleaseKept s (takeIsolateDoor r s) :=
  withDoor_releaseKept s r _ fun f _ =>
    done_releaseKept (applyDoorRestore_releaseKept s f _ _ fun _ d => d.isolate_sheds.latches) r

theorem takeReturnDoor_releaseKept (r : Request) (s : State) : ReleaseKept s (takeReturnDoor r s) :=
  withDoor_releaseKept s r _ fun f _ =>
    .ite (done_releaseKept (applyDoorRestore_releaseKept s f _ _ fun _ d => d.returnToService_sheds.latches) r)
      (refuse_releaseKept s r _)

theorem takeHoldAdd_releaseKept (r : Request) (s : State) : ReleaseKept s (takeHoldAdd r s) :=
  withConfigured_releaseKept s r _ fun f => by
    split
    · exact refuse_releaseKept s r _
    split
    · exact refuse_releaseKept s r _
    · exact .of_faces fun _ => rfl

theorem takeHoldCancel_releaseKept (r : Request) (s : State) : ReleaseKept s (takeHoldCancel r s) :=
  withFace_releaseKept s r _ fun f => by
    split
    · exact refuse_releaseKept s r _
    · exact .ite (.of_faces fun _ => rfl) (refuse_releaseKept s r _)

/-- An accepted RESTORE clears the latch before the face leaves RELEASED or EVACUATING (R145). -/
theorem acceptRestore_releaseKept (s : State) (f : Face) (seq : Byte) : ReleaseKept s (s.acceptRestore f seq) := by
  have noted : ReleaseKept s (s.restoreNoted f seq) :=
    modRelease_releaseKept s f _ rfl fun safe => ⟨fun normal => ⟨(safe.1 normal).1, rfl⟩, fun _ => rfl⟩
  have latch : ((s.restoreNoted f seq).face f).release.latch = false := by simp [restoreNoted]
  by_cases empty : (s.face f).release.set = []
  · rw [acceptRestore_normal empty]
    exact noted.trans (becomeNormal_releaseKept _ f (by simpa [restoreNoted] using empty) fun _ => latch)
  · rw [acceptRestore_restoring empty]
    exact (noted.trans (setRelease_releaseKept _ f .restoring fun _ => ⟨nofun, fun _ => latch⟩)).trans (restoreClose_releaseKept _ f)

theorem takeRestore_releaseKept (r : Request) (s : State) : ReleaseKept s (takeRestore r s) :=
  withFace_releaseKept s r _ fun f => by
    have refused (x : Reason) := refuse_releaseKept s r x
    have counted : ReleaseKept s (s.modRelease f fun x => { x with refused := s.bump x.refused }) :=
      modRelease_releaseKept_of_same s f _ fun _ => ⟨rfl, rfl, rfl⟩
    split
    · exact refused _
    · exact .ite (refused _) (.ite (refused _) (.ite
        ((counted.trans (raiseFace_releaseKept _ f _)).trans
          (answer_releaseKept _ r _ _))
        (.ite (refused _) (.ite (refused _) (done_releaseKept (acceptRestore_releaseKept s f _) r)))))

/-- EVACUATE sets the latch of a face that is EVACUATING, or that becomes so at once (R138). -/
theorem takeEvacuate_releaseKept (r : Request) (s : State) : ReleaseKept s (takeEvacuate r s) :=
  withFace_releaseKept s r _ fun f => withNoFields_releaseKept s r _ <| .ite (done_releaseKept (by
    have entered : ReleaseKept s ((s.modRelease f fun x => { x with latch := true }).setRelease f .evacuating) :=
      .of_face f (.of_set (fun _ => ⟨by simp [setRelease_release], by simp [setRelease_release]⟩) (by simp [setRelease_release])
        (by simp)) (by simp [setRelease_release_ne _ (Face.partner_ne f)]) (by simp)
    split
    next evacuating =>
      exact modRelease_releaseKept s f _ rfl fun _ =>
        ⟨fun h => by simp [evacuating] at h, fun h => by simp [evacuating] at h⟩
    · exact beginEvacuation_releaseKept f entered) r) (refuse_releaseKept s r _)

theorem takeTunnel_releaseKept (r : Request) (s : State) : ReleaseKept s (takeTunnel r s) :=
  withConfigured_releaseKept s r _ fun f => by
    split
    · exact refuse_releaseKept s r _
    split
    · exact refuse_releaseKept s r _
    · exact .ite (refuse_releaseKept s r _) (.ite (refuse_releaseKept s r _) (modLine_releaseKept s f _))

theorem takeWriteEntry_releaseKept (r : Request) (s : State) : ReleaseKept s (takeWriteEntry r s) := by
  have refused (x : Reason) := refuse_releaseKept s r x
  unfold takeWriteEntry
  split
  · split
    · exact refused _
    split
    · split
      · exact refused _
      · exact (modTbs_releaseKept s _).trans (answer_releaseKept _ r _ _)
    · exact refused _
  · exact refused _

theorem takeReadEntry_releaseKept (r : Request) (s : State) : ReleaseKept s (takeReadEntry r s) := by
  unfold takeReadEntry
  split
  · split
    · exact .ite (refuse_releaseKept s r _) (answer_releaseKept s r _ _)
    · exact refuse_releaseKept s r _
  · exact refuse_releaseKept s r _

theorem takeActivate_releaseKept (r : Request) (s : State) : ReleaseKept s (takeActivate r s) := by
  unfold takeActivate
  split
  · exact refuse_releaseKept s r _
  · exact .ite (refuse_releaseKept s r _) (.ite (refuse_releaseKept s r _) (modTbs_releaseKept s _))

theorem drawFree_releaseKept (s : State) : ReleaseKept s s.drawFree := .opt (.of_faces fun _ => rfl)

theorem takeReadStatus_releaseKept (r : Request) (s : State) : ReleaseKept s (takeReadStatus r s) := by
  unfold takeReadStatus
  split
  · exact refuse_releaseKept s r _
  · exact (drawFree_releaseKept s).trans (answer_releaseKept _ r _ _)

theorem takeReadDoor_releaseKept (r : Request) (s : State) : ReleaseKept s (takeReadDoor r s) :=
  withDoor_releaseKept s r _ fun _ _ => (drawFree_releaseKept s).trans (answer_releaseKept _ r _ _)

theorem takeSetDevice_releaseKept (r : Request) (s : State) : ReleaseKept s (takeSetDevice r s) := by
  have installed (limit : Nat) (routes : Vector Route 23) : ReleaseKept s (s.installDevice limit routes) :=
    ((modLif_releaseKept s _).trans (modLif_releaseKept _ _)).trans
      ((ReleaseKept.opt (degrade_releaseKept _)).trans (refreshAlerts_reported _).releaseKept)
  unfold takeSetDevice
  split
  · exact refuse_releaseKept s r _
  · exact done_releaseKept (installed _ _) r

theorem takeReadEvents_releaseKept (r : Request) (s : State) : ReleaseKept s (takeReadEvents r s) := by
  unfold takeReadEvents
  split
  · exact refuse_releaseKept s r _
  · exact ((modLif_releaseKept s _).trans (refreshAlerts_reported _).releaseKept).trans (answer_releaseKept _ r _ _)

theorem takeReadCounters_releaseKept (r : Request) (s : State) : ReleaseKept s (takeReadCounters r s) := by
  unfold takeReadCounters
  split
  · exact refuse_releaseKept s r _
  refine .ite (refuse_releaseKept s r _) ?_
  split
  · exact refuse_releaseKept s r _
  · exact answer_releaseKept s r _ _

/-- SNAPSHOT_COUNTERS and CLEAR_COUNTERS note the request or refuse it. -/
theorem takeNoted_releaseKept (r : Request) (s : State) (c : Prop) [Decidable c] (x : Reason) (g : LinkInterface → LinkInterface) :
    ReleaseKept s (s.withNoFields r (if c then s.refuse r x else s.modLif g)) :=
  withNoFields_releaseKept s r _ (.ite (refuse_releaseKept s r _) (modLif_releaseKept s _))

/-! ### The timers -/

theorem tunnelLapse_releaseKept (s : State) (f : Face) : ReleaseKept s (s.tunnelLapse f) := by
  unfold tunnelLapse
  split
  · exact .refl s
  · exact .opt (endTunnel_releaseKept s f _ _)

theorem doorTimeout_releaseKept (s : State) (f : Face) (n : Nat) (k : TimerKind) : ReleaseKept s (s.doorTimeout f n k) :=
  .opt (applyDoor_releaseKept s f n _ fun _ d => (d.timeout_sheds k).latches)

theorem dwellLapse_releaseKept (s : State) (f : Face) (n : Nat) : ReleaseKept s (s.dwellLapse f n) :=
  .opt (applyDoor_releaseKept s f n _ fun c d => (d.dwellOver_sheds c).latches)

/-! ### A step -/

theorem advance_releaseKept (s : State) (t : Micros) : ReleaseKept s (s.advance t) := .of_faces fun _ => rfl

theorem event_releaseKept (s : State) (t : Micros) (k : State → State) (hk : ∀ u, ReleaseKept u (k u)) : ReleaseKept s (s.event t k) :=
  .ite ((((advance_releaseKept s t).trans (arbitrate_arbitrated _).releaseKept).trans (hk _)).trans
    (arbitrate_arbitrated _).releaseKept) (advance_releaseKept s t)

/-- An intact frame counted, and then delivered. -/
theorem delivery_releaseKept (s : State) (t : Micros) (k : State → State) (hk : ∀ u, ReleaseKept u (k u)) :
    ReleaseKept s (s.event t fun u => k u.intactFrame) := event_releaseKept s t _ fun u => (intactFrame_releaseKept u).trans (hk _)

theorem request_releaseKept (s : State) (t : Micros) (k : Option RequestKind) (h : Request → State → State)
    (hk : ∀ r u, ReleaseKept u (h r u)) : ReleaseKept s (s.event t fun s => s.takeRequest k h) :=
  event_releaseKept s t _ fun u => by
    unfold takeRequest
    split
    · exact .refl u
    · exact .opt ((modLif_releaseKept u _).trans (hk _ _))

theorem silence_releaseKept (s : State) : ReleaseKept s s.silence :=
  .of_records (fun f => by cases f <;> rfl) fun f => by cases f <;> rfl

/-- A face at power-on is in NORMAL without a door. -/
theorem freshBlocks_releaseKept (s : State) (cause : ResetCause) (evac : PerFace Level) : ReleaseKept s (s.freshBlocks cause evac) :=
  fun f => by
    rw [freshBlocks_face]
    have safe : (FaceState.initial (evac.get f) (s.ms + 200)).release.Safe := ⟨fun _ => ⟨rfl, rfl⟩, nofun⟩
    exact ⟨fun _ => safe, fun _ => ⟨.nil, safe, ⟨.nil, fun n k =>
      iff_of_false (holds_nil n k) fun ⟨_, hd, _⟩ => List.not_mem_nil hd⟩⟩⟩

theorem releasePin_releaseKept (s : State) (evac : PerFace Level) : ReleaseKept s (s.releasePin evac) :=
  .ite ((freshBlocks_releaseKept s .pin evac).trans (.of_faces fun _ => rfl)) (.of_faces fun _ => rfl)

end State

open State in
/-- A command keeps the release records safe and the marks mirrored. -/
theorem exec_releaseKept (c : Instr) (s u : State) (h : exec c s = .next u) : ReleaseKept s u := by
  have next {v : State} (k : ReleaseKept s v) (h : (.next v : Host.Outcome State Fault Refusal) = .next u) :
      ReleaseKept s u := by
    cases h
    exact k
  have pin {v w : State} {t : Micros} (h : ReleaseKept (s.advance t) v) (e : ∀ f, w.face f = v.face f) : ReleaseKept s w :=
    ((advance_releaseKept s t).trans h).trans (.of_faces e)
  cases c
  case powerOn t evac =>
    exact next (v := (s.advance t).powerUp evac) (pin (freshBlocks_releaseKept _ .powerOn evac) fun _ => rfl) h
  case resetPinAssert t => exact next (v := (s.advance t).assertPin) (pin (silence_releaseKept _) fun _ => rfl) h
  case resetPinRelease t evac => exact next ((advance_releaseKept s t).trans (releasePin_releaseKept _ evac)) h
  case powerLoss t => exact next (v := (s.advance t).powerDown) (pin (silence_releaseKept _) fun _ => rfl) h
  case evacInputChange t f l =>
    have recorded (u : State) : ReleaseKept u (u.modRelease f fun r => { r with input := l }) :=
      modRelease_releaseKept_of_same u f _ fun _ => ⟨rfl, rfl, rfl⟩
    exact next (event_releaseKept s t _ fun u => (recorded u).trans (testEvacuation_releaseKept _ f)) h
  case inboundFrameDamaged t =>
    exact next (event_releaseKept s t _ fun u => (modLif_releaseKept u _).trans (.opt (degrade_releaseKept _))) h
  case trainFrameDiscarded t => exact next (delivery_releaseKept s t _ fun u => modLif_releaseKept u _) h
  case arrival t f b => exact next (delivery_releaseKept s t _ fun u => takeArrival_releaseKept u f b) h
  case position t f b => exact next (delivery_releaseKept s t _ fun u => takePosition_releaseKept u f b) h
  case departure t f b => exact next (delivery_releaseKept s t _ fun u => takeDeparture_releaseKept u f b) h
  case cleared t f b => exact next (delivery_releaseKept s t _ fun u => takeCleared_releaseKept u f b) h
  case requestFrameReceived t r => exact next (delivery_releaseKept s t _ fun u => joinIntake_releaseKept u r) h
  case transmitFrameEnd t => exact next (event_releaseKept s t _ frameEnd_releaseKept) h
  case uplinkSilenceExpiry t =>
    exact next (event_releaseKept s t _ fun u => .opt ((modLif_releaseKept u _).trans (degrade_releaseKept _))) h
  case requestUndefinedKind t => exact next (request_releaseKept s t _ _ fun r u => refuse_releaseKept u r _) h
  case openFace t => exact next (request_releaseKept s t _ _ takeOpenFace_releaseKept) h
  case closeFace t => exact next (request_releaseKept s t _ _ takeCloseFace_releaseKept) h
  case reopenDoor t => exact next (request_releaseKept s t _ _ takeReopenDoor_releaseKept) h
  case closeDoor t => exact next (request_releaseKept s t _ _ takeCloseDoor_releaseKept) h
  case isolateDoor t => exact next (request_releaseKept s t _ _ takeIsolateDoor_releaseKept) h
  case returnDoor t => exact next (request_releaseKept s t _ _ takeReturnDoor_releaseKept) h
  case holdAdd t => exact next (request_releaseKept s t _ _ takeHoldAdd_releaseKept) h
  case holdCancel t => exact next (request_releaseKept s t _ _ takeHoldCancel_releaseKept) h
  case restore t => exact next (request_releaseKept s t _ _ takeRestore_releaseKept) h
  case evacuate t => exact next (request_releaseKept s t _ _ takeEvacuate_releaseKept) h
  case tunnel t => exact next (request_releaseKept s t _ _ takeTunnel_releaseKept) h
  case writeEntry t => exact next (request_releaseKept s t _ _ takeWriteEntry_releaseKept) h
  case readEntry t => exact next (request_releaseKept s t _ _ takeReadEntry_releaseKept) h
  case activate t => exact next (request_releaseKept s t _ _ takeActivate_releaseKept) h
  case readStatus t => exact next (request_releaseKept s t _ _ takeReadStatus_releaseKept) h
  case readDoor t => exact next (request_releaseKept s t _ _ takeReadDoor_releaseKept) h
  case setDevice t => exact next (request_releaseKept s t _ _ takeSetDevice_releaseKept) h
  case readEvents t => exact next (request_releaseKept s t _ _ takeReadEvents_releaseKept) h
  case snapshotCounters t => exact next (request_releaseKept s t _ _ fun r u => takeNoted_releaseKept r u _ _ _) h
  case readCounters t => exact next (request_releaseKept s t _ _ takeReadCounters_releaseKept) h
  case clearCounters t => exact next (request_releaseKept s t _ _ fun r u => takeNoted_releaseKept r u _ _ _) h
  case softReset t evac =>
    exact next (request_releaseKept s t _ _ fun r u => withNoFields_releaseKept u r _ (softReset_releaseKept u evac)) h
  case supervisionExpiry t f => exact next (event_releaseKept s t _ fun u => supervisionLapse_releaseKept u f) h
  case alignmentComplete t => exact next (event_releaseKept s t _ completeAlignment_releaseKept) h
  case openTimeoutExpiry t f n => exact next (event_releaseKept s t _ fun u => doorTimeout_releaseKept u f n _) h
  case closeTimeoutExpiry t f n => exact next (event_releaseKept s t _ fun u => doorTimeout_releaseKept u f n _) h
  case recycleDwellExpiry t f n => exact next (event_releaseKept s t _ fun u => dwellLapse_releaseKept u f n) h
  case obstructionReport t f n => exact next (event_releaseKept s t _ fun u => takeObstruction_releaseKept u f n) h
  case holdMaximumExpiry t f => exact next (event_releaseKept s t _ fun u => .opt (endWithClose_releaseKept u f _)) h
  case partnerDwellExpiry t f => exact next (event_releaseKept s t _ fun u => partnerDwellLapse_releaseKept u f) h
  case turnAnswer t f b p => exact next (event_releaseKept s t _ fun u => takeAnswer_releaseKept u f b p) h
  case answerWindowExpiry t f => exact next (event_releaseKept s t _ fun u => windowExpiry_releaseKept u f) h
  case lateFrameDiscarded t f => exact next (event_releaseKept s t _ .refl) h
  case tunnelTimeout t f => exact next (event_releaseKept s t _ fun u => tunnelLapse_releaseKept u f) h
  case scanFrameArrival t b p => exact next (event_releaseKept s t _ fun u => takeScan_releaseKept u b p) h
  case sensorCycleEnd t => exact next (event_releaseKept s t _ cycleEnd_releaseKept) h
  case periodicProofExpiry t f => exact next (event_releaseKept s t _ fun u => .opt (modProof_releaseKept u f _)) h
  case validationComplete t => exact next (event_releaseKept s t _ endValidation_releaseKept) h
  case copyComplete t => exact next (event_releaseKept s t _ endCopy_releaseKept) h
  case snapshotReady t => exact next (event_releaseKept s t _ snapshotDone_releaseKept) h
  case counterClearComplete t => exact next (event_releaseKept s t _ clearDone_releaseKept) h

/-- A step keeps the release records safe and the marks mirrored; on an empty queue the block idles. -/
theorem step_releaseKept (s u : State) (h : step s = .next u) : ReleaseKept s u := by
  unfold step at h
  split at h
  · cases h
    exact .refl s
  next c rest _ =>
    have taken : ReleaseKept s { s with pending := rest } := .of_faces fun _ => rfl
    exact taken.trans (exec_releaseKept c _ u h)

/-- Settles O55: each command keeps both, operation by operation. A mark of evacuation is set only on a face that is EVACUATING, a face
returns to NORMAL only from an empty set, and an adoption rebuilds the doors of a face in NORMAL alone. -/
theorem everyStepKeepsReleaseSafe : Obligations.EveryStepKeepsReleaseSafe :=
  ⟨fun s u safe h => (step_releaseKept s u h).safe safe,
    fun s u ordered safe mirrored h => (step_releaseKept s u h).mirrored ordered safe mirrored⟩

end Sys2Proof.Machine
end

section
/-! PROOFS. O27: a latch taken by the Release Supervisor (R134). -/

namespace Sys2Proof.Machine

/-- A mark set for one door leaves every other door's member. -/
theorem mem_setMark_of_other {n : Nat} {a b : Bool} {l : List ReleaseMember} {m : ReleaseMember} (h : m.door ≠ n) :
    m ∈ setMark n a b l ↔ m ∈ l := by
  have other {x : ReleaseMember} (hx : x.door = n) : m ≠ x := fun e => h (e ▸ hx)
  induction l with
  | nil => simp [setMark, other]
  | cons x rest ih =>
    unfold setMark
    split
    next same => simp [other same, other (x := { x with latched := x.latched || a, evacOpened := x.evacOpened || b }) same]
    · split
      · simp [other]
      · simp [ih]

namespace State

theorem takeLatch_release (s : State) (f : Face) (n : Nat) :
    ((s.takeLatch f n).face f).release = releaseAfter (s.face f).release n .latchSet := takeReport_release s f n .latchSet

theorem takeLatch_flag (s : State) (f : Face) (n : Nat) : .manualRelease ∈ (s.takeLatch f n).lif.flags.get (.face f) :=
  raise_flag _ (.face f) .manualRelease

/-- A latch changes the release record of its face alone. -/
theorem takeLatch_blocks (s : State) (f : Face) (n : Nat) : (s.takeLatch f n).blocks =
    s.blocks.modFace f fun b => { b with release := ((s.takeLatch f n).face f).release } := by
  rw [Sequenced.blocks_eq (takeLatch_sequenced s f n) rfl (takeLatch_doors s f f.partner n)
    (takeReport_release_ne s (Face.partner_ne f) n .latchSet)]
  refine Blocks.modFace_congr ?_
  rw [takeLatch_doors, blocks_get]
  rfl

end State

/-- Settles O27: the release record after the latch, and the frame from the blocks. -/
theorem latchAdvancesTheReleaseSequence : Obligations.LatchAdvancesTheReleaseSequence := by
  intro s f n u
  have release : (u.face f).release = State.releaseAfter (s.face f).release n .latchSet := State.takeLatch_release s f n
  have set : (u.face f).release.set = setMark n true false (s.face f).release.set := by rw [release]; rfl
  refine ⟨?_, ?_, fun k other m same => ?_, ?_, State.takeLatch_flag s f n, (State.takeLatch_blocks s f n).trans ?_⟩
  · rw [release]
    exact BitVec.toNat_add _ _
  · rw [set]
    exact (holds_setMark n true false _ n .latch).2 (.inr ⟨rfl, rfl⟩)
  · rw [set]
    exact mem_setMark_of_other (same ▸ other)
  · rw [release]
    simp only [State.releaseAfter]
    cases (s.face f).release.state <;> rfl
  · refine Blocks.modFace_congr ?_
    change FaceBlocks.mk _ _ _ _ _ (u.face f).release = _
    rw [State.blocks_get]
    simp only [release]
    rfl

end Sys2Proof.Machine
end

section
/-! PROOFS. O30: the tests of RESTORE in their order, and its PROTECT (R142, R143). -/

namespace Sys2Proof.Machine

namespace State

/-- The state with another intake queue. -/
abbrev requeued (s : State) (intake : List Request) : State := s.modLif fun l => { l with intake := intake }

theorem joinNotice_requeued (s : State) (c : Scope) (k : EventKind) (intake : List Request) :
    (s.requeued intake).joinNotice c k = (s.joinNotice c k).requeued intake := by
  unfold joinNotice
  rw [apply_ite (fun u : State => u.requeued intake)]
  rfl

/-- Raising an event does not look at the intake queue, and leaves it. -/
theorem raise_requeued (s : State) (c : Scope) (k : EventKind) (intake : List Request) :
    (s.requeued intake).raise c k = (s.raise c k).requeued intake := by
  unfold raise
  rw [apply_ite (fun u : State => u.requeued intake)]
  refine if_congr Iff.rfl rfl ?_
  exact congrArg refreshAlerts
    (joinNotice_requeued (s.modLif fun l => { l with flags := l.flags.set c (insertKind k (l.flags.get c)) }) c k intake)

section
variable {s : State} {r : Request} {f : Face} {seq inverse : Byte}

/-- The payload of a RESTORE is a sequence and its inverse (R142). -/
theorem parseRestore_none {body : List Byte} (h : body.length ≠ 2) : parseRestore body = none := by
  unfold parseRestore
  split
  · exact absurd rfl h
  · rfl

theorem takeRestore_malformed (hf : r.face? = some f) (h : r.body.length ≠ 2) : s.takeRestore r = s.refuse r .badArgument := by
  rw [takeRestore, withFace_of hf]
  simp only [parseRestore_none h]

/-- The tests that RESTORE makes of a well-formed request, in their order (R142). -/
theorem takeRestore_tests (hf : r.face? = some f) (hb : r.body = [seq, inverse]) : s.takeRestore r =
    if ¬s.configured f then s.refuse r .notConfigured
    else if (s.face f).release.state ≠ .released ∧ (s.face f).release.state ≠ .evacuating then s.refuse r .badState
    else if inverse ≠ 255 - seq ∨ seq ≠ (s.face f).release.seq then s.protectRestore r f
    else if (s.face f).release.input = .asserted then s.refuse r .inputActive
    else if s.releaseHeld f then s.refuse r .releaseActive
    else (s.acceptRestore f seq).done r := by
  rw [takeRestore, withFace_of hf, hb]
  rfl

/-- A lever is held: a latched door of the set shows release-actuated in its last status (R142). -/
theorem releaseHeld_of_lever (h : ∃ m ∈ (s.face f).release.set, m.latched = true ∧
    ∃ d st, s.findDoor f m.door = some d ∧ d.lastStatus = some st ∧ st.releaseActuated = true) : s.releaseHeld f = true := by
  obtain ⟨m, hm, latched, d, st, found, status, actuated⟩ := h
  exact List.any_eq_true.2 ⟨m, hm, by simp [latched, found, status, actuated]⟩

end

/-- The PROTECT of a request taken: counted, raised and answered, and nothing else (R143). -/
theorem protectRestore_handed (s : State) (t : Micros) (r : Request) (rest : List Request) (f : Face) :
    (s.handed t rest).protectRestore r f =
      (((s.opened t).modRelease f fun x => { x with refused := s.bump x.refused }).raiseFace f .restoreRefused).answered rest
        (replyTo r (.refused .protect) [(s.face f).release.seq]) := by
  have bump : (s.handed t rest).bump = s.bump := by
    funext c
    simp [State.bump]
  have counted : (s.handed t rest).modRelease f (fun x => { x with refused := s.bump x.refused }) =
      ((s.opened t).modRelease f fun x => { x with refused := s.bump x.refused }).requeued rest := rfl
  unfold protectRestore
  rw [bump, counted, raiseFace, raise_requeued, handed_release]
  rfl

end State

/-- The quoted pair names the current sequence and its complement (R142). -/
theorem restorePair_iff (seq inverse current : Byte) :
    (inverse ≠ 255 - seq ∨ seq ≠ current) ↔ ¬(seq = current ∧ inverse.toNat = 255 - seq.toNat) := by
  have complement : inverse = 255 - seq ↔ inverse.toNat = 255 - seq.toNat := by bv_omega
  rw [← complement]
  tauto

/-- Settles O30: each test of RESTORE with those before it passed. -/
theorem restoreIsRefusedInOrder : Obligations.RestoreIsRefusedInOrder := by
  intro s t r rest takes
  have refused {x : Reason} (h : (s.handed t rest).takeRestore r = (s.handed t rest).refuse r x) : Refuses (.restore t) s r rest x :=
    refuses_of_takes rfl takes h
  refine ⟨fun hf => refused (State.withFace_none hf _), fun f hf =>
    ⟨fun malformed => refused (State.takeRestore_malformed hf malformed), fun seq inverse hb => ?_⟩⟩
  have tests := State.takeRestore_tests (s := s.handed t rest) hf hb
  simp only [State.handed_configured, State.handed_release, restorePair_iff] at tests
  refine ⟨fun unconfigured => refused ?_, fun configured => ⟨fun state => refused ?_, fun state => ?_⟩⟩
  · rw [tests, if_pos (by simp [unconfigured])]
  · rw [tests, if_neg (by simp [configured]), if_pos (by rcases state with h | h <;> simp [h])]
  rw [if_neg (by simp [configured]), if_neg fun ⟨h1, h2⟩ => state.elim h1 h2] at tests
  refine ⟨fun wrong => ?_, fun current inverted => ?_⟩
  · rw [if_pos wrong, State.protectRestore_handed] at tests
    rw [Answers, exec_of_takes (c := .restore t) rfl takes, tests]
  rw [if_neg fun wrong => wrong ⟨current, inverted⟩] at tests
  refine ⟨fun asserted => refused ?_, fun deasserted lever => refused ?_⟩
  · rw [tests, if_pos asserted]
  · rw [tests, if_neg (by simp [deasserted]), if_pos (State.releaseHeld_of_lever (by simpa using lever))]

end Sys2Proof.Machine
end

section
/-! PROOFS. What every step keeps of a face's Proof Unit (R153 to R158, R160, R163): four aspects of its outputs, condition sets and
blockers, what they are read from, and the relation "an operation keeps them" with the operations of the Proof Unit and of the flags. -/

namespace Sys2Proof.Machine

/-! ### The four aspects -/

/-- What is kept of a face's Proof Unit: proof with its loop output, the alert output, the condition sets, the blockers. -/
inductive Aspect where
  | loop | alert | sets | blockers

/-- How a face's Proof Unit stands, and what it is formed from. -/
structure Footing where
  held : Bool
  loopClosed : Bool
  alertDriven : Bool
  blockers : Blockers
  active : ConditionSet
  withhold : ConditionSet
  holdClosed : ConditionSet
  requirements : Blockers
  actions : Option (PerCondition Action)
  alertDue : Bool

/-- The footing of a face's Proof Unit in a state: its record, the requirements that fail, the actions in force, the alerts due. -/
def State.footing (s : State) (f : Face) : Footing :=
  { held := (s.face f).proof.held, loopClosed := (s.face f).proof.loopClosed, alertDriven := (s.face f).proof.alertDriven
    blockers := (s.face f).proof.blockers, active := (s.face f).proof.active, withhold := (s.face f).proof.withhold
    holdClosed := (s.face f).proof.holdClosed, requirements := s.proofBlockers f
    actions := (s.params? f).map fun p => p.actions, alertDue := alertDue s.lif f }

/-- When an aspect of a face's Proof Unit is as it should be, in a running part and in any other. -/
def Aspect.Holds (running : Bool) : Aspect → Footing → Prop
  | .loop, x => x.held = x.blockers.isEmpty ∧ x.loopClosed = (x.held && running)
  | .alert, x => x.alertDriven = (x.alertDue && running)
  | .sets, x => x.withhold = filterActions x.actions x.active (fun a => a ≠ .report) ∧
      x.holdClosed = filterActions x.actions x.active (fun a => a = .holdClosed)
  | .blockers, x => running = true → x.blockers = x.requirements

/-- An aspect is as it should be on both faces. -/
def Aspect.Safe (a : Aspect) (s : State) : Prop := ∀ f, a.Holds s.running (s.footing f)

theorem PerCondition.ext_get {p q : ConditionSet} (h : ∀ c, p.get c = q.get c) : p = q := by
  obtain ⟨stale, uplink, silent, stalled, held, profile⟩ := p
  rw [PerCondition.mk.injEq]
  exact ⟨h .positionStale, h .uplinkDegraded, h .headSilent, h .doorStalled, h .doorHeld, h .noProfile⟩

/-- A condition is in a filtered set where it is active and its action passes the test (R158). -/
theorem filterActions_get (p : Option FaceParams) (active : ConditionSet) (test : Action → Bool) (c : Condition) :
    (filterActions (p.map fun p => p.actions) active test).get c = (active.get c && p.any fun p => test (p.actions.get c)) := by
  cases p with
  | none => cases c <;> simp [filterActions, noConditions, PerCondition.get]
  | some p => cases c <;> rfl

/-- The doors that count as closed are those of R155. -/
theorem Door.countsClosed_eq (d : Door) : d.countsClosed =
    ((decide (d.state = .closed) && decide (d.isolation = .none)) ||
      (decide (d.state = .isolated) && (decide (d.isolation = .lockedOut) ||
        (decide (d.isolation = .localSwitch) &&
          match d.lastStatus with | some st => decide (st.position = .closedLocked) | none => false)))) := by
  unfold countsClosed
  split
  next state isolation => simp [state, isolation]
  next state isolation => simp [state, isolation]
  next state isolation => cases status : d.lastStatus <;> simp [state, isolation]
  next closed lockedOut localSwitch =>
    cases state : d.state <;> simp only [reduceCtorEq, decide_false, Bool.false_and, Bool.or_self]
    case closed => simpa using closed state
    case isolated =>
      cases isolation : d.isolation
      case none => rfl
      case lockedOut => exact absurd isolation (lockedOut state)
      case localSwitch => exact absurd isolation (localSwitch state)

/-- The requirements that fail, as R154 and R155 list them, are those that a decision finds. -/
theorem failingRequirements_eq (s : State) (f : Face) : failingRequirements s f = s.proofBlockers f := by
  have doors : (failingRequirements s f).doors = (s.face f).doors.any fun d => !d.countsClosed :=
    congrArg (s.face f).doors.any (funext fun d => congrArg (fun c => !c) d.countsClosed_eq.symm)
  unfold State.proofBlockers
  rw [List.not_all_eq_any_not, ← doors, List.not_all_eq_any_not]
  simp only [failingRequirements, State.configured, Option.not_isSome, decide_not]

theorem proofSafe_iff (s : State) : proofSafe s ↔ Aspect.loop.Safe s := .rfl

theorem alertSafe_iff (s : State) : alertSafe s ↔ Aspect.alert.Safe s := .rfl

theorem setsFormed_iff (s : State) : setsFormed s ↔ Aspect.sets.Safe s := by
  refine forall_congr' fun f => ?_
  have member := filterActions_get (s.params? f) (s.face f).proof.active
  have withhold := member fun a => a ≠ .report
  have holdClosed := member fun a => a = .holdClosed
  refine ⟨fun h => ⟨?_, ?_⟩, fun ⟨formed, closed⟩ c => ⟨?_, ?_⟩⟩
  · exact PerCondition.ext_get fun c => (h c).1.trans (withhold c).symm
  · exact PerCondition.ext_get fun c => (h c).2.trans (holdClosed c).symm
  · exact (congrArg (fun x : ConditionSet => x.get c) formed).trans (withhold c)
  · exact (congrArg (fun x : ConditionSet => x.get c) closed).trans (holdClosed c)

theorem blockersCurrent_iff (s : State) : blockersCurrent s ↔ Aspect.blockers.Safe s := by
  simp only [blockersCurrent, failingRequirements_eq]
  exact forall_comm

/-! ### What an operation keeps -/

/-- An operation on a running part keeps the aspects of its Proof Units, but for some that it leaves to be made good. -/
structure Keeps (due : List (Aspect × Face)) (s u : State) : Prop where
  running : u.running = s.running
  holds : ∀ a f, (a, f) ∉ due → a.Holds true (s.footing f) → a.Holds true (u.footing f)

/-- The alert outputs of both faces are due too. -/
abbrev alertsDue (due : List (Aspect × Face)) : List (Aspect × Face) := (.alert, .A) :: (.alert, .B) :: due

/-- The blockers of both faces are due too. -/
abbrev blockersDue (due : List (Aspect × Face)) : List (Aspect × Face) := (.blockers, .A) :: (.blockers, .B) :: due

namespace Keeps

variable {due : List (Aspect × Face)} {s u v : State}

theorem refl (s : State) : Keeps due s s := ⟨rfl, fun _ _ _ => id⟩

theorem trans (h : Keeps due s u) (k : Keeps due u v) : Keeps due s v :=
  ⟨k.running.trans h.running, fun a f n x => k.holds a f n (h.holds a f n x)⟩

theorem ite {c : Prop} {_ : Decidable c} (h : Keeps due s u) (k : Keeps due s v) : Keeps due s (if c then u else v) := by
  split
  · exact h
  · exact k

theorem opt {c : Prop} {_ : Decidable c} (h : Keeps due s u) : Keeps due s (if c then u else s) := .ite h (.refl s)

theorem mono {more : List (Aspect × Face)} (h : Keeps due s u) (sub : due ⊆ more) : Keeps more s u :=
  ⟨h.running, fun a f n => h.holds a f fun m => n (sub m)⟩

/-- An operation that leaves both footings. -/
theorem of_footing (running : u.running = s.running) (h : ∀ f, u.footing f = s.footing f) : Keeps due s u :=
  ⟨running, fun _ f _ x => h f ▸ x⟩

/-- An operation that leaves the footing of the other face, and of one face all but what is due. -/
theorem of_face (f : Face) (running : u.running = s.running) (other : u.footing f.partner = s.footing f.partner)
    (h : ∀ a, (a, f) ∉ due → a.Holds true (s.footing f) → a.Holds true (u.footing f)) : Keeps due s u := by
  refine ⟨running, fun a g n x => ?_⟩
  obtain rfl | rfl := Face.eq_or_partner f g
  · exact h a n x
  · exact other ▸ x

/-- An aspect that is due is made good. -/
theorem regain {a : Aspect} {f : Face} (h : Keeps ((a, f) :: due) s u) (good : a.Holds true (u.footing f)) : Keeps due s u := by
  refine ⟨h.running, fun b g n x => ?_⟩
  by_cases same : (b, g) = (a, f)
  · cases same
    exact good
  · exact h.holds b g (by simp [same, n]) x

end Keeps

theorem alertDue_congr {l m : LinkInterface} (flags : m.flags = l.flags) (routes : m.routes = l.routes) (f : Face) :
    alertDue m f = alertDue l f := by simp only [alertDue, LinkInterface.route, flags, routes]

namespace State

variable {due : List (Aspect × Face)}

/-! ### Records that no Proof Unit reads -/

theorem modBerth_keeps (s : State) (f : Face) (g : Berth → Berth) : Keeps due s (s.modBerth f g) :=
  .of_footing rfl fun h => by cases f <;> cases h <;> rfl

theorem modDeferral_keeps (s : State) (f : Face) (g : Deferral → Deferral) : Keeps due s (s.modDeferral f g) :=
  .of_footing rfl fun h => by cases f <;> cases h <;> rfl

theorem modReports_keeps (s : State) (f : Face) (g : List ObstructionReport → List ObstructionReport) :
    Keeps due s (s.modReports f g) := .of_footing rfl fun h => by cases f <;> cases h <;> rfl

theorem modLine_keeps (s : State) (f : Face) (g : DoorLine → DoorLine) : Keeps due s (s.modLine f g) :=
  .of_footing rfl fun h => by cases f <;> cases h <;> rfl

theorem modAln_keeps (s : State) (g : Engine → Engine) : Keeps due s (s.modAln g) := .of_footing rfl fun _ => rfl

/-- Each door record of a face changed, and none that counts as closed opened or the other way. -/
theorem modDoors_keeps_of_closed (s : State) (f : Face) (g : Door → Door) (h : ∀ d, (g d).countsClosed = d.countsClosed) :
    Keeps due s (s.modDoors f fun ds => ds.map g) := by
  refine .of_footing rfl fun k => ?_
  have closed : ((s.modDoors f fun ds => ds.map g).face k).doors.all Door.countsClosed = (s.face k).doors.all Door.countsClosed := by
    obtain rfl | rfl := Face.eq_or_partner f k
    · simp [List.all_map, Function.comp_def, h]
    · simp
  simp only [footing, proofBlockers, closed]
  cases f <;> cases k <;> rfl

/-- A release record changed, but for its state. -/
theorem modRelease_keeps_of_state (s : State) (f : Face) (g : Release → Release)
    (h : (g (s.face f).release).state = (s.face f).release.state) : Keeps due s (s.modRelease f g) := by
  refine .of_footing rfl fun k => ?_
  have state : ((s.modRelease f g).face k).release.state = (s.face k).release.state := by
    obtain rfl | rfl := Face.eq_or_partner f k
    · simpa using h
    · simp
  simp only [footing, proofBlockers, state]
  cases f <;> cases k <;> rfl

/-- The counts of doors noted (R157). -/
theorem modCounts_keeps (s : State) (f : Face) (stalled held : Nat) :
    Keeps due s (s.modProof f fun p => { p with stalledCount := stalled, heldCount := held }) :=
  .of_footing rfl fun h => by cases f <;> cases h <;> rfl

/-- The Link Interface changed, but for its flags and its routes. -/
theorem modLif_keeps_of_flags (s : State) (g : LinkInterface → LinkInterface) (flags : (g s.lif).flags = s.lif.flags)
    (routes : (g s.lif).routes = s.lif.routes) : Keeps due s (s.modLif g) :=
  .of_footing rfl fun f => congrArg (fun x => { s.footing f with alertDue := x }) (alertDue_congr flags routes f)

/-- The Gap Monitor changed, but for its zones. -/
theorem modGap_keeps_of_zones (s : State) (g : GapMonitor → GapMonitor) (zones : (g s.gap).zones = s.gap.zones) :
    Keeps due s (s.modGap g) := .of_footing rfl fun f => by
  have requirements : (s.modGap g).proofBlockers f = s.proofBlockers f := by
    simp only [proofBlockers, modGap_gap, zones]
    rfl
  simp only [footing, requirements]
  rfl

theorem arbitrate_keeps (s : State) : Keeps due s s.arbitrate :=
  .of_footing (by simp [running]) fun f => by
    simp [footing, proofBlockers, alertDue_congr (arbitrate_lif_flags s) (arbitrate_lif_routes s)]

/-! ### Decisions (R154, R156) -/

theorem decide_footing (s : State) (f : Face) : (s.decide f).footing f =
    { s.footing f with
      blockers := s.proofBlockers f, held := (s.proofBlockers f).isEmpty, loopClosed := (s.proofBlockers f).isEmpty } := by
  have due : alertDue (s.decide f).lif f = alertDue s.lif f := alertDue_congr (decide_flags s f) (by simp) f
  simp only [footing, proofBlockers, decide_proof, decidedProof, due]
  simp

theorem decide_face_partner (s : State) (f : Face) : (s.decide f).face f.partner = s.face f.partner := by
  unfold decide
  dsimp only
  split <;> simp

theorem decide_footing_partner (s : State) (f : Face) : (s.decide f).footing f.partner = s.footing f.partner := by
  have due : alertDue (s.decide f).lif f.partner = alertDue s.lif f.partner := alertDue_congr (decide_flags s f) (by simp) f.partner
  simp only [footing, proofBlockers, due, decide_face_partner]
  simp

end State

namespace Keeps

open State

variable {due : List (Aspect × Face)} {s u : State} {f : Face}

/-- A decision makes the blockers good (R154, R156). -/
theorem decide (h : Keeps ((.blockers, f) :: due) s u) : Keeps due s (u.decide f) := by
  have good : Aspect.blockers.Holds true ((u.decide f).footing f) := by
    rw [decide_footing]
    exact fun _ => rfl
  refine (h.trans (.of_face f (by simp) (decide_footing_partner u f) fun a _ held => ?_)).regain good
  cases a
  case loop =>
    rw [decide_footing]
    exact ⟨rfl, (Bool.and_true _).symm⟩
  case alert | sets =>
    rw [decide_footing]
    exact held
  case blockers => exact good

/-- Sets formed again are good; they may change the requirements (R158). -/
theorem formSets (h : Keeps ((.sets, f) :: (.blockers, f) :: due) s u) : Keeps ((.blockers, f) :: due) s (u.formSets f) := by
  have good : Aspect.sets.Holds true ((u.formSets f).footing f) := by cases f <;> exact ⟨rfl, rfl⟩
  have formed : Keeps ((.sets, f) :: (.blockers, f) :: due) u (u.formSets f) := by
    refine .of_face f rfl (by cases f <;> rfl) fun a n held => ?_
    cases a
    case loop | alert => cases f <;> exact held
    case sets => exact good
    case blockers => simp at n
  exact (h.trans formed).regain good

/-- The active conditions replaced: the sets are formed again where they change, and proof is decided (R156 to R158). -/
theorem setActive (h : Keeps ((.blockers, f) :: due) s u) (c : ConditionSet) : Keeps due s (u.setActive f c) := by
  have written : Keeps ((.sets, f) :: (.blockers, f) :: due) u (u.modProof f fun p => { p with active := c }) := by
    refine .of_face f rfl (by cases f <;> rfl) fun a n held => ?_
    cases a
    case loop | alert | blockers => cases f <;> exact held
    case sets => simp at n
  exact .ite h.decide ((h.mono (List.subset_cons_self _ _)).trans written).formSets.decide

/-- A door hand-on decides proof (R156, R157). -/
theorem doorsHandOn (h : Keeps ((.blockers, f) :: due) s u) : Keeps due s (u.doorsHandOn f) :=
  (h.trans (modCounts_keeps u f _ _)).setActive _

/-- Alert outputs refreshed are good (R163, R188). -/
theorem refreshAlerts (h : Keeps (alertsDue due) s u) : Keeps due s u.refreshAlerts := by
  have good (g : Face) : Aspect.alert.Holds true (u.refreshAlerts.footing g) := by
    cases g <;> exact (Bool.and_true _).symm
  have refreshed : Keeps (alertsDue due) u u.refreshAlerts := by
    refine ⟨rfl, fun a g _ held => ?_⟩
    cases a
    case alert => exact good g
    case loop | sets | blockers => cases g <;> exact held
  exact ((h.trans refreshed).regain (good .A)).regain (good .B)

end Keeps

namespace State

variable {due : List (Aspect × Face)}

theorem decide_keeps (s : State) (f : Face) : Keeps due s (s.decide f) := (Keeps.refl s).decide

theorem setCondition_keeps (s : State) (f : Face) (c : Condition) (on : Bool) : Keeps due s (s.setCondition f c on) :=
  .ite (.refl s) ((Keeps.refl s).setActive _)

/-! ### Flags and routes (R163, R188, R190) -/

/-- Any change of the Link Interface leaves at most the alert outputs due. -/
theorem modLif_keeps (s : State) (g : LinkInterface → LinkInterface) :
    Keeps (alertsDue due) s (s.modLif g) :=
  ⟨rfl, fun a f n held => by
    cases a
    case loop | sets | blockers => exact held
    case alert => cases f <;> simp at n⟩

theorem raise_keeps (s : State) (c : Scope) (k : EventKind) : Keeps due s (s.raise c k) := by
  have set := modLif_keeps (due := due) s fun l => { l with flags := l.flags.set c (insertKind k (l.flags.get c)) }
  exact .ite (.refl s) (set.trans (.opt (modLif_keeps _ _))).refreshAlerts

theorem raiseFace_keeps (s : State) (f : Face) (k : EventKind) : Keeps due s (s.raiseFace f k) := raise_keeps s _ k

theorem raiseDevice_keeps (s : State) (k : EventKind) : Keeps due s (s.raiseDevice k) := raise_keeps s _ k

theorem raiseAll_keeps (s : State) (f : Face) (l : List EventKind) : Keeps due s (s.raiseAll f l) := by
  unfold raiseAll
  induction l generalizing s with
  | nil => exact .refl s
  | cons k rest ih => exact (raiseFace_keeps s f k).trans (ih _)

theorem activate_keeps (s : State) (f : Face) (c : Condition) (k : EventKind) : Keeps due s (s.activate f c k) :=
  .ite (.refl s) ((raiseFace_keeps s f k).trans (setCondition_keeps _ f c true))

end State

end Sys2Proof.Machine
end

section
/-! PROOFS. Every operation inside a step keeps the Proof Units' outputs, condition sets and blockers (R153 to R158, R160, R163), in the order
of the model's files: what changes a requirement of proof is followed by a decision, what changes the actions in force by sets formed again. -/

namespace Sys2Proof.Machine

namespace State

variable {due : List (Aspect × Face)}

/-! ### The requirements of proof (R154) -/

/-- An operation that changes no more than the requirements of one face leaves at most its blockers due. -/
theorem keeps_of_requirements {s u : State} (f : Face) (running : u.running = s.running)
    (other : u.footing f.partner = s.footing f.partner)
    (h : { u.footing f with requirements := (s.footing f).requirements } = s.footing f) : Keeps ((.blockers, f) :: due) s u := by
  refine .of_face f running other fun a n held => ?_
  cases a
  case loop | alert | sets =>
    rw [← h] at held
    exact held
  case blockers => simp at n

theorem modDoors_keeps (s : State) (f : Face) (g : List Door → List Door) : Keeps ((.blockers, f) :: due) s (s.modDoors f g) :=
  keeps_of_requirements f rfl (by cases f <;> rfl) (by cases f <;> rfl)

theorem modRelease_keeps (s : State) (f : Face) (g : Release → Release) : Keeps ((.blockers, f) :: due) s (s.modRelease f g) :=
  keeps_of_requirements f rfl (by cases f <;> rfl) (by cases f <;> rfl)

/-- Any change of the Gap Monitor leaves at most the blockers due. -/
theorem modGap_keeps (s : State) (g : GapMonitor → GapMonitor) :
    Keeps (blockersDue due) s (s.modGap g) :=
  ⟨rfl, fun a f n held => by
    cases a
    case loop | alert | sets => exact held
    case blockers => cases f <;> simp at n⟩

/-! ### Replies -/

theorem reply_keeps (s : State) (k t : Byte) (r : Result) (d : List Byte) : Keeps due s (s.reply k t r d) :=
  modLif_keeps_of_flags s _ rfl rfl

theorem answer_keeps (s : State) (q : Request) (r : Result) (d : List Byte) : Keeps due s (s.answer q r d) :=
  reply_keeps s _ _ r d

theorem refuse_keeps (s : State) (q : Request) (r : Reason) : Keeps due s (s.refuse q r) := answer_keeps s q _ _

/-! ### The Door Sequencer -/

theorem setRelease_keeps (s : State) (f : Face) (st : ReleaseState) : Keeps due s (s.setRelease f st) :=
  (modRelease_keeps s f _).decide

theorem takeReport_keeps (s : State) (f : Face) (n : Nat) (r : DoorReport) : Keeps due s (s.takeReport f n r) := by
  have marked (g : List ReleaseMember → List ReleaseMember) : Keeps due s (s.modRelease f fun r => { r with set := g r.set }) :=
    modRelease_keeps_of_state s f _ rfl
  cases r with
  | latchSet =>
    exact ((modRelease_keeps_of_state s f _ rfl).trans (.opt (setRelease_keeps _ f .released))).trans (raiseFace_keeps _ f _)
  | evacSet => exact marked (setMark n false true)
  | latchCleared => exact marked (clearMark n true false)
  | evacCleared => exact marked (clearMark n false true)

theorem takeReports_keeps (s : State) (f : Face) (n : Nat) (l : List DoorReport) : Keeps due s (s.takeReports f n l) := by
  unfold takeReports
  induction l generalizing s with
  | nil => exact .refl s
  | cons r rest ih => exact (takeReport_keeps s f n r).trans (ih _)

/-- One event of one door ends in a hand-on, whatever it makes of the door. -/
theorem applyDoor_keeps (s : State) (f : Face) (n : Nat) (g : DoorContext → Door → DoorOutcome) : Keeps due s (s.applyDoor f n g) := by
  unfold applyDoor
  split
  · exact .refl s
  · exact ((((modDoors_keeps s f _).trans (takeReports_keeps _ f n _)).doorsHandOn).trans (raiseAll_keeps _ f _)).trans
      (takeReports_keeps _ f n _)

theorem applyDoors_keeps (s : State) (f : Face) (p : Door → Bool) (g : DoorContext → Door → DoorOutcome) :
    Keeps due s (s.applyDoors f p g) := by
  unfold applyDoors
  generalize ((s.face f).doors.filter p).map (fun d => d.number) = ns
  induction ns generalizing s with
  | nil => exact .refl s
  | cons n rest ih => exact (applyDoor_keeps s f n g).trans (ih _)

theorem dropOpens_keeps (s : State) (f : Face) : Keeps due s (s.dropOpens f) :=
  modDoors_keeps_of_closed s f _ fun d => by unfold Door.dropOpen; split <;> rfl

theorem followEnable_keeps (s : State) (f : Face) : Keeps due s (s.followEnable f) :=
  modDoors_keeps_of_closed s f _ fun _ => rfl

theorem endDeferral_keeps (s : State) (f : Face) (c : EndCause) : Keeps due s (s.endDeferral f c) :=
  (modDeferral_keeps s f _).trans (raiseFace_keeps _ f _)

theorem endWithClose_keeps (s : State) (f : Face) (c : EndCause) : Keeps due s (s.endWithClose f c) :=
  (endDeferral_keeps s f c).trans (applyDoors_keeps _ f _ _)

theorem cancelDeferral_keeps (s : State) (f : Face) : Keeps due s (s.cancelDeferral f) := .opt (endDeferral_keeps s f _)

theorem partnerDwellLapse_keeps (s : State) (f : Face) : Keeps due s (s.partnerDwellLapse f) := .opt (endWithClose_keeps s f _)

theorem partnerExits_keeps (s : State) (f : Face) : Keeps due s (s.partnerExits f) :=
  (modDeferral_keeps s f _).trans (.opt (endWithClose_keeps _ f _))

theorem enterDwelling_keeps (s : State) (f : Face) : Keeps due s (s.enterDwelling f) :=
  .opt ((modBerth_keeps s f _).trans ((modDeferral_keeps _ _ _).trans (partnerDwellLapse_keeps _ _)))

theorem evacuationOpening_keeps (s : State) (f : Face) : Keeps due s (s.evacuationOpening f) :=
  ((cancelDeferral_keeps s f).trans (applyDoors_keeps _ f _ _)).trans (enterDwelling_keeps _ f)

theorem beginEvacuation_keeps (s : State) (f : Face) : Keeps due s (s.beginEvacuation f) :=
  ((setRelease_keeps s f .evacuating).trans (raiseFace_keeps _ f _)).trans
    (.ite (evacuationOpening_keeps _ f) (applyDoors_keeps _ f _ _))

theorem testEvacuation_keeps (s : State) (f : Face) : Keeps due s (s.testEvacuation f) := .opt (beginEvacuation_keeps s f)

/-! ### The Door Line Controller -/

/-- No unit's link record counts for its door being closed. -/
theorem modDropLink_keeps (s : State) (f : Face) (drop : Nat) (g : UnitLink → UnitLink) : Keeps due s (s.modDropLink f drop g) :=
  modDoors_keeps_of_closed s f _ fun d => by split <;> rfl

theorem beginTurn_keeps (s : State) (f : Face) (k : TurnKind) (drop : Nat) : Keeps due s (s.beginTurn f k drop) := by
  unfold beginTurn
  exact (modDropLink_keeps s f drop _).trans (modLine_keeps _ f _)

theorem nextTurn_keeps (s : State) (f : Face) : Keeps due s (s.nextTurn f) := by
  refine (modLine_keeps s f fun l => { l with turn := none }).trans (.ite ?_ (modLine_keeps _ f _))
  split
  · exact beginTurn_keeps _ f _ _
  · exact .refl _

theorem startLine_keeps (s : State) (f : Face) : Keeps due s (s.startLine f) :=
  (modLine_keeps s f _).trans (.ite (.refl _) (nextTurn_keeps _ f))

theorem endTunnel_keeps (s : State) (f : Face) (r : Result) (d : List Byte) : Keeps due s (s.endTunnel f r d) := by
  unfold endTunnel
  split
  · exact .refl s
  · exact (modLine_keeps s f _).trans (reply_keeps _ _ _ _ _)

theorem followLine_keeps (s : State) (f : Face) (was : Bool) : Keeps due s (s.followLine f was) := by
  unfold followLine
  refine Keeps.trans (modLine_keeps s f _) (.ite (.ite ?_ (startLine_keeps _ f)) ?_)
  · split
    · exact .ite (.refl _) (endTunnel_keeps _ f _ _)
    · exact .refl _
  · exact (endTunnel_keeps _ f _ _).trans (.ite (.refl _) (modLine_keeps _ f _))

theorem accountSend_keeps (s : State) (f : Face) (d : Door) : Keeps due s (s.accountSend f d) :=
  (modDropLink_keeps s f d.drop _).trans (.opt (applyDoor_keeps _ f _ _))

theorem badFrame_keeps (s : State) (f : Face) (t : Turn) : Keeps due s (s.badFrame f t) := by
  unfold badFrame
  generalize hu : (if t.kind = .tunnel ∧ ¬t.orphan then
      s.modLine f fun l => { l with tunnel := l.tunnel.map fun x => { x with sent := false } } else s) = u
  have unsent : Keeps due s u := hu ▸ .opt (modLine_keeps s f _)
  dsimp only
  split
  · exact unsent
  · exact (unsent.trans (modDropLink_keeps _ f _ _)).trans
      (.ite (applyDoor_keeps _ f _ _) (.ite (accountSend_keeps _ f _) (.refl _)))

/-! ### Adoption, release, the end of a turn -/

/-- A change of the Table Store that leaves the active banks, and the tables in them. -/
theorem modTbs_keeps_of_tables (s : State) (g : TableStore → TableStore) (active : (g s.tbs).active = s.tbs.active)
    (tables : ∀ f b, s.tbs.active.get f = some b → ((g s.tbs).bank b).tables = (s.tbs.bank b).tables) :
    Keeps due s (s.modTbs g) := by
  refine .of_footing rfl fun f => ?_
  have found : (s.modTbs g).tables? f = s.tables? f := by
    simp only [tables?, modTbs_tbs, active]
    cases h : s.tbs.active.get f with
    | none => rfl
    | some b => exact congrArg some (tables f b h)
  simp only [footing, proofBlockers, configured, params?, found]
  rfl

/-- A bank's state changes, and no table (R178, R179). -/
theorem beginCopy_keeps (s : State) (b : BankId) : Keeps due s (s.beginCopy b) :=
  modTbs_keeps_of_tables s _ (by cases b <;> rfl) fun _ c _ => by cases b <;> cases c <;> rfl

/-- Another active bank of a face leaves at most its sets and its blockers due. -/
theorem adopting_keeps (s : State) (f : Face) (b : BankId) : Keeps ((.sets, f) :: (.blockers, f) :: due) s (s.adopting f b) := by
  refine .of_face f rfl (by cases f <;> rfl) fun a n held => ?_
  cases a
  case loop | alert => cases f <;> exact held
  case sets | blockers => simp at n

theorem handOnAdoption_keeps {s u : State} {f : Face} (h : Keeps ((.sets, f) :: (.blockers, f) :: due) s u) (was : Bool) :
    Keeps due s (u.handOnAdoption f was) := by
  have doors : Keeps ((.sets, f) :: (.blockers, f) :: due) u ((u.modDoors f fun ds => rebuildDoors ds (u.faceEntries f)).doorsHandOn f) :=
    (modDoors_keeps u f _).doorsHandOn
  exact ((((h.trans doors).trans (followLine_keeps _ f was)).trans (modGap_keeps_of_zones _ _ rfl)).formSets.decide).trans
    (testEvacuation_keeps _ f)

theorem testAdoption_keeps (s : State) (f : Face) : Keeps due s (s.testAdoption f) := by
  have adopted (b : BankId) : Keeps due s (s.adopt f b) :=
    ((handOnAdoption_keeps (adopting_keeps s f b) (s.configured f)).trans (raiseFace_keeps _ f .bankAdopted)).trans
      (.opt (beginCopy_keeps _ b))
  unfold testAdoption
  split
  · exact .refl s
  · exact .opt (adopted _)

theorem becomeNormal_keeps (s : State) (f : Face) : Keeps due s (s.becomeNormal f) :=
  ((setRelease_keeps s f .normal).trans (raiseFace_keeps _ f _)).trans (testAdoption_keeps _ f)

theorem testRestore_keeps (s : State) (f : Face) : Keeps due s (s.testRestore f) := .opt (becomeNormal_keeps s f)

theorem applyDoorRestore_keeps (s : State) (f : Face) (n : Nat) (g : DoorContext → Door → DoorOutcome) :
    Keeps due s (s.applyDoorRestore f n g) := by
  unfold applyDoorRestore
  split
  · exact .refl s
  · exact .ite ((applyDoor_keeps s f n g).trans (testRestore_keeps _ f)) (applyDoor_keeps s f n g)

theorem goodFrame_keeps (s : State) (f : Face) (t : Turn) (st : Status) (r : Option (List Byte)) :
    Keeps due s (s.goodFrame f t st r) := by
  unfold goodFrame
  split
  · exact .refl s
  · exact (((modDropLink_keeps s f t.drop _).trans (.opt (accountSend_keeps _ f _))).trans
      (applyDoorRestore_keeps _ f _ _)).trans (.opt (endTunnel_keeps _ f _ _))

theorem takeAnswer_keeps (s : State) (f : Face) (bytes : List Byte) (ok : Bool) : Keeps due s (s.takeAnswer f bytes ok) := by
  rcases takeAnswer_cases s f bytes ok with h | ⟨x, -, -, ⟨-, h⟩ | ⟨st, r, -, h⟩⟩ <;> rw [h]
  · exact .refl s
  · exact (badFrame_keeps s f x).trans (nextTurn_keeps _ f)
  · exact (goodFrame_keeps s f x st r).trans (nextTurn_keeps _ f)

theorem windowExpiry_keeps (s : State) (f : Face) : Keeps due s (s.windowExpiry f) := by
  rcases windowExpiry_cases s f with h | ⟨x, -, -, h⟩ <;> rw [h]
  · exact .refl s
  · exact (badFrame_keeps s f x).trans (nextTurn_keeps _ f)

/-! ### The Berth Tracker and the Alignment Engine -/

theorem becomeVacant_keeps (s : State) (f : Face) : Keeps due s (s.becomeVacant f) :=
  (((((modBerth_keeps s f _).trans (setCondition_keeps _ f .positionStale false)).trans
    (setCondition_keeps _ f .noProfile false)).trans (followEnable_keeps _ f)).trans (dropOpens_keeps _ f)).trans
    (testAdoption_keeps _ f)

theorem requestAlignment_keeps (s : State) (f : Face) (n : BitVec 8) : Keeps due s (s.requestAlignment f n) := by
  unfold requestAlignment
  split <;> exact modAln_keeps s _

theorem withdrawAlignment_keeps (s : State) (f : Face) : Keeps due s (s.withdrawAlignment f) := .opt (modAln_keeps s _)

theorem raiseFindings_keeps (s : State) (f : Face) (r : AlignResult) : Keeps due s (s.raiseFindings f r) :=
  ((Keeps.opt (raiseFace_keeps s f .misaligned)).trans (.opt (raiseFace_keeps _ f .partialAlign))).trans
    (.opt (activate_keeps _ f _ _))

theorem acceptAlignment_keeps (s : State) (f : Face) (r : AlignResult) : Keeps due s (s.acceptAlignment f r) := by
  rw [acceptAlignment_eq]
  have taken : Keeps due s (s.aligned f r) :=
    (((modBerth_keeps s f _).trans (raiseFindings_keeps _ f r)).trans (followEnable_keeps _ f)).trans (dropOpens_keeps _ f)
  exact taken.trans (.opt (evacuationOpening_keeps _ f))

theorem completeAlignment_keeps (s : State) : Keeps due s s.completeAlignment := by
  unfold completeAlignment
  split
  · exact .refl s
  next i _ =>
    have delivered : Keeps due s (s.deliverAlignment i) := .opt (acceptAlignment_keeps s _ _)
    dsimp only
    split
    · exact delivered.trans (modAln_keeps _ _)
    · exact (delivered.trans (modAln_keeps _ _)).trans (modAln_keeps _ _)

theorem refuseTelegram_keeps (s : State) (f : Face) (k : TelegramKind) (r : Reason) : Keeps due s (s.refuseTelegram f k r) :=
  modBerth_keeps s f _

theorem startSupervision_keeps (s : State) (f : Face) : Keeps due s (s.startSupervision f) := by
  unfold startSupervision
  split
  · exact .refl s
  · exact modBerth_keeps s f _

theorem takeArrival_keeps (s : State) (f : Face) (body : List Byte) : Keeps due s (s.takeArrival f body) := by
  have refused (r : Reason) : Keeps due s _ := refuseTelegram_keeps s f .arrival r
  unfold takeArrival
  split
  · split
    · exact refused _
    split
    · exact refused _
    · exact (modBerth_keeps s f _).trans (startSupervision_keeps _ f)
  · exact refused _

theorem becomeDeparting_keeps (s : State) (f : Face) : Keeps due s (s.becomeDeparting f) :=
  ((((((modBerth_keeps s f _).trans (startSupervision_keeps _ f)).trans (setCondition_keeps _ f .positionStale false)).trans
    (followEnable_keeps _ f)).trans (cancelDeferral_keeps _ f)).trans (.opt (partnerExits_keeps _ _))).trans
    (.opt (withdrawAlignment_keeps _ f))

theorem takeDeparture_keeps (s : State) (f : Face) (body : List Byte) : Keeps due s (s.takeDeparture f body) := by
  have accepted : Keeps due s (s.acceptDeparture f) :=
    (((becomeDeparting_keeps s f).trans (.opt (raiseFace_keeps _ f _))).trans (applyDoors_keeps _ f _ _)).trans (dropOpens_keeps _ f)
  have refused (r : Reason) : Keeps due s _ := refuseTelegram_keeps s f .departure r
  exact .ite (.ite (refused _) (.ite (refused _) accepted)) (refused _)

theorem takeCleared_keeps (s : State) (f : Face) (body : List Byte) : Keeps due s (s.takeCleared f body) := by
  have refused (r : Reason) : Keeps due s _ := refuseTelegram_keeps s f .cleared r
  exact .ite (.ite (refused _) (.ite (refused _) (becomeVacant_keeps s f))) (refused _)

theorem returnToApproaching_keeps (s : State) (f : Face) (x : Sample) : Keeps due s (s.returnToApproaching f x) :=
  ((((modBerth_keeps s f _).trans (setCondition_keeps _ f .noProfile false)).trans (followEnable_keeps _ f)).trans
    (dropOpens_keeps _ f)).trans (.opt (withdrawAlignment_keeps _ f))

theorem testSample_keeps (s : State) (f : Face) (p : FaceParams) (x : Sample) : Keeps due s (s.testSample f p x) := by
  unfold testSample
  dsimp only
  split
  · exact .opt ((modBerth_keeps s f _).trans (requestAlignment_keeps _ f _))
  · exact .opt (returnToApproaching_keeps s f x)
  · exact .opt (returnToApproaching_keeps s f x)
  · exact .opt (((becomeDeparting_keeps s f).trans
      (.ite (.refl _) ((raiseFace_keeps _ f _).trans (applyDoors_keeps _ f _ _)))).trans (dropOpens_keeps _ f))
  · exact .refl s
  · exact .refl s

theorem takePosition_keeps (s : State) (f : Face) (body : List Byte) : Keeps due s (s.takePosition f body) := by
  have refused (r : Reason) : Keeps due s _ := refuseTelegram_keeps s f .position r
  unfold takePosition
  split
  · exact refused _
  refine .ite (refused _) ?_
  split
  · exact refused _
  · exact .ite (modBerth_keeps s f _) (((modBerth_keeps s f _).trans (testSample_keeps _ f _ _)).trans
      ((startSupervision_keeps _ f).trans (setCondition_keeps _ f _ _)))

theorem supervisionLapse_keeps (s : State) (f : Face) : Keeps due s (s.supervisionLapse f) := by
  unfold supervisionLapse
  refine .opt ((modBerth_keeps s f fun b => { b with supervision := none }).trans ?_)
  dsimp only
  split
  · exact becomeVacant_keeps _ f
  · exact .refl _
  all_goals exact activate_keeps _ f _ _

/-! ### The Link Interface, the Gap Monitor, the Table Store -/

theorem degrade_keeps (s : State) : Keeps due s s.degrade :=
  .ite (.refl s) ((((modLif_keeps_of_flags s _ rfl rfl).trans (raiseDevice_keeps _ _)).trans (setCondition_keeps _ .A _ _)).trans
    (setCondition_keeps _ .B _ _))

theorem damagedFrame_keeps (s : State) : Keeps due s s.damagedFrame :=
  (modLif_keeps_of_flags s _ rfl rfl).trans (.opt (degrade_keeps _))

theorem intactFrame_keeps (s : State) : Keeps due s s.intactFrame := by
  have recovered (u : State) : Keeps due u u.recover :=
    ((modLif_keeps_of_flags u _ rfl rfl).trans (setCondition_keeps _ .A _ _)).trans (setCondition_keeps _ .B _ _)
  exact (modLif_keeps_of_flags s _ rfl rfl).trans (.opt (recovered _))

theorem silenceLapse_keeps (s : State) : Keeps due s s.silenceLapse :=
  .opt ((modLif_keeps_of_flags s _ rfl rfl).trans (degrade_keeps _))

theorem joinIntake_keeps (s : State) (r : Request) : Keeps due s (s.joinIntake r) :=
  .ite (modLif_keeps_of_flags s _ rfl rfl) ((modLif_keeps_of_flags s _ rfl rfl).trans (raiseDevice_keeps _ _))

theorem frameEnd_keeps (s : State) : Keeps due s s.frameEnd := by
  unfold frameEnd
  split
  · exact .refl s
  · exact modLif_keeps_of_flags s _ rfl rfl

theorem periodicExpiry_keeps (s : State) (f : Face) : Keeps due s (s.periodicExpiry f) :=
  .opt (.of_footing rfl fun h => by cases f <;> cases h <;> rfl)

theorem followHeads_keeps (s : State) (f : Face) (heads : List Head) : Keeps due s (s.followHeads f heads) :=
  .ite (activate_keeps s f _ _) (setCondition_keeps s f _ _)

/-- The results of a cycle end handed on for a face decide its proof, on whatever its zones have become (R114, R156). -/
theorem handOnZones_keeps {s u : State} {f : Face} (h : Keeps ((.blockers, f) :: due) s u) (r : List Head) (held : Bool) (zs : List Zone) :
    Keeps due s (u.handOnZones f r held zs) := by
  unfold handOnZones
  exact (((h.decide.trans (followHeads_keeps _ f r)).trans (followHeads_keeps _ f _)).trans (.opt (raiseFace_keeps _ f _))).trans
    (modReports_keeps _ f _)

theorem takeScans_keeps (s : State) : Keeps due s s.takeScans := modGap_keeps_of_zones s _ rfl

theorem cycleEnd_keeps (s : State) : Keeps due s s.cycleEnd := by
  have rebuilt : Keeps (blockersDue due) s s.rebuildGap := .opt (modGap_keeps s _)
  have evaluated (u : State) : Keeps (blockersDue due) u u.evaluateZones := modGap_keeps u _
  have ready := (rebuilt.trans (takeScans_keeps _)).trans (evaluated _)
  exact .opt ((handOnZones_keeps (handOnZones_keeps ready _ _ _) _ _ _).trans (modGap_keeps_of_zones _ _ rfl))

theorem takeScan_keeps (s : State) (bytes : List Byte) (ok : Bool) : Keeps due s (s.takeScan bytes ok) := by
  unfold takeScan
  split
  · exact .refl s
  · exact modGap_keeps_of_zones s _ rfl

theorem takeObstruction_keeps (s : State) (f : Face) (n : Nat) : Keeps due s (s.takeObstruction f n) :=
  .opt ((modReports_keeps s f _).trans (applyDoor_keeps _ f n _))

end State

end Sys2Proof.Machine
end

section
/-! PROOFS. O53: every step keeps the Proof Units' outputs, condition sets and blockers: the Table Store, SOFT_RESET, the requests, the timers,
and the step (R153 to R158, R160, R163, R188, R201). -/

namespace Sys2Proof.Machine

/-- The aspects that the tables in force bear on. -/
def tablesDue : List (Aspect × Face) := [(.sets, .A), (.sets, .B), (.blockers, .A), (.blockers, .B)]

theorem TableStore.bank_setBank_ne (t : TableStore) {b c : BankId} (h : c ≠ b) (x : Bank) : (t.setBank b x).bank c = t.bank c := by
  cases b <;> cases c
  case b0.b0 | b1.b1 => exact absurd rfl h
  all_goals rfl

theorem TableStore.setBank_active (t : TableStore) (b : BankId) (x : Bank) : (t.setBank b x).active = t.active := by cases b <;> rfl

namespace State

variable {due : List (Aspect × Face)}

/-! ### The Table Store, the counters -/

/-- Whatever becomes of the Table Store, what the tables bear on is all that is due. -/
theorem modTbs_keeps (s : State) (g : TableStore → TableStore) : Keeps tablesDue s (s.modTbs g) :=
  ⟨rfl, fun a f n held => by
    cases a
    case loop | alert => exact held
    case sets | blockers => cases f <;> simp [tablesDue] at n⟩

/-- A bank that no face has in service is written, and beside it what `rest` writes of the Table Store (R172, R179). -/
theorem setBank_keeps (s : State) {b : BankId} (x : Bank) (rest : TableStore → TableStore)
    (active : ∀ t, (rest t).active = t.active) (bank : ∀ t c, (rest t).bank c = t.bank c)
    (idle : (∀ f, s.tbs.active.get f ≠ some b) ∨ tablesDue ⊆ due) : Keeps due s (s.modTbs fun t => rest (t.setBank b x)) := by
  rcases idle with idle | all
  · refine modTbs_keeps_of_tables s _ ((active _).trans (s.tbs.setBank_active b x)) fun f c used => ?_
    rw [bank, s.tbs.bank_setBank_ne (fun same => idle f (used.trans (congrArg some same))) x]
  · exact (modTbs_keeps s _).mono all

theorem takeWriteEntry_keeps (r : Request) (s : State) (safe : bankSafe s ∨ tablesDue ⊆ due) : Keeps due s (takeWriteEntry r s) := by
  have refused (x : Reason) : Keeps due s _ := refuse_keeps s r x
  unfold takeWriteEntry
  split
  · split
    · exact refused _
    split
    next b edit _ =>
      split
      · exact refused _
      · have idle : (∀ f, s.tbs.active.get f ≠ some b) ∨ tablesDue ⊆ due := safe.imp_left fun safe => (safe.1 b edit).2.2
        exact (setBank_keeps s _ id (fun _ => rfl) (fun _ _ => rfl) idle).trans (answer_keeps _ r _ _)
    · exact refused _
  · exact refused _

/-- The copy's end writes the bank that is not its source, which both faces have in service (R179). -/
theorem endCopy_keeps (s : State) (safe : bankSafe s ∨ tablesDue ⊆ due) : Keeps due s s.endCopy := by
  unfold endCopy
  split
  · exact .refl s
  next c copy =>
    have idle : (∀ f, s.tbs.active.get f ≠ some c.written) ∨ tablesDue ⊆ due := safe.imp_left fun safe f => by
      obtain ⟨written, source⟩ := safe.2.2.2 c copy
      rw [source f, written]
      cases c.source <;> exact nofun
    exact (setBank_keeps s { state := .edit, tables := (s.tbs.bank c.source).tables }
      (fun x => { x with edit := some c.written, copy := none }) (fun _ => rfl) (fun _ b => by cases b <;> rfl) idle).trans
      (raiseDevice_keeps _ _)

theorem stage_keeps (s : State) (b : BankId) : Keeps due s (s.stage b) :=
  modTbs_keeps_of_tables s _ (by cases b <;> rfl) fun _ c _ => by cases b <;> cases c <;> rfl

theorem endValidation_keeps (s : State) : Keeps due s s.endValidation := by
  unfold endValidation
  split
  · exact .refl s
  have ended : Keeps due s (s.modTbs fun x => { x with validation := none }) :=
    modTbs_keeps_of_tables s _ rfl fun _ b _ => by cases b <;> rfl
  dsimp only
  split
  · exact ended.trans (reply_keeps _ _ _ _ _)
  split
  · exact ended.trans (reply_keeps _ _ _ _ _)
  · exact (((ended.trans (stage_keeps _ _)).trans (reply_keeps _ _ _ _ _)).trans (testAdoption_keeps _ .A)).trans
      (testAdoption_keeps _ .B)

theorem snapshotDone_keeps (s : State) : Keeps due s s.snapshotDone := by
  unfold snapshotDone
  split
  · exact .refl s
  · exact (modLif_keeps_of_flags s _ rfl rfl).trans (reply_keeps _ _ _ _ _)

/-- No counter bears on proof, on the conditions or on the flags. -/
theorem cleared_keeps (s : State) (x : Clearing) : Keeps due s (s.cleared x) := by
  refine .of_footing rfl fun f => ?_
  have doors : ((s.face f).doors.map zeroDoor).all Door.countsClosed = (s.face f).doors.all Door.countsClosed := by
    rw [List.all_map]
    rfl
  have requirements : (s.cleared x).proofBlockers f = s.proofBlockers f := by
    simp only [proofBlockers, cleared_face, cleared_gap, zeroCounters_zones, zeroFace, doors, List.all_map]
    rfl
  simp only [footing, requirements, cleared_face, zeroFace]
  rfl

theorem clearDone_keeps (s : State) : Keeps due s s.clearDone := by
  cases h : s.lif.clearing with
  | none => rw [clearDone, h]; exact .refl s
  | some x => rw [clearDone_of_clearing h]; exact (cleared_keeps s x).trans (raiseDevice_keeps _ _)

/-! ### SOFT_RESET -/

/-- A Proof Unit that begins afresh is NOT_HELD with its loop output open and without conditions; its alert output and its blockers
are formed later in the step (R164). -/
theorem proofSoftReset_keeps (s : State) (f : Face) (alert : (.alert, f) ∈ due) (blockers : (.blockers, f) ∈ due) :
    Keeps due s (s.proofSoftReset f) := by
  have blocked (b : Blockers) (c : Bool) (unconfigured : b.unconfigured = !c) (doors : b.doors = c) : false = b.isEmpty := by
    cases c <;> simp [Blockers.isEmpty, unconfigured, doors]
  have inactive (x : Option (PerCondition Action)) (p : Action → Bool) : noConditions = filterActions x noConditions p := by
    cases x <;> rfl
  refine .of_face f rfl (by cases f <;> rfl) fun a n held => ?_
  cases a
  case loop => cases f <;> exact ⟨blocked _ _ rfl rfl, rfl⟩
  case alert => exact absurd alert n
  case sets => cases f <;> exact ⟨inactive _ _, inactive _ _⟩
  case blockers => exact absurd blockers n

theorem alnSoftReset_keeps (s : State) : Keeps due s s.alnSoftReset := modAln_keeps s _

/-- A new cycle with every zone UNKNOWN (R104, R119). -/
theorem gapSoftReset_keeps (s : State) : Keeps (blockersDue due) s s.gapSoftReset := by
  unfold gapSoftReset
  exact (modGap_keeps s _).trans (modGap_keeps_of_zones _ _ rfl)

/-- The doors' hand-on at a soft reset decides proof (R78, R164). -/
theorem faceSoftReset_keeps {s u : State} {f : Face} (h : Keeps ((.blockers, f) :: due) s u) : Keeps due s (u.faceSoftReset f) :=
  ((((h.trans (modBerth_keeps u f _)).trans (modDeferral_keeps _ f _)).trans (modReports_keeps _ f _)).trans
    (modDoors_keeps _ f _)).doorsHandOn

theorem lineSoftReset_keeps (s : State) (f : Face) : Keeps due s (s.lineSoftReset f) :=
  (modLine_keeps s f _).trans (.opt (nextTurn_keeps _ f))

theorem releaseSoftReset_keeps (s : State) (f : Face) (level : Level) : Keeps due s (s.releaseSoftReset f level) :=
  (modRelease_keeps_of_state s f _ rfl).trans (.opt (applyDoors_keeps _ f _ _))

theorem tbsSoftReset_keeps (s : State) : Keeps due s s.tbsSoftReset :=
  modTbs_keeps_of_tables s _ rfl fun _ b _ => by cases b <;> rfl

/-- The reset's blocks in their order: the blockers are due until the doors' hand-on, the alert outputs until the end
(notes/assumptions/25.md). -/
theorem softReset_keeps (s : State) (evac : PerFace Level) : Keeps due s (s.softReset evac) := by
  have both {g : State → Face → State} (h : ∀ u f, Keeps (alertsDue due) u (g u f)) (u : State) :
      Keeps (alertsDue due) u (g (g u .A) .B) := (h u .A).trans (h _ .B)
  have link : Keeps (alertsDue due) s (s.lifSoftReset.raiseDevice .reset) := (modLif_keeps s _).trans (raiseDevice_keeps _ .reset)
  have begun : Keeps (blockersDue (alertsDue due)) s _ := link.mono (List.subset_cons_of_subset _ (List.subset_cons_self _ _))
  have proof := (begun.trans (proofSoftReset_keeps _ .A (by simp) (by simp))).trans
    (proofSoftReset_keeps _ .B (by simp) (by simp))
  have doors := faceSoftReset_keeps (faceSoftReset_keeps ((proof.trans (alnSoftReset_keeps _)).trans (gapSoftReset_keeps _)))
  have lines := (doors.trans (both lineSoftReset_keeps _)).trans (both decide_keeps _)
  have releases := (lines.trans (releaseSoftReset_keeps _ .A evac.a)).trans (releaseSoftReset_keeps _ .B evac.b)
  have tables := (releases.trans (tbsSoftReset_keeps _)).trans (both testAdoption_keeps _)
  exact (tables.trans (both testEvacuation_keeps _)).refreshAlerts

/-! ### The requests -/

/-- What is done and then answered. -/
theorem done_keeps {s u : State} (h : Keeps due s u) (q : Request) : Keeps due s (u.done q) := h.trans (answer_keeps u q _ _)

theorem withFace_keeps (s : State) (r : Request) (k : Face → State) (hk : ∀ f, Keeps due s (k f)) : Keeps due s (s.withFace r k) := by
  unfold withFace
  split
  · exact refuse_keeps s r _
  · exact hk _

theorem withConfigured_keeps (s : State) (r : Request) (k : Face → State) (hk : ∀ f, Keeps due s (k f)) :
    Keeps due s (s.withConfigured r k) := withFace_keeps s r _ fun f => .ite (hk f) (refuse_keeps s r _)

theorem withNoFields_keeps (s : State) (r : Request) (k : State) (hk : Keeps due s k) : Keeps due s (s.withNoFields r k) :=
  .ite hk (refuse_keeps s r _)

theorem withDoor_keeps (s : State) (r : Request) (k : Face → Door → State) (hk : ∀ f d, Keeps due s (k f d)) :
    Keeps due s (s.withDoor r k) :=
  withConfigured_keeps s r _ fun f => by
    split
    · exact refuse_keeps s r _
    · exact hk f _

theorem takeOpenFace_keeps (r : Request) (s : State) : Keeps due s (takeOpenFace r s) :=
  withConfigured_keeps s r _ fun f => withNoFields_keeps s r _ <| by
    split
    · exact refuse_keeps s r _
    · exact done_keeps (((cancelDeferral_keeps s f).trans (applyDoors_keeps _ f _ _)).trans (enterDwelling_keeps _ f)) r

theorem modHolds_keeps (s : State) (x : Vector (Option HoldEntry) 8) : Keeps due s { s with holds := x } := .of_footing rfl fun _ => rfl

theorem takeCloseFace_keeps (r : Request) (s : State) : Keeps due s (takeCloseFace r s) :=
  withConfigured_keeps s r _ fun f => withNoFields_keeps s r _ <| by
    refine .ite (refuse_keeps s r _) (.ite (answer_keeps s r _ _) ?_)
    split
    · exact (((modHolds_keeps s _).trans (modDeferral_keeps _ f _)).trans (partnerDwellLapse_keeps _ f)).trans (answer_keeps _ r _ _)
    · exact done_keeps (applyDoors_keeps s f _ _) r

theorem takeReopenDoor_keeps (r : Request) (s : State) : Keeps due s (takeReopenDoor r s) :=
  withDoor_keeps s r _ fun f d => by
    split
    · exact refuse_keeps s r _
    · exact done_keeps (applyDoor_keeps s f _ _) r

theorem takeCloseDoor_keeps (r : Request) (s : State) : Keeps due s (takeCloseDoor r s) :=
  withDoor_keeps s r _ fun f _ => .ite (refuse_keeps s r _) (.ite (done_keeps (applyDoor_keeps s f _ _) r) (refuse_keeps s r _))

theorem takeIsolateDoor_keeps (r : Request) (s : State) : Keeps due s (takeIsolateDoor r s) :=
  withDoor_keeps s r _ fun f _ => done_keeps (applyDoorRestore_keeps s f _ _) r

theorem takeReturnDoor_keeps (r : Request) (s : State) : Keeps due s (takeReturnDoor r s) :=
  withDoor_keeps s r _ fun f _ => .ite (done_keeps (applyDoorRestore_keeps s f _ _) r) (refuse_keeps s r _)

theorem takeHoldAdd_keeps (r : Request) (s : State) : Keeps due s (takeHoldAdd r s) :=
  withConfigured_keeps s r _ fun f => by
    split
    · exact refuse_keeps s r _
    split
    · exact refuse_keeps s r _
    · exact (modHolds_keeps s _).trans (answer_keeps _ r _ _)

theorem takeHoldCancel_keeps (r : Request) (s : State) : Keeps due s (takeHoldCancel r s) :=
  withFace_keeps s r _ fun f => by
    split
    · exact refuse_keeps s r _
    · exact .ite (done_keeps (modHolds_keeps s _) r) (refuse_keeps s r _)

theorem acceptRestore_keeps (s : State) (f : Face) (seq : Byte) : Keeps due s (s.acceptRestore f seq) :=
  (modRelease_keeps_of_state s f _ rfl).trans
    (.ite (becomeNormal_keeps _ f) ((setRelease_keeps _ f .restoring).trans (applyDoors_keeps _ f _ _)))

theorem takeRestore_keeps (r : Request) (s : State) : Keeps due s (takeRestore r s) :=
  withFace_keeps s r _ fun f => by
    have refused (x : Reason) : Keeps due s _ := refuse_keeps s r x
    have protects : Keeps due s (s.protectRestore r f) :=
      ((modRelease_keeps_of_state s f _ rfl).trans (raiseFace_keeps _ f _)).trans (answer_keeps _ r _ _)
    split
    · exact refused _
    · exact .ite (refused _) (.ite (refused _) (.ite protects
        (.ite (refused _) (.ite (refused _) (done_keeps (acceptRestore_keeps s f _) r)))))

theorem takeEvacuate_keeps (r : Request) (s : State) : Keeps due s (takeEvacuate r s) :=
  withFace_keeps s r _ fun f => withNoFields_keeps s r _ <|
    .ite (done_keeps ((modRelease_keeps_of_state s f _ rfl).trans (.ite (.refl _) (beginEvacuation_keeps _ f))) r) (refuse_keeps s r _)

theorem takeInput_keeps (s : State) (f : Face) (l : Level) : Keeps due s (s.takeInput f l) :=
  (modRelease_keeps_of_state s f _ rfl).trans (testEvacuation_keeps _ f)

theorem takeTunnel_keeps (r : Request) (s : State) : Keeps due s (takeTunnel r s) :=
  withConfigured_keeps s r _ fun f => by
    split
    · exact refuse_keeps s r _
    split
    · exact refuse_keeps s r _
    · exact .ite (refuse_keeps s r _) (.ite (refuse_keeps s r _) (modLine_keeps s f _))

theorem takeReadEntry_keeps (r : Request) (s : State) : Keeps due s (takeReadEntry r s) := by
  unfold takeReadEntry
  split
  · split
    · exact .ite (refuse_keeps s r _) (answer_keeps s r _ _)
    · exact refuse_keeps s r _
  · exact refuse_keeps s r _

theorem takeActivate_keeps (r : Request) (s : State) : Keeps due s (takeActivate r s) := by
  unfold takeActivate
  split
  · exact refuse_keeps s r _
  · exact .ite (refuse_keeps s r _) (.ite (refuse_keeps s r _)
      (modTbs_keeps_of_tables s _ rfl fun _ b _ => by cases b <;> rfl))

theorem drawFree_keeps (s : State) : Keeps due s s.drawFree := .opt (.of_footing rfl fun _ => rfl)

theorem takeReadStatus_keeps (r : Request) (s : State) : Keeps due s (takeReadStatus r s) := by
  unfold takeReadStatus
  split
  · exact refuse_keeps s r _
  · exact (drawFree_keeps s).trans (answer_keeps _ r _ _)

theorem takeReadDoor_keeps (r : Request) (s : State) : Keeps due s (takeReadDoor r s) :=
  withDoor_keeps s r _ fun _ _ => (drawFree_keeps s).trans (answer_keeps _ r _ _)

/-- New routes leave the alert outputs due, which are refreshed at the end (R186). -/
theorem takeSetDevice_keeps (r : Request) (s : State) : Keeps due s (takeSetDevice r s) := by
  have installed (limit : Nat) (routes : Vector Route 23) : Keeps due s (s.installDevice limit routes) :=
    (((modLif_keeps s _).trans (modLif_keeps _ _)).trans (.opt (degrade_keeps _))).refreshAlerts
  unfold takeSetDevice
  split
  · exact refuse_keeps s r _
  · exact done_keeps (installed _ _) r

theorem takeReadEvents_keeps (r : Request) (s : State) : Keeps due s (takeReadEvents r s) := by
  unfold takeReadEvents
  split
  · exact refuse_keeps s r _
  · exact (modLif_keeps s _).refreshAlerts.trans (answer_keeps _ r _ _)

theorem takeReadCounters_keeps (r : Request) (s : State) : Keeps due s (takeReadCounters r s) := by
  unfold takeReadCounters
  split
  · exact refuse_keeps s r _
  refine .ite (refuse_keeps s r _) ?_
  split
  · exact refuse_keeps s r _
  · exact answer_keeps s r _ _

theorem takeSnapshot_keeps (r : Request) (s : State) : Keeps due s (takeSnapshot r s) :=
  withNoFields_keeps s r _ (.ite (refuse_keeps s r _) (modLif_keeps_of_flags s _ rfl rfl))

theorem takeClear_keeps (r : Request) (s : State) : Keeps due s (takeClear r s) :=
  withNoFields_keeps s r _ (.ite (refuse_keeps s r _) (modLif_keeps_of_flags s _ rfl rfl))

/-! ### The timers -/

theorem tunnelLapse_keeps (s : State) (f : Face) : Keeps due s (s.tunnelLapse f) := by
  unfold tunnelLapse
  split
  · exact .refl s
  · exact .opt (endTunnel_keeps s f _ _)

end State

/-! ### A step -/

/-- What a whole step keeps of the aspects that are not due, whether the part runs or not. -/
def SafeKept (due : List (Aspect × Face)) (s u : State) : Prop := ∀ a : Aspect, (∀ f, (a, f) ∉ due) → a.Safe s → a.Safe u

variable {due : List (Aspect × Face)}

theorem Keeps.safeKept {s u : State} (h : Keeps due s u) (on : s.running = true) : SafeKept due s u := fun a n safe f => by
  rw [h.running, on]
  exact h.holds a f (n f) (on ▸ safe f)

theorem SafeKept.of_footing {s u : State} (running : u.running = s.running) (h : ∀ f, u.footing f = s.footing f) : SafeKept due s u :=
  fun _ _ safe f => by
    rw [running, h]
    exact safe f

theorem SafeKept.trans {s u v : State} (h : SafeKept due s u) (k : SafeKept due u v) : SafeKept due s v :=
  fun a n safe => k a n (h a n safe)

/-- A part that does not run has its outputs open and released; its conditions stand (R160, R201, notes/assumptions/27.md). -/
theorem SafeKept.of_silenced {s u : State} (off : u.running = false)
    (h : ∀ f, u.footing f = { s.footing f with loopClosed := false, alertDriven := false }) : SafeKept due s u := fun a _ safe f => by
  rw [off, h]
  cases a
  case loop => exact ⟨(safe f).1, (Bool.and_false _).symm⟩
  case alert => exact (Bool.and_false _).symm
  case sets => exact safe f
  case blockers => exact nofun

namespace State

theorem opened_keeps (s : State) (t : Micros) : Keeps due s (s.opened t) :=
  (Keeps.of_footing rfl fun _ => rfl : Keeps due s (s.advance t)).trans (arbitrate_keeps _)

/-- The meaning of a command finds the Table Store as the step found it. -/
theorem event_safeKept (s : State) (t : Micros) {k : State → State} (hk : ∀ u, u.tbs = s.tbs → Keeps due u (k u)) :
    SafeKept due s (s.event t k) := by
  cases on : s.running with
  | true =>
    rw [event_running on]
    exact (((opened_keeps s t).trans (hk _ (opened_tbs s t))).trans (arbitrate_keeps _)).safeKept on
  | false =>
    rw [event_idle on]
    exact .of_footing rfl fun _ => rfl

theorem delivery_safeKept (s : State) (t : Micros) {k : State → State} (hk : ∀ u, Keeps due u (k u)) :
    SafeKept due s (s.event t fun u => k u.intactFrame) := event_safeKept s t fun u _ => (intactFrame_keeps u).trans (hk _)

theorem request_safeKept (s : State) (t : Micros) (k : Option RequestKind) {h : Request → State → State}
    (hk : ∀ r u, u.tbs = s.tbs → Keeps due u (h r u)) : SafeKept due s (s.event t fun s => s.takeRequest k h) :=
  event_safeKept s t fun u tables => by
    unfold takeRequest
    split
    · exact .refl u
    · exact .opt ((modLif_keeps_of_flags u _ rfl rfl).trans (hk _ _ tables))

/-- Every block at its power-on state is safe, whether the part then runs or is held in reset (R164, R195, R201). -/
theorem fresh_safe (s : State) (cause : ResetCause) (evac : PerFace Level) (powered resetPin : Bool) (a : Aspect) :
    a.Safe { s.freshBlocks cause evac with powered := powered, resetPin := resetPin } := fun f => by
  have silent : alertDue (LinkInterface.initial cause (s.ms + 2000)) f = false := by cases f <;> rfl
  cases a
  case loop => cases f <;> exact ⟨rfl, rfl⟩
  case alert =>
    change ((s.freshBlocks cause evac).face f).proof.alertDriven = (alertDue (LinkInterface.initial cause (s.ms + 2000)) f && _)
    rw [silent]
    cases f <;> rfl
  case sets => cases f <;> exact ⟨rfl, rfl⟩
  case blockers => cases f <;> exact fun _ => rfl

theorem releasePin_safeKept (s : State) (evac : PerFace Level) : SafeKept due s (s.releasePin evac) := fun a _ safe => by
  unfold releasePin
  split
  · exact fresh_safe s .pin evac s.powered false a
  next unpowered =>
    have off : s.powered = false := by simpa using unpowered
    have same : SafeKept [] s { s with resetPin := false } := .of_footing (by simp [running, off]) fun _ => rfl
    exact same a (by simp) safe

end State

theorem bankSafe_of_tbs {s u : State} (h : u.tbs = s.tbs) (safe : bankSafe s) : bankSafe u := by
  unfold bankSafe
  rw [h]
  exact safe

open State in
/-- A command keeps what is safe of the Proof Units; what the tables in force bear on, where the banks are safe. -/
theorem exec_safeKept (c : Instr) (s u : State) (banks : bankSafe s ∨ tablesDue ⊆ due) (h : exec c s = .next u) :
    SafeKept due s u := by
  have next {v : State} (k : SafeKept due s v) (h : (.next v : Host.Outcome State Fault Refusal) = .next u) : SafeKept due s u := by
    cases h
    exact k
  have event (t : Micros) {k : State → State} (hk : ∀ u, Keeps due u (k u)) : SafeKept due s (s.event t k) :=
    event_safeKept s t fun u _ => hk u
  have request (t : Micros) (k : Option RequestKind) {h : Request → State → State} (hk : ∀ r u, Keeps due u (h r u)) :
      SafeKept due s (s.event t fun s => s.takeRequest k h) := request_safeKept s t k fun r u _ => hk r u
  have still {v : State} (tables : v.tbs = s.tbs) : bankSafe v ∨ tablesDue ⊆ due := banks.imp_left (bankSafe_of_tbs tables)
  have come (t : Micros) : SafeKept due s (s.advance t) := .of_footing rfl fun _ => rfl
  cases c
  case powerOn t evac =>
    exact next (v := (s.advance t).powerUp evac) (fun a _ _ => fresh_safe (s.advance t) .powerOn evac true s.resetPin a) h
  case resetPinAssert t =>
    exact next (v := (s.advance t).assertPin) (.of_silenced (by simp [running, assertPin]) fun f => by cases f <;> rfl) h
  case resetPinRelease t evac => exact next ((come t).trans (releasePin_safeKept _ evac)) h
  case powerLoss t => exact next (v := (s.advance t).powerDown) (.of_silenced rfl fun f => by cases f <;> rfl) h
  case evacInputChange t f l => exact next (event t fun u => takeInput_keeps u f l) h
  case inboundFrameDamaged t => exact next (event t damagedFrame_keeps) h
  case trainFrameDiscarded t => exact next (delivery_safeKept s t fun u => modLif_keeps_of_flags u _ rfl rfl) h
  case arrival t f b => exact next (delivery_safeKept s t fun u => takeArrival_keeps u f b) h
  case position t f b => exact next (delivery_safeKept s t fun u => takePosition_keeps u f b) h
  case departure t f b => exact next (delivery_safeKept s t fun u => takeDeparture_keeps u f b) h
  case cleared t f b => exact next (delivery_safeKept s t fun u => takeCleared_keeps u f b) h
  case requestFrameReceived t r => exact next (delivery_safeKept s t fun u => joinIntake_keeps u r) h
  case transmitFrameEnd t => exact next (event t frameEnd_keeps) h
  case uplinkSilenceExpiry t => exact next (event t silenceLapse_keeps) h
  case requestUndefinedKind t => exact next (request t none fun r u => refuse_keeps u r _) h
  case openFace t => exact next (request t _ takeOpenFace_keeps) h
  case closeFace t => exact next (request t _ takeCloseFace_keeps) h
  case reopenDoor t => exact next (request t _ takeReopenDoor_keeps) h
  case closeDoor t => exact next (request t _ takeCloseDoor_keeps) h
  case isolateDoor t => exact next (request t _ takeIsolateDoor_keeps) h
  case returnDoor t => exact next (request t _ takeReturnDoor_keeps) h
  case holdAdd t => exact next (request t _ takeHoldAdd_keeps) h
  case holdCancel t => exact next (request t _ takeHoldCancel_keeps) h
  case restore t => exact next (request t _ takeRestore_keeps) h
  case evacuate t => exact next (request t _ takeEvacuate_keeps) h
  case tunnel t => exact next (request t _ takeTunnel_keeps) h
  case writeEntry t => exact next (request_safeKept s t _ fun r u tables => takeWriteEntry_keeps r u (still tables)) h
  case readEntry t => exact next (request t _ takeReadEntry_keeps) h
  case activate t => exact next (request t _ takeActivate_keeps) h
  case readStatus t => exact next (request t _ takeReadStatus_keeps) h
  case readDoor t => exact next (request t _ takeReadDoor_keeps) h
  case setDevice t => exact next (request t _ takeSetDevice_keeps) h
  case readEvents t => exact next (request t _ takeReadEvents_keeps) h
  case snapshotCounters t => exact next (request t _ takeSnapshot_keeps) h
  case readCounters t => exact next (request t _ takeReadCounters_keeps) h
  case clearCounters t => exact next (request t _ takeClear_keeps) h
  case softReset t evac => exact next (request t _ fun r u => withNoFields_keeps u r _ (softReset_keeps u evac)) h
  case supervisionExpiry t f => exact next (event t fun u => supervisionLapse_keeps u f) h
  case alignmentComplete t => exact next (event t completeAlignment_keeps) h
  case openTimeoutExpiry t f n => exact next (event t fun u => .opt (applyDoor_keeps u f n _)) h
  case closeTimeoutExpiry t f n => exact next (event t fun u => .opt (applyDoor_keeps u f n _)) h
  case recycleDwellExpiry t f n => exact next (event t fun u => .opt (applyDoor_keeps u f n _)) h
  case obstructionReport t f n => exact next (event t fun u => takeObstruction_keeps u f n) h
  case holdMaximumExpiry t f => exact next (event t fun u => .opt (endWithClose_keeps u f _)) h
  case partnerDwellExpiry t f => exact next (event t fun u => partnerDwellLapse_keeps u f) h
  case turnAnswer t f b p => exact next (event t fun u => takeAnswer_keeps u f b p) h
  case answerWindowExpiry t f => exact next (event t fun u => windowExpiry_keeps u f) h
  case lateFrameDiscarded t f => exact next (event t .refl) h
  case tunnelTimeout t f => exact next (event t fun u => tunnelLapse_keeps u f) h
  case scanFrameArrival t b p => exact next (event t fun u => takeScan_keeps u b p) h
  case sensorCycleEnd t => exact next (event t cycleEnd_keeps) h
  case periodicProofExpiry t f => exact next (event t fun u => periodicExpiry_keeps u f) h
  case validationComplete t => exact next (event t endValidation_keeps) h
  case copyComplete t => exact next (event_safeKept s t fun u tables => endCopy_keeps u (still tables)) h
  case snapshotReady t => exact next (event t snapshotDone_keeps) h
  case counterClearComplete t => exact next (event t clearDone_keeps) h

/-- A step keeps them; on an empty queue the block idles. -/
theorem step_safeKept (s u : State) (banks : bankSafe s ∨ tablesDue ⊆ due) (h : step s = .next u) : SafeKept due s u := by
  unfold step at h
  split at h
  · cases h
    exact fun _ _ => id
  next c rest _ =>
    have taken : SafeKept due s { s with pending := rest } := .of_footing rfl fun _ => rfl
    exact taken.trans (exec_safeKept c _ u banks h)

/-- Settles O53: operation by operation, whatever changes a requirement of proof is followed by a decision, new actions in force by
sets formed again, and new flags or routes by refreshed alert outputs; a bank that is written is in service for no face. -/
theorem everyStepKeepsOutputsSafe : Obligations.EveryStepKeepsOutputsSafe := by
  have anyway {s u : State} (h : step s = .next u) : SafeKept tablesDue s u := step_safeKept s u (.inr (List.Subset.refl _)) h
  have banked {s u : State} (banks : bankSafe s) (h : step s = .next u) : SafeKept [] s u := step_safeKept s u (.inl banks) h
  refine ⟨fun s u safe h => ?_, fun s u safe h => ?_, fun s u banks safe h => ?_, fun s u banks safe h => ?_⟩
  · exact (proofSafe_iff u).2 (anyway h .loop (by simp [tablesDue]) ((proofSafe_iff s).1 safe))
  · exact (alertSafe_iff u).2 (anyway h .alert (by simp [tablesDue]) ((alertSafe_iff s).1 safe))
  · exact (setsFormed_iff u).2 (banked banks h .sets (by simp) ((setsFormed_iff s).1 safe))
  · exact (blockersCurrent_iff u).2 (banked banks h .blockers (by simp) ((blockersCurrent_iff s).1 safe))

end Sys2Proof.Machine
end

section
/-! PROOFS. O2: an unpowered or reset part (R160, R201). -/

namespace Sys2Proof.Machine

/-- Every command but the four of the supply and the pin is an event at its time. -/
theorem exec_event (c : Instr) (powerOn : ∀ t e, c ≠ .powerOn t e) (assert : ∀ t, c ≠ .resetPinAssert t)
    (release : ∀ t e, c ≠ .resetPinRelease t e) (loss : ∀ t, c ≠ .powerLoss t) :
    ∃ k : State → State, ∀ s, exec c s = .next (s.event c.time k) := by
  cases c
  case powerOn t e => exact absurd rfl (powerOn t e)
  case resetPinAssert t => exact absurd rfl (assert t)
  case resetPinRelease t e => exact absurd rfl (release t e)
  case powerLoss t => exact absurd rfl (loss t)
  all_goals exact ⟨_, fun _ => rfl⟩

namespace State

theorem silence_face (s : State) (f : Face) : s.silence.face f =
    { s.face f with
      proof := { (s.face f).proof with loopClosed := false, alertDriven := false }, line := { (s.face f).line with turn := none } } := by
  cases f <;> rfl

/-- Silence takes the turns from the lines, and nothing else from the blocks. -/
theorem silence_blocks (s : State) : s.silence.blocks =
    { s.blocks with faces := s.blocks.faces.map fun b => { b with line := { b.line with turn := none } } } := rfl

end State

/-- Settles O2: the two commands silence the part and note the supply or the pin; every other one but their two opposites is an event,
which a part that does not run takes by its time alone. -/
theorem heldInResetNothingHappens : Obligations.HeldInResetNothingHappens := by
  have proof (s : State) (f : Face) : (s.silence.face f).proof = { (s.face f).proof with loopClosed := false, alertDriven := false } ∧
      (s.silence.face f).line.turn = none := by
    rw [State.silence_face]
    exact ⟨rfl, rfl⟩
  refine ⟨fun s t => ⟨⟨_, rfl, Bool.and_false _, rfl, proof (s.advance t), ?_⟩, ⟨_, rfl, rfl, rfl, proof (s.advance t), ?_⟩⟩,
    fun c s off powerOn assert release loss => ?_⟩
  · exact congrArg (fun b : Blocks => { b with resetPin := true }) (s.advance t).silence_blocks
  · exact congrArg (fun b : Blocks => { b with powered := false }) (s.advance t).silence_blocks
  · obtain ⟨k, event⟩ := exec_event c powerOn assert release loss
    rw [event, State.event_idle off]

end Sys2Proof.Machine
end

section
/-! PROOFS. O50: a decision of proof, and the periodic telegram (R153 to R156, R160 to R162). -/

namespace Sys2Proof.Machine

theorem Blockers.isEmpty_eq (b : Blockers) : b.isEmpty = decide (b = ⟨false, false, false, false, false⟩) := by
  obtain ⟨unconfigured, doors, zones, release, forcing⟩ := b
  simp [Blockers.isEmpty, Bool.and_assoc]

namespace State

/-- A decision forms a CHANGED telegram where it changes proof, with the values that it leaves (R156, R161, R162). -/
theorem decide_lif (s : State) (f : Face) : (s.decide f).lif = { s.lif with changed :=
    if ((s.decide f).face f).proof.held = (s.face f).proof.held then s.lif.changed
    else s.lif.changed ++ [(s.decide f).formTelegram f .changed] } := by
  rw [decide_proof]
  unfold decide
  dsimp only
  rw [modProof_same]
  split <;> simp [formTelegram]

/-- The telegram of an expiry is formed with the values of the step that it falls in (R161, R162). -/
theorem periodicExpiry_due {s : State} {f : Face} (due : (s.face f).proof.periodicAt ≤ s.ms) : s.periodicExpiry f =
    s.modProof f fun p => { p with pending := some (s.formTelegram f .periodic), periodicAt := p.periodicAt + 200 } := by
  simp [periodicExpiry, State.due, due]

theorem opened_formTelegram (s : State) (t : Micros) (f : Face) (k : ProofKind) : (s.opened t).formTelegram f k =
    { s.formTelegram f k with formedAt := max s.now t } := by simp [formTelegram]

end State

/-- Settles O50: what a decision writes, and the expiry of a timer that is due. -/
theorem proofIsDecidedAndTelegraphed : Obligations.ProofIsDecidedAndTelegraphed := by
  refine ⟨fun s f => ?_, fun s t f on due => ?_⟩
  · have proof := State.decide_proof s f
    refine ⟨?_, ?_, ?_, ?_, State.decide_lif s f, State.decide_blocks s f⟩ <;> rw [proof]
    · rw [State.decidedProof, ← failingRequirements_eq, Bool.decide_eq_true]
      rfl
    · exact Blockers.isEmpty_eq _
    · rfl
    · simp [State.decidedProof]
  · have due' : ((s.opened t).face f).proof.periodicAt ≤ (s.opened t).ms := by simpa [State.ms] using due
    change Host.Outcome.next (s.event t fun s => s.periodicExpiry f) = _
    rw [State.event_running on, State.periodicExpiry_due due', State.opened_formTelegram]
    rfl

end Sys2Proof.Machine
end

section
/-! PROOFS. O60: the state right after power-on (R153, R184, R185, R195, R201). -/

namespace Sys2Proof.Machine

theorem reset_face (f : Face) : State.reset.face f = FaceState.initial .deasserted 200 := by cases f <;> rfl

/-- The state right after power-on is that of the fresh blocks, so its Proof Units are safe. -/
theorem reset_safe (a : Aspect) : a.Safe State.reset := State.fresh_safe State.reset .powerOn ⟨.deasserted, .deasserted⟩ true false a

/-- No bank is in service, staged, in validation or copied (R166). -/
theorem reset_bankSafe : bankSafe State.reset :=
  ⟨fun _ _ => ⟨rfl, rfl, fun f => by cases f <;> exact nofun⟩, nofun, nofun, nofun⟩

/-- There is no zone, and every head's window is empty (R118). -/
theorem reset_gapSafe : gapSafe State.reset := by
  refine (gapSafe_iff _).2 ⟨.of_none fun f => by cases f <;> exact nofun, fun h hh => ?_⟩
  obtain ⟨n, -, rfl⟩ := List.mem_map.1 hh
  exact .of_empty rfl rfl nofun

/-- Settles O60: no face has a train, a door or a mark, and the queues are empty. -/
theorem resetIsSafe : Obligations.ResetIsSafe := by
  refine ⟨reset_safe .loop, reset_safe .alert, fun f => ?_, fun f => ?_, reset_bankSafe, ⟨Nat.zero_le 8, Nat.zero_le 8⟩, reset_gapSafe,
    fun f => ?_, (setsFormed_iff _).2 (reset_safe .sets), (blockersCurrent_iff _).2 (reset_safe .blockers), fun f => ?_⟩
  · simp [reset_face, FaceState.initial, Berth.initial]
  · simp [reset_face, FaceState.initial, Release.initial]
  · simp [reset_face, FaceState.initial]
  · simp [reset_face, FaceState.initial, Release.initial]

end Sys2Proof.Machine
end
